-- ==== Sys2Proof/Word.lean ====
section
/-! DEFINITION. The word of the record space and the frame of a port. -/

namespace Sys2Proof

/-- A word of the record space, the journal or a sample (R193). -/
abbrev Word := BitVec 16

/-- A frame moved by one exchange on a port (R180, R194). -/
abbrev Frame := BitVec 32

/-- A word address of the record space, 0 to 1023 (R184). -/
abbrev Address := BitVec 10

end Sys2Proof
end

