-- ==== Sys2Proof/Config.lean ====
section
/-! DEFINITION. What the part fixes for good (periods, sizes, ends of ranges) and the free values. -/

namespace Sys2Proof.Config

/-- Evaluation period in ms (R59). -/
def evaluationPeriod : Nat := 10

/-- Length of a self-check in ms (R13). -/
def selfCheckTime : Nat := 2

/-- Time a hold line level must be held to be taken, in ms (R55). -/
def holdSampleTime : Nat := 1

/-- Length of a record write in ms (R156). -/
def writeTime : Nat := 20

/-- Length of an erase in ms (R155). -/
def eraseTime : Nat := 150

/-- Slots of one journal segment (R149). -/
def segmentSlots : Nat := 32

/-- Words of one journal slot (R149). -/
def slotWords : Nat := 13

/-- Words of one journal segment (R155). -/
def segmentWords : Nat := 416

/-- What an erased word of the journal reads (R149). -/
def erasedWord : Word := 0xFFFF#16

/-- The last sequence number a record may carry (R149). -/
def lastSequence : Nat := 4294967294

/-- Samples the ring holds (R161). -/
def ringSize : Nat := 8192

/-- The last sample number (R161). -/
def lastSample : Nat := 4294967295

/-- Words a dump queue holds (R174). -/
def queueSize : Nat := 16

/-- Words of one sample (R160). -/
def sampleWords : Nat := 10

/-- The end of the range of a wear total (R134). -/
def maxTotal : Nat := 4294967295

/-- The end of the range of an energy flow, in either sense (R122). -/
def maxFlow : Int := 2147483647

/-- The end of the range of the lining temperature in 1/256 degree (R129). -/
def maxThetaFine : Int := 230400

/-- FREE VALUE: word `k` of a segment whose erase was cut off, for the `count`-th free value taken.
The spec calls such a segment "neither free nor reliably readable" (R159); entry 7. -/
opaque eraseRemnant (count k : Nat) : Word

/-- FREE VALUE: the descriptor-id bits of a dump context whose source is a range, for the `count`-th free
value taken. R196 names the bits and no rule gives their value there; entry 17. -/
opaque rangeIdBits (count : Nat) : BitVec 2

end Sys2Proof.Config
end

