-- ==== Sys2Proof/Syntax.lean ====
section
/-! DEFINITION. The commands of the part: one constructor of `Instr` for each row of spec/opcode_table.json. -/

namespace Sys2Proof

/-- The five serial ports (R180). -/
inductive Port | p0 | p1 | p2 | p3 | p4
  deriving DecidableEq, Repr

/-- The five roles in the order of the role index (R193). -/
inductive Role | vehicle | genset | storage | traction | brake
  deriving DecidableEq, Repr

/-- One value for each port. -/
structure PerPort (α : Type) where
  p0 : α
  p1 : α
  p2 : α
  p3 : α
  p4 : α
  deriving DecidableEq, Repr

/-- The four timers of the genset manager (R105). -/
inductive GensetTimer | minRun | minOff | start | absorbExit
  deriving DecidableEq, Repr

/-- A level of the driveline hold line (R55). -/
inductive LineLevel | low | high
  deriving DecidableEq, Repr

/-- Journal cells that read otherwise than they were meant to: the index of the word within the slot or the
segment, and what it reads (R155, R156); entry 8. -/
abbrev CellFaults := List (Nat × Word)

/-- How a record write in flight was cut off: how many of its words had been written, and which of them came
out wrong (R149, R159); entry 8. Nothing is read of it when no write is in flight. -/
structure WriteCut where
  words : Nat
  faults : CellFaults
  deriving DecidableEq, Repr

/-- Which of the four steps of a self-check would fail (R12); entry 11. -/
structure StepFailures where
  step0 : Bool
  step1 : Bool
  step2 : Bool
  step3 : Bool
  deriving DecidableEq, Repr

/-- The commands. A frame carries its port; a READ or WRITE its advance bit; a REQUEST its five-bit operand
where the request uses one (R189, R194; entries 28 and 29). -/
inductive Instr
  | powerOn (straps : PerPort (BitVec 3))
  | resetAssert (cut : WriteCut)
  | resetLineRelease (straps : PerPort (BitVec 3))
  | selfCheckEnd (failures : StepFailures)
  | holdLineSample (level : LineLevel)
  | brokenExchange (p : Port)
  | badframe (p : Port) (echoed : BitVec 4)
  | poll (p : Port)
  | cursor (p : Port) (address : Address) (payload : Word)
  | write (p : Port) (advance : Bool) (word : Word)
  | reportWordWrite (p : Port) (advance : Bool) (word : Word)
  | stagedSettingWrite (p : Port) (advance : Bool) (word : Word)
  | dumpRangeRecordWrite (p : Port) (advance : Bool) (word : Word)
  | capture (p : Port) (advance : Bool)
  | counterCapture (p : Port) (advance : Bool)
  | latchCapture (p : Port) (advance : Bool)
  | noticeCapture (p : Port) (advance : Bool)
  | wearStatusCapture (p : Port) (advance : Bool)
  | dumpStreamRead (p : Port) (advance : Bool)
  | runStandby (p : Port)
  | runActive (p : Port)
  | runHalt (p : Port)
  | selfCheck (p : Port)
  | apply (p : Port)
  | discard (p : Port)
  | saveWear (p : Port)
  | wearReset (p : Port) (operand : BitVec 5)
  | trigger (p : Port)
  | release (p : Port) (operand : BitVec 5)
  | dumpSnapshot (p : Port) (operand : BitVec 5)
  | dumpRange (p : Port)
  | dumpCancel (p : Port)
  | cursorMode (p : Port) (operand : BitVec 5)
  | evaluation
  | linkDeadlineExpiry (r : Role)
  | slipHoldExpiry
  | gensetTimerEnd (t : GensetTimer)
  | periodicCheckpointExpiry
  | writeVerify (faults : CellFaults)
  | eraseEnd (faults : CellFaults)
  | sample
  | powerFailure (cut : WriteCut)
  deriving DecidableEq, Repr

end Sys2Proof
end

