-- ==== Sys2Proof/WellFormed.lean ====
section
/-! DEFINITION. Which commands are well formed: only the journal's cells need a check, every other operand is
bounded by its type. -/

namespace Sys2Proof

/-- The indices of the cells rise strictly and stay below `limit`. -/
def cellsInOrder (limit : Nat) : CellFaults → Bool
  | [] => true
  | [c] => decide (c.1 < limit)
  | c :: d :: rest => decide (c.1 < d.1) && cellsInOrder limit (d :: rest)

/-- A cut-off write has written at most the thirteen words of a record (R149). -/
def WriteCut.wellFormed (cut : WriteCut) : Bool :=
  decide (cut.words ≤ Config.slotWords) && cellsInOrder Config.slotWords cut.faults

/-- A cell that fails its erase reads something else than FFFFh (R155). -/
def eraseFaultsDiffer (faults : CellFaults) : Bool :=
  faults.all fun c => c.2 != Config.erasedWord

/-- A command as a sender may give it. -/
def Instr.wellFormed : Instr → Bool
  | .powerOn _ => true
  | .resetAssert cut => cut.wellFormed
  | .resetLineRelease _ => true
  | .selfCheckEnd _ => true
  | .holdLineSample _ => true
  | .brokenExchange _ => true
  | .badframe _ _ => true
  | .poll _ => true
  | .cursor _ _ _ => true
  | .write _ _ _ => true
  | .reportWordWrite _ _ _ => true
  | .stagedSettingWrite _ _ _ => true
  | .dumpRangeRecordWrite _ _ _ => true
  | .capture _ _ => true
  | .counterCapture _ _ => true
  | .latchCapture _ _ => true
  | .noticeCapture _ _ => true
  | .wearStatusCapture _ _ => true
  | .dumpStreamRead _ _ => true
  | .runStandby _ => true
  | .runActive _ => true
  | .runHalt _ => true
  | .selfCheck _ => true
  | .apply _ => true
  | .discard _ => true
  | .saveWear _ => true
  | .wearReset _ _ => true
  | .trigger _ => true
  | .release _ _ => true
  | .dumpSnapshot _ _ => true
  | .dumpRange _ => true
  | .dumpCancel _ => true
  | .cursorMode _ _ => true
  | .evaluation => true
  | .linkDeadlineExpiry _ => true
  | .slipHoldExpiry => true
  | .gensetTimerEnd _ => true
  | .periodicCheckpointExpiry => true
  | .writeVerify faults => cellsInOrder Config.slotWords faults
  | .eraseEnd faults => cellsInOrder Config.segmentWords faults && eraseFaultsDiffer faults
  | .sample => true
  | .powerFailure cut => cut.wellFormed

end Sys2Proof
end

