-- ==== Sys2Proof/Decode.lean ====
section
/-! DEFINITION. The opcode table gives no row any bits, so `decodeTableWord` answers none for every word.
Beside it stands the frame layer of a port: the 32-bit request frame of R194 read as a command, and written. -/

namespace Sys2Proof

/-- The table gives no row bits: no word spells a command. -/
def decodeTableWord (_nbits _w : Nat) : Option Instr := none

/-- Exclusive or of the bits of `x` (R181). -/
def bitParity {n : Nat} (x : BitVec n) : Bool :=
  (List.range n).foldl (fun b i => b ^^ x.getLsbD i) false

/-- The command field, bits 31 to 28 (R194). -/
def Frame.command (f : Frame) : BitVec 4 := f.extractLsb' 28 4

/-- The advance bit, bit 27 (R194). -/
def Frame.advance (f : Frame) : Bool := f.getLsbD 27

/-- The argument, bits 26 to 17: the address of a CURSOR frame (R194). -/
def Frame.argument (f : Frame) : Address := f.extractLsb' 17 10

/-- The request code, bits 26 to 22 (R194). -/
def Frame.requestCode (f : Frame) : BitVec 5 := f.extractLsb' 22 5

/-- The operand of a request, bits 21 to 17 (R194). -/
def Frame.operand (f : Frame) : BitVec 5 := f.extractLsb' 17 5

/-- The payload, bits 16 to 1 (R194). -/
def Frame.payload (f : Frame) : Word := f.extractLsb' 1 16

/-- The row that a READ at this address stands for (R187, R188; entry 3). -/
def readRow (p : Port) (address : Address) (advance : Bool) : Instr :=
  let a := address.toNat
  if 0x80 ≤ a ∧ a ≤ 0x8A then .counterCapture p advance
  else if 0x90 ≤ a ∧ a ≤ 0x91 then .latchCapture p advance
  else if 0x94 ≤ a ∧ a ≤ 0x95 then .noticeCapture p advance
  else if 0x98 ≤ a ∧ a ≤ 0x99 then .wearStatusCapture p advance
  else if a = 0x140 then .dumpStreamRead p advance
  else .capture p advance

/-- The row that a WRITE at this address stands for (R187; entry 4). -/
def writeRow (p : Port) (address : Address) (advance : Bool) (word : Word) : Instr :=
  let a := address.toNat
  if 0x10 ≤ a ∧ a ≤ 0x3F then .reportWordWrite p advance word
  else if 0x200 ≤ a ∧ a ≤ 0x2FF then .stagedSettingWrite p advance word
  else if 0xA8 ≤ a ∧ a ≤ 0xAA then .dumpRangeRecordWrite p advance word
  else .write p advance word

/-- The request a code names; none for a code beyond 13 (R181, R189). -/
def requestRow (p : Port) (code operand : BitVec 5) : Option Instr :=
  match code.toNat with
  | 0 => some (.runStandby p)
  | 1 => some (.runActive p)
  | 2 => some (.runHalt p)
  | 3 => some (.selfCheck p)
  | 4 => some (.apply p)
  | 5 => some (.discard p)
  | 6 => some (.saveWear p)
  | 7 => some (.wearReset p operand)
  | 8 => some (.trigger p)
  | 9 => some (.release p operand)
  | 10 => some (.dumpSnapshot p operand)
  | 11 => some (.dumpRange p)
  | 12 => some (.dumpCancel p)
  | 13 => some (.cursorMode p operand)
  | _ => none

/-- The command a 32-bit request frame on port `p` is, when the port's read and write cursors stand at
`readAt` and `writeAt`. Bad parity, an unknown command and an unknown request code are BADFRAME (R181). -/
def decodeFrame (p : Port) (readAt writeAt : Address) (f : Frame) : Instr :=
  if bitParity f then .badframe p f.command
  else match f.command.toNat with
    | 0 => .poll p
    | 1 => .cursor p f.argument f.payload
    | 2 => readRow p readAt f.advance
    | 3 => writeRow p writeAt f.advance f.payload
    | 4 => (requestRow p f.requestCode f.operand).getD (.badframe p f.command)
    | _ => .badframe p f.command

/-- Thirty-one bits with the parity bit below them that makes the whole even (R181). -/
def withParity (body : BitVec 31) : Frame := body ++ BitVec.ofBool (bitParity body)

/-- A request frame laid out from its fields (R194). -/
def frameOf (command : BitVec 4) (advance : Bool) (argument : Address) (payload : Word) : Frame :=
  withParity (command ++ BitVec.ofBool advance ++ argument ++ payload)

/-- A REQUEST frame (R189, R194). -/
def requestFrame (code operand : BitVec 5) : Frame := frameOf 4#4 false (code ++ operand) 0#16

/-- The frame a controller sends for a command, fields that are not used being 0; none for a command that is
no whole frame. A bad frame is sent with its parity bit turned over. -/
def encodeFrame : Instr → Option Frame
  | .powerOn _ => none
  | .resetAssert _ => none
  | .resetLineRelease _ => none
  | .selfCheckEnd _ => none
  | .holdLineSample _ => none
  | .brokenExchange _ => none
  | .badframe _ echoed => some (frameOf echoed false 0#10 0#16 ^^^ 1#32)
  | .poll _ => some (frameOf 0#4 false 0#10 0#16)
  | .cursor _ address payload => some (frameOf 1#4 false address payload)
  | .write _ advance word => some (frameOf 3#4 advance 0#10 word)
  | .reportWordWrite _ advance word => some (frameOf 3#4 advance 0#10 word)
  | .stagedSettingWrite _ advance word => some (frameOf 3#4 advance 0#10 word)
  | .dumpRangeRecordWrite _ advance word => some (frameOf 3#4 advance 0#10 word)
  | .capture _ advance => some (frameOf 2#4 advance 0#10 0#16)
  | .counterCapture _ advance => some (frameOf 2#4 advance 0#10 0#16)
  | .latchCapture _ advance => some (frameOf 2#4 advance 0#10 0#16)
  | .noticeCapture _ advance => some (frameOf 2#4 advance 0#10 0#16)
  | .wearStatusCapture _ advance => some (frameOf 2#4 advance 0#10 0#16)
  | .dumpStreamRead _ advance => some (frameOf 2#4 advance 0#10 0#16)
  | .runStandby _ => some (requestFrame 0#5 0#5)
  | .runActive _ => some (requestFrame 1#5 0#5)
  | .runHalt _ => some (requestFrame 2#5 0#5)
  | .selfCheck _ => some (requestFrame 3#5 0#5)
  | .apply _ => some (requestFrame 4#5 0#5)
  | .discard _ => some (requestFrame 5#5 0#5)
  | .saveWear _ => some (requestFrame 6#5 0#5)
  | .wearReset _ operand => some (requestFrame 7#5 operand)
  | .trigger _ => some (requestFrame 8#5 0#5)
  | .release _ operand => some (requestFrame 9#5 operand)
  | .dumpSnapshot _ operand => some (requestFrame 10#5 operand)
  | .dumpRange _ => some (requestFrame 11#5 0#5)
  | .dumpCancel _ => some (requestFrame 12#5 0#5)
  | .cursorMode _ operand => some (requestFrame 13#5 operand)
  | .evaluation => none
  | .linkDeadlineExpiry _ => none
  | .slipHoldExpiry => none
  | .gensetTimerEnd _ => none
  | .periodicCheckpointExpiry => none
  | .writeVerify _ => none
  | .eraseEnd _ => none
  | .sample => none
  | .powerFailure _ => none

/-- The port a frame is exchanged on; none for a command that is no frame. -/
def Instr.port : Instr → Option Port
  | .powerOn _ => none
  | .resetAssert _ => none
  | .resetLineRelease _ => none
  | .selfCheckEnd _ => none
  | .holdLineSample _ => none
  | .brokenExchange p => some p
  | .badframe p _ => some p
  | .poll p => some p
  | .cursor p _ _ => some p
  | .write p _ _ => some p
  | .reportWordWrite p _ _ => some p
  | .stagedSettingWrite p _ _ => some p
  | .dumpRangeRecordWrite p _ _ => some p
  | .capture p _ => some p
  | .counterCapture p _ => some p
  | .latchCapture p _ => some p
  | .noticeCapture p _ => some p
  | .wearStatusCapture p _ => some p
  | .dumpStreamRead p _ => some p
  | .runStandby p => some p
  | .runActive p => some p
  | .runHalt p => some p
  | .selfCheck p => some p
  | .apply p => some p
  | .discard p => some p
  | .saveWear p => some p
  | .wearReset p _ => some p
  | .trigger p => some p
  | .release p _ => some p
  | .dumpSnapshot p _ => some p
  | .dumpRange p => some p
  | .dumpCancel p => some p
  | .cursorMode p _ => some p
  | .evaluation => none
  | .linkDeadlineExpiry _ => none
  | .slipHoldExpiry => none
  | .gensetTimerEnd _ => none
  | .periodicCheckpointExpiry => none
  | .writeVerify _ => none
  | .eraseEnd _ => none
  | .sample => none
  | .powerFailure _ => none

end Sys2Proof
end

