-- ==== Sys2Proof/Machine/State.lean ====
section
/-! DEFINITION. The state of the part as plain data, and the state right after power-on. -/

namespace Sys2Proof.Machine

/-- No event stops this part: every refusal of the spec is a response frame and a next state, so no fault is
ever raised (INVENTORY.md, "Faults"). -/
inductive Fault
  deriving DecidableEq, Repr

/-- Why a command is refused by the model. -/
inductive Refusal
  /-- Raised by an arm of `exec` whose command has no meaning yet. Safe: the model stops. No arm does. -/
  | notModelled (mnemonic : String)
  deriving DecidableEq, Repr

/-! ### Names of the spec -/

/-- The run states (R5). -/
inductive RunState | selfCheck | halted | standby | active
  deriving DecidableEq, Repr

/-- A direction of the bus (R22, R75). -/
inductive Direction | neutral | forward | reverse
  deriving DecidableEq, Repr

/-- The door state (R22). -/
inductive DoorState | closed | opened | unknown
  deriving DecidableEq, Repr

/-- The genset state that the genset controller reports (R22). -/
inductive GensetState | off | cranking | warmup | ready | cooldown | fault
  deriving DecidableEq, Repr

/-- The split modes (R66). -/
inductive SplitMode | coast | drive | braking
  deriving DecidableEq, Repr

/-- The states of the genset manager (R104). -/
inductive ManagerState | off | startRequested | run | absorb | stopRequested
  deriving DecidableEq, Repr

/-- The thirteen causes in the order of their codes (R43). -/
inductive Cause
  | holdLine | selfCheckFail | linkTraction | linkBrake | linkStorage | linkVehicle | linkGenset
  | slip | doorInterlock | liningCritical | gensetStartFail | zoneBreach | wearStoreFault
  deriving DecidableEq, Repr

/-- The notice kinds in the order of their bits (R190, R196). -/
inductive NoticeKind
  | cutbackChange | wearLevel | thermalLevel | snapshotComplete | snapshotOverwritten | triggerMissed
  | checkpointDone | storeFault | storeEmpty | runStateChange | gensetEvent | settingsApplied | zoneBreach
  deriving DecidableEq, Repr

/-- The trigger causes in the order of their codes (R166). -/
inductive TriggerCause | harshBrake | slipCut | cutback | holdLine | wearLevel | gensetFail | manual
  deriving DecidableEq, Repr

/-- The sampling levels (R163). -/
inductive SamplingLevel | run | rest1 | rest2
  deriving DecidableEq, Repr

/-- The recorder states (R162). -/
inductive RecorderState | stopped | recording | frozen
  deriving DecidableEq, Repr

/-- The states of a snapshot descriptor (R167). -/
inductive DescriptorState | free | collecting | complete | overwritten
  deriving DecidableEq, Repr

/-- The thermal levels (R132). -/
inductive ThermalLevel | normal | warm | hot | critical
  deriving DecidableEq, Repr

/-- The wear status codes, worst first (R141). -/
inductive WearCode | limit | stale | warn2 | warn1 | ok | notEvaluated
  deriving DecidableEq, Repr

/-- The five wear items (R134). -/
inductive WearItem | liningFront | liningMid | liningRear | battery | gensetStarts
  deriving DecidableEq, Repr

/-- The three axle groups (R129). -/
inductive AxleGroup | front | middle | rear
  deriving DecidableEq, Repr

/-- The two segments of the journal (R149). -/
inductive Segment | seg0 | seg1
  deriving DecidableEq, Repr

/-- The checkpoint states (R150). -/
inductive StorePhase | idle | writing | erasing
  deriving DecidableEq, Repr

/-- What decided the regen limit, in the order of the codes (R87). -/
inductive RegenSource | notActive | hardCause | notBraking | notForward | slip | fade | power | generator
  deriving DecidableEq, Repr

/-- The results of a response frame in the order of their codes (R182). -/
inductive Result | ok | hold | end_ | badframe | access | state | claimed | value
  deriving DecidableEq, Repr

/-- A set of causes, bit k for the cause of code k (R193). -/
abbrev CauseSet := BitVec 13

/-- A set of notice kinds, each at the bit R196 gives it. -/
abbrev NoticeSet := BitVec 13

/-- A set of trigger causes, bit k for the trigger cause of code k (R193). -/
abbrev TriggerMask := BitVec 7

/-- One value for each role. -/
structure PerRole (α : Type) where
  vehicle : α
  genset : α
  storage : α
  traction : α
  brake : α
  deriving DecidableEq, Repr

/-- One value for each wear item. -/
structure PerItem (α : Type) where
  liningFront : α
  liningMid : α
  liningRear : α
  battery : α
  gensetStarts : α
  deriving DecidableEq, Repr

/-- One value for each axle group. -/
structure PerGroup (α : Type) where
  front : α
  middle : α
  rear : α
  deriving DecidableEq, Repr

/-- One value for each trigger cause. -/
structure PerTrigger (α : Type) where
  harshBrake : α
  slipCut : α
  cutback : α
  holdLine : α
  wearLevel : α
  gensetFail : α
  manual : α
  deriving DecidableEq, Repr

/-! ### Settings (R198) -/

/-- The three thresholds of a wear item (R138). -/
structure Thresholds where
  t1 : Nat
  t2 : Nat
  t3 : Nat
  deriving DecidableEq, Repr

/-- The ageing factors for battery levels 0 to 3 (R63). -/
structure AgeingFactors where
  a0 : Nat
  a1 : Nat
  a2 : Nat
  a3 : Nat
  deriving DecidableEq, Repr

/-- One copy of the settings, in the units of R198. -/
structure Settings where
  socMin : Nat
  socReserve : Nat
  socLowTaper : Nat
  socStart : Nat
  socTarget : Nat
  socStop : Nat
  socHiTaper : Nat
  socMax : Nat
  vFadeLo : Nat
  vFadeHi : Nat
  nFloor : Nat
  tRevCap : Nat
  ageing : AgeingFactors
  upDrive : Nat
  downDrive : Nat
  upRegen : Nat
  downRegen : Nat
  deadline : PerRole Nat
  pDisFb : Nat
  pChgFb : Nat
  tSlipHold : Nat
  tMinRun : Nat
  tMinOff : Nat
  tStart : Nat
  tAbsExit : Nat
  nStartFail : Nat
  kSoc : Nat
  pGsMinRun : Nat
  cHeat : Nat
  tau : Nat
  tCheckpoint : Nat
  tHarsh : Nat
  pre : PerTrigger Nat
  post : PerTrigger Nat
  thresholds : PerItem Thresholds
  deriving DecidableEq, Repr

/-- The defaults (R198, R138). -/
def Settings.defaults : Settings where
  socMin := 1000
  socReserve := 2000
  socLowTaper := 2500
  socStart := 4500
  socTarget := 5500
  socStop := 6000
  socHiTaper := 8500
  socMax := 9500
  vFadeLo := 30
  vFadeHi := 80
  nFloor := 300
  tRevCap := 900
  ageing := ⟨1024, 922, 768, 512⟩
  upDrive := 30
  downDrive := 60
  upRegen := 60
  downRegen := 120
  deadline := ⟨50, 100, 100, 30, 30⟩
  pDisFb := 300
  pChgFb := 100
  tSlipHold := 300
  tMinRun := 60
  tMinOff := 20
  tStart := 15
  tAbsExit := 5
  nStartFail := 3
  kSoc := 40
  pGsMinRun := 200
  cHeat := 20000
  tau := 240000
  tCheckpoint := 600
  tHarsh := 2200
  pre := ⟨500, 250, 250, 1000, 100, 250, 500⟩
  post := ⟨250, 250, 250, 500, 0, 500, 500⟩
  thresholds := ⟨⟨6000000, 8000000, 9500000⟩, ⟨6000000, 8000000, 9500000⟩, ⟨6000000, 8000000, 9500000⟩,
    ⟨5000000, 7000000, 8500000⟩, ⟨60000, 90000, 120000⟩⟩

/-! ### Run control (R2, R5, R14, R17) -/

structure RunControl where
  /-- The strap codes read; the role binding table is computed from them (R2). -/
  straps : PerPort (BitVec 3)
  runState : RunState
  checkDone : Bool
  checkFail : Bool
  checkStep : BitVec 2
  /-- When the self-check in progress ends (R13). -/
  checkEnd : Option Nat
  /-- Whether the self-check in progress was requested (R14). -/
  checkRequested : Bool
  staged : Settings
  applied : Settings
  claim : Option Port
  deriving DecidableEq, Repr

/-! ### The envelope (R20 to R22) -/

structure VehicleReport where
  tDrv : Int
  pAux : Int
  direction : Direction
  door : DoorState
  zone : Bool
  ambient : Int
  deriving DecidableEq, Repr

structure GensetReport where
  state : GensetState
  pGs : Int
  pGsAvail : Int
  pAbsMax : Int
  deriving DecidableEq, Repr

structure StorageReport where
  soc : Int
  pDisRep : Int
  pChgRep : Int
  pBat : Int
  temperature : Int
  deriving DecidableEq, Repr

structure TractionReport where
  n : Int
  tMotMax : Int
  tGenMax : Int
  deriving DecidableEq, Repr

structure BrakeReport where
  v : Int
  tRr : Int
  slip : Bool
  pfFront : Int
  pfMid : Int
  pfRear : Int
  deriving DecidableEq, Repr

/-- The bookkeeping of a role's envelope entry (R20). -/
structure RoleBook where
  received : Bool
  stale : Bool
  clamped : Bool
  clampedSet : BitVec 6
  commitAt : Option Nat
  /-- The link deadline timer: stopped, or running toward a time (R32). -/
  deadline : Option Nat
  deriving DecidableEq, Repr

structure Envelope where
  vehicle : VehicleReport
  genset : GensetReport
  storage : StorageReport
  traction : TractionReport
  brake : BrakeReport
  book : PerRole RoleBook
  deriving DecidableEq, Repr

/-! ### The cutback unit (R42, R51, R55) -/

/-- The slip hold timer (R51). -/
inductive SlipTimer
  | idle
  | running (expiry : Nat)
  | expired
  deriving DecidableEq, Repr

structure Cutback where
  live : CauseSet
  slipTimer : SlipTimer
  /-- The moment from which the hold line sampler counts the 1 ms of a level it has not taken last: the release of the
  driver, or the latest moment at which it took the other level (R55). -/
  holdFrom : Nat
  /-- The level the sampler took last since the driver released the line, or none (R55). -/
  holdLevel : Option LineLevel
  deriving DecidableEq, Repr

/-! ### The split engine (R61, R87) and the genset manager (R104) -/

structure Split where
  tMc : Int
  mode : SplitMode
  dir : Direction
  pendingDir : Option Direction
  pDisEff : Int
  pChgEff : Int
  hDrive : Int
  hRegen : Int
  lDrive : Int
  lRegen : Int
  q : Int
  grant : Int
  friction : Int
  source : RegenSource
  valid : Bool
  evalCount : BitVec 16
  /-- When the next evaluation falls due; none while the period is stopped (R59). -/
  evalDue : Option Nat
  deriving DecidableEq, Repr

structure Genset where
  mgr : ManagerState
  dAvg : Int
  setpoint : Int
  minRun : Option Nat
  minOff : Option Nat
  start : Option Nat
  absExit : Option Nat
  failCount : Nat
  inhibit : Bool
  deriving DecidableEq, Repr

/-! ### The wear monitor (R129, R134) and the wear store (R149, R150) -/

structure Lining where
  fine : Int
  level : ThermalLevel
  deriving DecidableEq, Repr

structure ItemState where
  total : Nat
  residual : Nat
  level : Nat
  evaluated : Bool
  deriving DecidableEq, Repr

structure Wear where
  lining : PerGroup Lining
  items : PerItem ItemState
  deriving DecidableEq, Repr

/-- The journal: (word address, word) with strictly rising addresses and no entry FFFFh, which is what an
unlisted word reads (R149; entry 22). -/
abbrev Memory := List (Nat × Word)

/-- One flag for each segment. -/
structure SegmentFlags where
  seg0 : Bool
  seg1 : Bool
  deriving DecidableEq, Repr

structure Store where
  journal : Memory
  /-- The segments whose erase was cut off and that have not been erased since (R159; entry 7). -/
  cutErase : SegmentFlags
  phase : StorePhase
  fault : Bool
  active : Segment
  pos : Nat
  lastUsed : Nat
  lastVerified : Nat
  record : Option (PerItem Nat)
  attempts : Nat
  pendingFlag : Bool
  current : PerPort Bool
  waiting : PerPort Bool
  endAt : Option Nat
  /-- The periodic checkpoint timer (R151). -/
  timer : Option Nat
  deriving DecidableEq, Repr

/-! ### The history recorder (R160 to R167) -/

structure Sample where
  number : Nat
  v : Int
  n : Int
  tMc : Int
  tRr : Int
  pGs : Int
  soc : Int
  causes : CauseSet
  runState : RunState
  mode : SplitMode
  mgr : ManagerState
  dir : Direction
  level : SamplingLevel
  deriving DecidableEq, Repr

structure Descriptor where
  state : DescriptorState
  cause : TriggerCause
  trigger : Nat
  first : Nat
  last : Nat
  retriggers : Nat
  freeze : Bool
  deriving DecidableEq, Repr

structure SnapshotTable where
  d0 : Descriptor
  d1 : Descriptor
  d2 : Descriptor
  d3 : Descriptor
  deriving DecidableEq, Repr

structure Recorder where
  /-- The retained samples, newest first; sample s stands in slot s mod 8192 (R161). -/
  ring : List Sample
  next : Nat
  empty : Bool
  state : RecorderState
  level : SamplingLevel
  still : Option Nat
  due : Option Nat
  table : SnapshotTable
  deriving DecidableEq, Repr

/-! ### A port (R180 to R192) -/

/-- A port's cursors (R184). -/
inductive Cursors
  | joined (a : Address)
  | split (r w : Address)
  deriving DecidableEq, Repr

/-- The two-word settings (R16, R198). -/
inductive WideSetting
  | tau
  | threshold (i : WearItem) (j : Fin 3)
  deriving DecidableEq, Repr

/-- What an assembly buffer assembles (R25, R17, R187). -/
inductive AssemblyKind
  | report (r : Role)
  | setting (w : WideSetting)
  | dumpRange
  deriving DecidableEq, Repr

/-- An assembly in progress: the words received, in order; the next offset is their number (R25). -/
structure Assembly where
  kind : AssemblyKind
  words : List Word
  deriving DecidableEq, Repr

/-- The capture-class records (R188). -/
inductive RecordId
  | status | traction | storage | brake | genset | counters | latch | notice | wearStatus | dumpContext | snapshots
  deriving DecidableEq, Repr

structure Holding where
  record : RecordId
  words : List Word
  deriving DecidableEq, Repr

/-- A response frame before it is laid out in bits (R182). -/
structure Response where
  command : BitVec 4
  result : Result
  attention : Bool
  runState : RunState
  headline : BitVec 5
  payload : Word
  deriving DecidableEq, Repr

/-- One energy flow with its saturation flag (R122). -/
structure Flow where
  joules : Int
  saturated : Bool
  deriving DecidableEq, Repr

structure Counters where
  motor : Flow
  aux : Flow
  gs : Flow
  bat : Flow
  fric : Flow
  deriving DecidableEq, Repr

inductive DumpStatus | idle | streaming | ended
  deriving DecidableEq, Repr

inductive EndReason | done | lost | cancelled
  deriving DecidableEq, Repr

/-- The source of a dump (R174). `idBits` are the bits R196 shows beside a range (entry 17). -/
inductive DumpSource
  | descriptor (id : BitVec 2)
  | range (idBits : BitVec 2)
  deriving DecidableEq, Repr

structure DumpContext where
  status : DumpStatus
  reason : Option EndReason
  source : DumpSource
  next : Nat
  last : Nat
  queue : List Word
  deriving DecidableEq, Repr

structure DumpRange where
  first : Nat
  count : Nat
  deriving DecidableEq, Repr

structure PortState where
  cursors : Cursors
  assembly : Option Assembly
  holding : Option Holding
  response : Response
  /-- The frame the port's last exchange shifted out on data out (R180; entry 21). -/
  dataOut : Option Frame
  notices : NoticeSet
  missed : TriggerMask
  latch : CauseSet
  counters : Counters
  codes : PerItem WearCode
  dump : DumpContext
  dumpRange : DumpRange
  deriving DecidableEq, Repr

/-! ### The whole part -/

structure State where
  powered : Bool
  resetAsserted : Bool
  /-- The clock in ms (entry 1). -/
  now : Nat
  /-- How many free values have been taken (entry 7). -/
  freeCount : Nat
  rc : RunControl
  env : Envelope
  cut : Cutback
  split : Split
  gen : Genset
  wear : Wear
  store : Store
  rcd : Recorder
  ports : PerPort PortState
  /-- The commands that wait, first in, first out. -/
  pending : List Instr
  deriving DecidableEq, Repr

/-! ### The state right after power-on, straps low and journal erased (entries 5 and 6) -/

/-- An envelope entry's book after reset (R41). -/
def RoleBook.atReset : RoleBook := ⟨false, false, false, 0#6, none, none⟩

/-- R41's table. -/
def Envelope.atReset : Envelope where
  vehicle := ⟨0, 0, .neutral, .unknown, false, 20⟩
  genset := ⟨.off, 0, 0, 0⟩
  storage := ⟨0, 0, 0, 0, 0⟩
  traction := ⟨0, 0, 0⟩
  brake := ⟨0, 0, false, 0, 0, 0⟩
  book := ⟨.atReset, .atReset, .atReset, .atReset, .atReset⟩

/-- R61's table, power-on and reset line. -/
def Split.atReset : Split where
  tMc := 0
  mode := .coast
  dir := .neutral
  pendingDir := none
  pDisEff := 0
  pChgEff := 0
  hDrive := 0
  hRegen := 0
  lDrive := 0
  lRegen := 0
  q := 0
  grant := 0
  friction := 0
  source := .notActive
  valid := false
  evalCount := 0#16
  evalDue := none

/-- R104's table, power-on and reset line. -/
def Genset.atReset : Genset := ⟨.off, 0, 0, none, none, none, none, 0, false⟩

/-- R129: 20 degrees, NORMAL. -/
def Lining.atPowerOn : Lining := ⟨5120, .normal⟩

/-- An item with an erased journal (R134, R158). -/
def ItemState.atPowerOn : ItemState := ⟨0, 0, 0, false⟩

/-- No port: the empty notify set. -/
def noPorts : PerPort Bool := ⟨false, false, false, false, false⟩

/-- R158 with an erased journal. -/
def Store.atPowerOn : Store where
  journal := []
  cutErase := ⟨false, false⟩
  phase := .idle
  fault := false
  active := .seg0
  pos := 0
  lastUsed := 0
  lastVerified := 0
  record := none
  attempts := 0
  pendingFlag := false
  current := noPorts
  waiting := noPorts
  endAt := none
  timer := none

/-- R167: FREE with every other field 0. -/
def Descriptor.atPowerOn : Descriptor := ⟨.free, .harshBrake, 0, 0, 0, 0, false⟩

/-- R179's table, power-on. -/
def Recorder.atPowerOn : Recorder where
  ring := []
  next := 0
  empty := true
  state := .stopped
  level := .run
  still := none
  due := none
  table := ⟨.atPowerOn, .atPowerOn, .atPowerOn, .atPowerOn⟩

def Flow.zero : Flow := ⟨0, false⟩

def Counters.zero : Counters := ⟨.zero, .zero, .zero, .zero, .zero⟩

/-- A port after power-on (R192); DOOR_INTERLOCK is bit 8, RUN_STATE_CHANGE bit 9, STORE_EMPTY bit 8. -/
def PortState.atPowerOn : PortState where
  cursors := .joined 0#10
  assembly := none
  holding := none
  response := ⟨0#4, .ok, true, .selfCheck, 8#5, 0#16⟩
  dataOut := none
  notices := 0x300#13
  missed := 0#7
  latch := 0x100#13
  counters := .zero
  codes := ⟨.notEvaluated, .notEvaluated, .notEvaluated, .notEvaluated, .notEvaluated⟩
  dump := ⟨.idle, none, .descriptor 0#2, 0, 0, []⟩
  dumpRange := ⟨0, 8192⟩

/-- The machine right after power-on: the self-check of R13 has begun, and the queue is empty. -/
def State.reset : State where
  powered := true
  resetAsserted := false
  now := 0
  freeCount := 0
  rc := {
    straps := ⟨0#3, 0#3, 0#3, 0#3, 0#3⟩
    runState := .selfCheck
    checkDone := false
    checkFail := false
    checkStep := 0#2
    checkEnd := some 2
    checkRequested := false
    staged := .defaults
    applied := .defaults
    claim := none }
  env := .atReset
  cut := ⟨0x100#13, .idle, 0, none⟩
  split := .atReset
  gen := .atReset
  wear := {
    lining := ⟨.atPowerOn, .atPowerOn, .atPowerOn⟩
    items := ⟨.atPowerOn, .atPowerOn, .atPowerOn, .atPowerOn, .atPowerOn⟩ }
  store := .atPowerOn
  rcd := .atPowerOn
  ports := ⟨.atPowerOn, .atPowerOn, .atPowerOn, .atPowerOn, .atPowerOn⟩
  pending := []

end Sys2Proof.Machine
end

