-- ==== Sys2Proof/Machine/Operands.lean ====
section
/-! DEFINITION. Operand forms: access by port, role and item, the codes of enumerations (R193), the settings and
their addresses (R198), the report fields (R22), the record map (R195) and the frames going out (R194). -/

namespace Sys2Proof

/-! ### Access by port -/

def PerPort.get {α : Type} (x : PerPort α) : Port → α
  | .p0 => x.p0
  | .p1 => x.p1
  | .p2 => x.p2
  | .p3 => x.p3
  | .p4 => x.p4

def PerPort.set {α : Type} (x : PerPort α) (p : Port) (a : α) : PerPort α :=
  match p with
  | .p0 => { x with p0 := a }
  | .p1 => { x with p1 := a }
  | .p2 => { x with p2 := a }
  | .p3 => { x with p3 := a }
  | .p4 => { x with p4 := a }

def PerPort.map {α β : Type} (f : α → β) (x : PerPort α) : PerPort β :=
  ⟨f x.p0, f x.p1, f x.p2, f x.p3, f x.p4⟩

/-- `f` with each port's flag beside its value. -/
def PerPort.mapWith {α β γ : Type} (f : α → β → γ) (x : PerPort α) (y : PerPort β) : PerPort γ :=
  ⟨f x.p0 y.p0, f x.p1 y.p1, f x.p2 y.p2, f x.p3 y.p3, f x.p4 y.p4⟩

def allPorts : List Port := [.p0, .p1, .p2, .p3, .p4]

def Port.number : Port → Nat
  | .p0 => 0
  | .p1 => 1
  | .p2 => 2
  | .p3 => 3
  | .p4 => 4

/-- The strap code that asks for a role (R1). -/
def Role.strap : Role → BitVec 3
  | .vehicle => 1#3
  | .genset => 2#3
  | .storage => 3#3
  | .traction => 4#3
  | .brake => 5#3

/-- The role a strap code asks for; none for 0, 6 and 7 (R1). -/
def roleOfStrap (code : BitVec 3) : Option Role :=
  match code.toNat with
  | 1 => some .vehicle
  | 2 => some .genset
  | 3 => some .storage
  | 4 => some .traction
  | 5 => some .brake
  | _ => none

/-- The role index (R193). -/
def Role.index : Role → Nat
  | .vehicle => 0
  | .genset => 1
  | .storage => 2
  | .traction => 3
  | .brake => 4

def allRoles : List Role := [.vehicle, .genset, .storage, .traction, .brake]

namespace Machine

def PerRole.get {α : Type} (x : PerRole α) : Role → α
  | .vehicle => x.vehicle
  | .genset => x.genset
  | .storage => x.storage
  | .traction => x.traction
  | .brake => x.brake

def PerRole.set {α : Type} (x : PerRole α) (r : Role) (a : α) : PerRole α :=
  match r with
  | .vehicle => { x with vehicle := a }
  | .genset => { x with genset := a }
  | .storage => { x with storage := a }
  | .traction => { x with traction := a }
  | .brake => { x with brake := a }

def PerRole.map {α β : Type} (f : α → β) (x : PerRole α) : PerRole β :=
  ⟨f x.vehicle, f x.genset, f x.storage, f x.traction, f x.brake⟩

/-- `f` of the two values of each role. -/
def PerRole.mapWith {α β γ : Type} (f : α → β → γ) (x : PerRole α) (y : PerRole β) : PerRole γ :=
  ⟨f x.vehicle y.vehicle, f x.genset y.genset, f x.storage y.storage, f x.traction y.traction, f x.brake y.brake⟩

def PerItem.get {α : Type} (x : PerItem α) : WearItem → α
  | .liningFront => x.liningFront
  | .liningMid => x.liningMid
  | .liningRear => x.liningRear
  | .battery => x.battery
  | .gensetStarts => x.gensetStarts

def PerItem.set {α : Type} (x : PerItem α) (i : WearItem) (a : α) : PerItem α :=
  match i with
  | .liningFront => { x with liningFront := a }
  | .liningMid => { x with liningMid := a }
  | .liningRear => { x with liningRear := a }
  | .battery => { x with battery := a }
  | .gensetStarts => { x with gensetStarts := a }

def PerItem.map {α β : Type} (f : α → β) (x : PerItem α) : PerItem β :=
  ⟨f x.liningFront, f x.liningMid, f x.liningRear, f x.battery, f x.gensetStarts⟩

/-- `f` of the two values of each item. -/
def PerItem.mapWith {α β γ : Type} (f : α → β → γ) (x : PerItem α) (y : PerItem β) : PerItem γ :=
  ⟨f x.liningFront y.liningFront, f x.liningMid y.liningMid, f x.liningRear y.liningRear,
    f x.battery y.battery, f x.gensetStarts y.gensetStarts⟩

/-- In item order. -/
def PerItem.toList {α : Type} (x : PerItem α) : List α :=
  [x.liningFront, x.liningMid, x.liningRear, x.battery, x.gensetStarts]

def PerGroup.map {α β : Type} (f : α → β) (x : PerGroup α) : PerGroup β := ⟨f x.front, f x.middle, f x.rear⟩

/-- Front, middle, rear. -/
def PerGroup.toList {α : Type} (x : PerGroup α) : List α := [x.front, x.middle, x.rear]

def PerTrigger.get {α : Type} (x : PerTrigger α) : TriggerCause → α
  | .harshBrake => x.harshBrake
  | .slipCut => x.slipCut
  | .cutback => x.cutback
  | .holdLine => x.holdLine
  | .wearLevel => x.wearLevel
  | .gensetFail => x.gensetFail
  | .manual => x.manual

def PerTrigger.set {α : Type} (x : PerTrigger α) (t : TriggerCause) (a : α) : PerTrigger α :=
  match t with
  | .harshBrake => { x with harshBrake := a }
  | .slipCut => { x with slipCut := a }
  | .cutback => { x with cutback := a }
  | .holdLine => { x with holdLine := a }
  | .wearLevel => { x with wearLevel := a }
  | .gensetFail => { x with gensetFail := a }
  | .manual => { x with manual := a }

def PerTrigger.toList {α : Type} (x : PerTrigger α) : List α :=
  [x.harshBrake, x.slipCut, x.cutback, x.holdLine, x.wearLevel, x.gensetFail, x.manual]

def SnapshotTable.get (x : SnapshotTable) (id : BitVec 2) : Descriptor :=
  match id.toNat with
  | 0 => x.d0
  | 1 => x.d1
  | 2 => x.d2
  | _ => x.d3

def SnapshotTable.set (x : SnapshotTable) (id : BitVec 2) (d : Descriptor) : SnapshotTable :=
  match id.toNat with
  | 0 => { x with d0 := d }
  | 1 => { x with d1 := d }
  | 2 => { x with d2 := d }
  | _ => { x with d3 := d }

def SnapshotTable.map (f : Descriptor → Descriptor) (x : SnapshotTable) : SnapshotTable :=
  ⟨f x.d0, f x.d1, f x.d2, f x.d3⟩

/-- In the order of the ids. -/
def SnapshotTable.toList (x : SnapshotTable) : List Descriptor := [x.d0, x.d1, x.d2, x.d3]

def descriptorIds : List (BitVec 2) := [0#2, 1#2, 2#2, 3#2]

/-! ### Codes (R193, R43, R166, R182, R87, R196) -/

def RunState.code : RunState → BitVec 2
  | .selfCheck => 0#2
  | .halted => 1#2
  | .standby => 2#2
  | .active => 3#2

def SplitMode.code : SplitMode → BitVec 2
  | .coast => 0#2
  | .drive => 1#2
  | .braking => 2#2

def Direction.code : Direction → BitVec 2
  | .neutral => 0#2
  | .forward => 1#2
  | .reverse => 2#2

/-- The pending direction, 3 for none. -/
def pendingCode : Option Direction → BitVec 2
  | some d => d.code
  | none => 3#2

def DoorState.code : DoorState → Nat
  | .closed => 0
  | .opened => 1
  | .unknown => 2

def GensetState.code : GensetState → Nat
  | .off => 0
  | .cranking => 1
  | .warmup => 2
  | .ready => 3
  | .cooldown => 4
  | .fault => 5

def ManagerState.code : ManagerState → BitVec 3
  | .off => 0#3
  | .startRequested => 1#3
  | .run => 2#3
  | .absorb => 3#3
  | .stopRequested => 4#3

def SamplingLevel.code : SamplingLevel → BitVec 2
  | .run => 0#2
  | .rest1 => 1#2
  | .rest2 => 2#2

def RecorderState.code : RecorderState → BitVec 2
  | .stopped => 0#2
  | .recording => 1#2
  | .frozen => 2#2

def DescriptorState.code : DescriptorState → BitVec 2
  | .free => 0#2
  | .collecting => 1#2
  | .complete => 2#2
  | .overwritten => 3#2

def ThermalLevel.code : ThermalLevel → Nat
  | .normal => 0
  | .warm => 1
  | .hot => 2
  | .critical => 3

def WearCode.code : WearCode → Nat
  | .limit => 1
  | .stale => 2
  | .warn2 => 3
  | .warn1 => 4
  | .ok => 5
  | .notEvaluated => 6

def Cause.code : Cause → Nat
  | .holdLine => 0
  | .selfCheckFail => 1
  | .linkTraction => 2
  | .linkBrake => 3
  | .linkStorage => 4
  | .linkVehicle => 5
  | .linkGenset => 6
  | .slip => 7
  | .doorInterlock => 8
  | .liningCritical => 9
  | .gensetStartFail => 10
  | .zoneBreach => 11
  | .wearStoreFault => 12

def NoticeKind.code : NoticeKind → Nat
  | .cutbackChange => 0
  | .wearLevel => 1
  | .thermalLevel => 2
  | .snapshotComplete => 3
  | .snapshotOverwritten => 4
  | .triggerMissed => 5
  | .checkpointDone => 6
  | .storeFault => 7
  | .storeEmpty => 8
  | .runStateChange => 9
  | .gensetEvent => 10
  | .settingsApplied => 11
  | .zoneBreach => 12

def TriggerCause.code : TriggerCause → Nat
  | .harshBrake => 0
  | .slipCut => 1
  | .cutback => 2
  | .holdLine => 3
  | .wearLevel => 4
  | .gensetFail => 5
  | .manual => 6

/-- The freeze flag of a trigger cause (R166). -/
def TriggerCause.freezes : TriggerCause → Bool
  | .holdLine => true
  | .harshBrake | .slipCut | .cutback | .wearLevel | .gensetFail | .manual => false

def Result.code : Result → BitVec 3
  | .ok => 0#3
  | .hold => 1#3
  | .end_ => 2#3
  | .badframe => 3#3
  | .access => 4#3
  | .state => 5#3
  | .claimed => 6#3
  | .value => 7#3

def RegenSource.code : RegenSource → BitVec 3
  | .notActive => 0#3
  | .hardCause => 1#3
  | .notBraking => 2#3
  | .notForward => 3#3
  | .slip => 4#3
  | .fade => 5#3
  | .power => 6#3
  | .generator => 7#3

def SlipTimer.code : SlipTimer → BitVec 2
  | .idle => 0#2
  | .running _ => 1#2
  | .expired => 2#2

def StorePhase.code : StorePhase → BitVec 2
  | .idle => 0#2
  | .writing => 1#2
  | .erasing => 2#2

def DumpStatus.code : DumpStatus → BitVec 2
  | .idle => 0#2
  | .streaming => 1#2
  | .ended => 2#2

/-- The end reason as R177 numbers it, 0 while there is none. -/
def reasonCode : Option EndReason → BitVec 2
  | none => 0#2
  | some .done => 1#2
  | some .lost => 2#2
  | some .cancelled => 3#2

def Segment.number : Segment → Nat
  | .seg0 => 0
  | .seg1 => 1

def Segment.other : Segment → Segment
  | .seg0 => .seg1
  | .seg1 => .seg0

def SegmentFlags.get (x : SegmentFlags) : Segment → Bool
  | .seg0 => x.seg0
  | .seg1 => x.seg1

def SegmentFlags.set (x : SegmentFlags) (g : Segment) (b : Bool) : SegmentFlags :=
  match g with
  | .seg0 => { x with seg0 := b }
  | .seg1 => { x with seg1 := b }

/-- The cause LINK_<role> (R43). -/
def linkCause : Role → Cause
  | .vehicle => .linkVehicle
  | .genset => .linkGenset
  | .storage => .linkStorage
  | .traction => .linkTraction
  | .brake => .linkBrake

/-- The role whose reports feed a wear item (R134). -/
def WearItem.source : WearItem → Role
  | .liningFront | .liningMid | .liningRear => .brake
  | .battery => .storage
  | .gensetStarts => .genset

def allItems : PerItem WearItem := ⟨.liningFront, .liningMid, .liningRear, .battery, .gensetStarts⟩

/-! ### Words -/

/-- The word of a number that may be negative (R193). -/
def wordOf (x : Int) : Word := BitVec.ofInt 16 x

/-- The word of a number that is not negative. -/
def wordOfNat (n : Nat) : Word := BitVec.ofNat 16 n

/-- The high word of a two-word number (R193). -/
def highWord (n : Nat) : Word := BitVec.ofNat 16 (n / 65536)

/-- The low word of a two-word number (R193). -/
def lowWord (n : Nat) : Word := BitVec.ofNat 16 n

/-- A two-word number read high word first (R193). -/
def twoWords (high low : Word) : Nat := high.toNat * 65536 + low.toNat

/-- The two words of a signed 32-bit number (R193). -/
def signedWords (x : Int) : List Word :=
  let b := BitVec.ofInt 32 x
  [b.extractLsb' 16 16, b.extractLsb' 0 16]

/-- `b` at bit `k` of a word. -/
def flagAt (b : Bool) (k : Nat) : Word := if b then 1#16 <<< k else 0#16

/-- A field placed with its lowest bit at bit `k` of a word. -/
def fieldAt {n : Nat} (x : BitVec n) (k : Nat) : Word := x.setWidth 16 <<< k

def clampNat (x lo hi : Nat) : Nat := max lo (min x hi)

def clampInt (x lo hi : Int) : Int := max lo (min x hi)

/-! ### Settings (R16, R17, R31, R198) -/

/-- The one-word settings. -/
inductive SettingId
  | socMin | socReserve | socLowTaper | socStart | socTarget | socStop | socHiTaper | socMax
  | vFadeLo | vFadeHi | nFloor | tRevCap
  | a0 | a1 | a2 | a3
  | upDrive | downDrive | upRegen | downRegen
  | deadline (r : Role)
  | pDisFb | pChgFb | tSlipHold | tMinRun | tMinOff | tStart | tAbsExit
  | nStartFail | kSoc | pGsMinRun | cHeat | tCheckpoint | tHarsh
  | pre (t : TriggerCause)
  | post (t : TriggerCause)
  deriving DecidableEq, Repr

/-- What a word of a settings region is: a one-word setting, or half of a two-word one. -/
inductive SettingWord
  | one (k : SettingId)
  | high (w : WideSetting)
  | low (w : WideSetting)
  deriving DecidableEq, Repr

/-- Offsets 00h to 0Fh of a settings region (R198). -/
def settingRow0 : List SettingWord :=
  [.one .socMin, .one .socReserve, .one .socLowTaper, .one .socStart,
   .one .socTarget, .one .socStop, .one .socHiTaper, .one .socMax,
   .one .vFadeLo, .one .vFadeHi, .one .nFloor, .one .tRevCap,
   .one .a0, .one .a1, .one .a2, .one .a3]

/-- Offsets 10h to 1Fh (R198). -/
def settingRow1 : List SettingWord :=
  [.one .upDrive, .one .downDrive, .one .upRegen, .one .downRegen,
   .one (.deadline .vehicle), .one (.deadline .genset), .one (.deadline .storage),
   .one (.deadline .traction), .one (.deadline .brake),
   .one .pDisFb, .one .pChgFb, .one .tSlipHold,
   .one .tMinRun, .one .tMinOff, .one .tStart, .one .tAbsExit]

/-- Offsets 20h to 27h (R198). -/
def settingRow2 : List SettingWord :=
  [.one .nStartFail, .one .kSoc, .one .pGsMinRun, .one .cHeat, .high .tau, .low .tau,
   .one .tCheckpoint, .one .tHarsh]

/-- Offsets 28h to 35h, the windows of the trigger causes (R198). -/
def settingRow3 : List SettingWord :=
  [.one (.pre .harshBrake), .one (.pre .slipCut), .one (.pre .cutback), .one (.pre .holdLine),
   .one (.pre .wearLevel), .one (.pre .gensetFail), .one (.pre .manual),
   .one (.post .harshBrake), .one (.post .slipCut), .one (.post .cutback), .one (.post .holdLine),
   .one (.post .wearLevel), .one (.post .gensetFail), .one (.post .manual)]

/-- Offsets 00h to 35h of a settings region, in order (R198). -/
def settingRow : List SettingWord := settingRow0 ++ settingRow1 ++ settingRow2 ++ settingRow3

/-- The wear item of a number (R134); numbers above 4 name none. -/
def itemOfNumber : Nat → Option WearItem
  | 0 => some .liningFront
  | 1 => some .liningMid
  | 2 => some .liningRear
  | 3 => some .battery
  | 4 => some .gensetStarts
  | _ => none

/-- Offsets 40h to 5Dh: item i, threshold j at 40h + 6i + 2(j − 1) (R198). -/
def thresholdWordAt (offset : Nat) : Option SettingWord :=
  if offset < 0x40 ∨ 0x5D < offset then none
  else
    let k := offset - 0x40
    let j : Fin 3 := if k % 6 < 2 then 0 else if k % 6 < 4 then 1 else 2
    (itemOfNumber (k / 6)).map fun i => if k % 2 = 0 then .high (.threshold i j) else .low (.threshold i j)

/-- What a settings region holds at an offset; none where it holds no setting (R198). -/
def settingAt (offset : Nat) : Option SettingWord :=
  if offset < 0x36 then settingRow[offset]? else thresholdWordAt offset

def Thresholds.get (t : Thresholds) (j : Fin 3) : Nat :=
  if j = 0 then t.t1 else if j = 1 then t.t2 else t.t3

def Thresholds.set (t : Thresholds) (j : Fin 3) (x : Nat) : Thresholds :=
  if j = 0 then { t with t1 := x } else if j = 1 then { t with t2 := x } else { t with t3 := x }

/-- The value of a one-word setting. -/
def Settings.get (s : Settings) : SettingId → Nat
  | .socMin => s.socMin
  | .socReserve => s.socReserve
  | .socLowTaper => s.socLowTaper
  | .socStart => s.socStart
  | .socTarget => s.socTarget
  | .socStop => s.socStop
  | .socHiTaper => s.socHiTaper
  | .socMax => s.socMax
  | .vFadeLo => s.vFadeLo
  | .vFadeHi => s.vFadeHi
  | .nFloor => s.nFloor
  | .tRevCap => s.tRevCap
  | .a0 => s.ageing.a0
  | .a1 => s.ageing.a1
  | .a2 => s.ageing.a2
  | .a3 => s.ageing.a3
  | .upDrive => s.upDrive
  | .downDrive => s.downDrive
  | .upRegen => s.upRegen
  | .downRegen => s.downRegen
  | .deadline r => s.deadline.get r
  | .pDisFb => s.pDisFb
  | .pChgFb => s.pChgFb
  | .tSlipHold => s.tSlipHold
  | .tMinRun => s.tMinRun
  | .tMinOff => s.tMinOff
  | .tStart => s.tStart
  | .tAbsExit => s.tAbsExit
  | .nStartFail => s.nStartFail
  | .kSoc => s.kSoc
  | .pGsMinRun => s.pGsMinRun
  | .cHeat => s.cHeat
  | .tCheckpoint => s.tCheckpoint
  | .tHarsh => s.tHarsh
  | .pre t => s.pre.get t
  | .post t => s.post.get t

/-- The settings with one one-word setting stored. -/
def Settings.set (s : Settings) (k : SettingId) (x : Nat) : Settings :=
  match k with
  | .socMin => { s with socMin := x }
  | .socReserve => { s with socReserve := x }
  | .socLowTaper => { s with socLowTaper := x }
  | .socStart => { s with socStart := x }
  | .socTarget => { s with socTarget := x }
  | .socStop => { s with socStop := x }
  | .socHiTaper => { s with socHiTaper := x }
  | .socMax => { s with socMax := x }
  | .vFadeLo => { s with vFadeLo := x }
  | .vFadeHi => { s with vFadeHi := x }
  | .nFloor => { s with nFloor := x }
  | .tRevCap => { s with tRevCap := x }
  | .a0 => { s with ageing := { s.ageing with a0 := x } }
  | .a1 => { s with ageing := { s.ageing with a1 := x } }
  | .a2 => { s with ageing := { s.ageing with a2 := x } }
  | .a3 => { s with ageing := { s.ageing with a3 := x } }
  | .upDrive => { s with upDrive := x }
  | .downDrive => { s with downDrive := x }
  | .upRegen => { s with upRegen := x }
  | .downRegen => { s with downRegen := x }
  | .deadline r => { s with deadline := s.deadline.set r x }
  | .pDisFb => { s with pDisFb := x }
  | .pChgFb => { s with pChgFb := x }
  | .tSlipHold => { s with tSlipHold := x }
  | .tMinRun => { s with tMinRun := x }
  | .tMinOff => { s with tMinOff := x }
  | .tStart => { s with tStart := x }
  | .tAbsExit => { s with tAbsExit := x }
  | .nStartFail => { s with nStartFail := x }
  | .kSoc => { s with kSoc := x }
  | .pGsMinRun => { s with pGsMinRun := x }
  | .cHeat => { s with cHeat := x }
  | .tCheckpoint => { s with tCheckpoint := x }
  | .tHarsh => { s with tHarsh := x }
  | .pre t => { s with pre := s.pre.set t x }
  | .post t => { s with post := s.post.set t x }

/-- The range of a one-word setting as it may be written (R198). -/
def SettingId.range : SettingId → Nat × Nat
  | .socMin | .socReserve | .socLowTaper | .socStart | .socTarget | .socStop | .socHiTaper | .socMax => (0, 10000)
  | .vFadeLo | .vFadeHi => (0, 1000)
  | .nFloor => (100, 1000)
  | .tRevCap => (0, 3000)
  | .a0 | .a1 | .a2 | .a3 => (0, 1024)
  | .upDrive | .downDrive | .upRegen | .downRegen => (1, 500)
  | .deadline _ => (10, 250)
  | .pDisFb | .pChgFb => (0, 4000)
  | .tSlipHold => (50, 2000)
  | .tMinRun | .tMinOff => (0, 600)
  | .tStart => (5, 60)
  | .tAbsExit => (1, 30)
  | .nStartFail => (1, 15)
  | .kSoc => (0, 200)
  | .pGsMinRun => (0, 2500)
  | .cHeat => (1000, 60000)
  | .tCheckpoint => (60, 3600)
  | .tHarsh => (0, 3000)
  | .pre _ | .post _ => (0, 8191)

/-- The value a staged write stores: clamped, and for a deadline truncated down to a multiple of 10 (R17, R31). -/
def SettingId.clamped (k : SettingId) (x : Nat) : Nat :=
  let y := clampNat x k.range.1 k.range.2
  match k with
  | .deadline _ => y / 10 * 10
  | .socMin | .socReserve | .socLowTaper | .socStart | .socTarget | .socStop | .socHiTaper | .socMax
  | .vFadeLo | .vFadeHi | .nFloor | .tRevCap | .a0 | .a1 | .a2 | .a3
  | .upDrive | .downDrive | .upRegen | .downRegen
  | .pDisFb | .pChgFb | .tSlipHold | .tMinRun | .tMinOff | .tStart | .tAbsExit
  | .nStartFail | .kSoc | .pGsMinRun | .cHeat | .tCheckpoint | .tHarsh | .pre _ | .post _ => y

/-- The value of a two-word setting. -/
def Settings.getWide (s : Settings) : WideSetting → Nat
  | .tau => s.tau
  | .threshold i j => (s.thresholds.get i).get j

/-- The settings with one two-word setting stored. -/
def Settings.setWide (s : Settings) (w : WideSetting) (x : Nat) : Settings :=
  match w with
  | .tau => { s with tau := x }
  | .threshold i j => { s with thresholds := s.thresholds.set i ((s.thresholds.get i).set j x) }

/-- The value a pair of words stores in a two-word setting (R17, R198). -/
def WideSetting.clamped (w : WideSetting) (x : Nat) : Nat :=
  match w with
  | .tau => clampNat x 10000 3600000
  | .threshold _ _ => clampNat x 0 4294967295

/-- A word of a settings region as it reads (R16, R193). -/
def Settings.word (s : Settings) : SettingWord → Word
  | .one k => wordOfNat (s.get k)
  | .high w => highWord (s.getWide w)
  | .low w => lowWord (s.getWide w)

/-! ### Report fields (R21, R22) -/

/-- A report field: a number with its range, or an enumeration with its last code. -/
inductive ReportField
  | numeric (lo hi : Int)
  | enumeration (last : Nat)
  deriving DecidableEq, Repr

/-- The fields of a role's report in word order (R22). -/
def reportFields : Role → List ReportField
  | .vehicle => [.numeric 0 3000, .numeric 0 600, .enumeration 2, .enumeration 2, .enumeration 1, .numeric (-40) 60]
  | .genset => [.enumeration 5, .numeric (-1500) 2500, .numeric 0 2500, .numeric 0 1500]
  | .storage => [.numeric 0 10000, .numeric 0 4000, .numeric 0 4000, .numeric (-4000) 4000, .numeric (-40) 80]
  | .traction => [.numeric (-1000) 6000, .numeric 0 3000, .numeric 0 3000]
  | .brake => [.numeric 0 1000, .numeric 0 3000, .enumeration 1, .numeric 0 5000, .numeric 0 5000, .numeric 0 5000]

/-- The number of words of a role's report (R21). -/
def reportLength (r : Role) : Nat := (reportFields r).length

/-- The value a field takes from its word: signed and clamped, or unsigned (R22). -/
def ReportField.value : ReportField → Word → Int
  | .numeric lo hi, w => clampInt w.toInt lo hi
  | .enumeration _, w => w.toNat

/-- Whether an enumeration field lies outside its codes (R27). -/
def ReportField.outside : ReportField → Word → Bool
  | .numeric _ _, _ => false
  | .enumeration last, w => decide (last < w.toNat)

/-- Whether clamping changes a numeric field (R28). -/
def ReportField.clamps : ReportField → Word → Bool
  | .numeric lo hi, w => w.toInt != clampInt w.toInt lo hi
  | .enumeration _, _ => false

/-- The offset of the first enumeration field outside its codes (R27). -/
def firstOutside (r : Role) (words : List Word) : Option Nat :=
  ((reportFields r).zipWith ReportField.outside words).findIdx? id

/-- The clamped values of a report's words (R28). -/
def reportValues (r : Role) (words : List Word) : List Int :=
  (reportFields r).zipWith ReportField.value words

/-- Bits `k`, `k + 1`, ... of the set, one for each flag. -/
def flagBits : List Bool → Nat → BitVec 6
  | [], _ => 0#6
  | b :: rest, k => (if b then 1#6 <<< k else 0#6) ||| flagBits rest (k + 1)

/-- The clamped-field set of a report's words (R28). -/
def clampedSet (r : Role) (words : List Word) : BitVec 6 :=
  flagBits ((reportFields r).zipWith ReportField.clamps words) 0

def directionOf (x : Int) : Direction :=
  if x = 0 then .neutral else if x = 1 then .forward else .reverse

def doorOf (x : Int) : DoorState :=
  if x = 0 then .closed else if x = 1 then .opened else .unknown

def gensetStateOf (x : Int) : GensetState :=
  if x = 0 then .off else if x = 1 then .cranking else if x = 2 then .warmup
  else if x = 3 then .ready else if x = 4 then .cooldown else .fault

/-- The field at offset `k` of a report's values. -/
def valueAt (values : List Int) (k : Nat) : Int := values.getD k 0

/-- The envelope with the held report of `r` replaced (R28). -/
def Envelope.withReport (e : Envelope) (r : Role) (values : List Int) : Envelope :=
  let x := valueAt values
  match r with
  | .vehicle =>
    { e with vehicle := ⟨x 0, x 1, directionOf (x 2), doorOf (x 3), decide (x 4 = 1), x 5⟩ }
  | .genset => { e with genset := ⟨gensetStateOf (x 0), x 1, x 2, x 3⟩ }
  | .storage => { e with storage := ⟨x 0, x 1, x 2, x 3, x 4⟩ }
  | .traction => { e with traction := ⟨x 0, x 1, x 2⟩ }
  | .brake => { e with brake := ⟨x 0, x 1, decide (x 2 = 1), x 3, x 4, x 5⟩ }

/-- The words of a role's held report (R22, R23). -/
def Envelope.reportWords (e : Envelope) : Role → List Word
  | .vehicle =>
    [wordOf e.vehicle.tDrv, wordOf e.vehicle.pAux, fieldAt e.vehicle.direction.code 0,
     wordOfNat e.vehicle.door.code, flagAt e.vehicle.zone 0, wordOf e.vehicle.ambient]
  | .genset =>
    [wordOfNat e.genset.state.code, wordOf e.genset.pGs, wordOf e.genset.pGsAvail, wordOf e.genset.pAbsMax]
  | .storage =>
    [wordOf e.storage.soc, wordOf e.storage.pDisRep, wordOf e.storage.pChgRep, wordOf e.storage.pBat,
     wordOf e.storage.temperature]
  | .traction => [wordOf e.traction.n, wordOf e.traction.tMotMax, wordOf e.traction.tGenMax]
  | .brake =>
    [wordOf e.brake.v, wordOf e.brake.tRr, flagAt e.brake.slip 0, wordOf e.brake.pfFront, wordOf e.brake.pfMid,
     wordOf e.brake.pfRear]

/-! ### The record map (R195) -/

/-- The role whose report region holds an address 010h to 037h, and the offset in the region (R21). -/
def reportWordAt (a : Nat) : Option (Role × Nat) :=
  if 0x10 ≤ a ∧ a < 0x18 then some (.vehicle, a - 0x10)
  else if 0x18 ≤ a ∧ a < 0x20 then some (.genset, a - 0x18)
  else if 0x20 ≤ a ∧ a < 0x28 then some (.storage, a - 0x20)
  else if 0x28 ≤ a ∧ a < 0x30 then some (.traction, a - 0x28)
  else if 0x30 ≤ a ∧ a < 0x38 then some (.brake, a - 0x30)
  else none

/-- The first address of a capture-class record (R195). -/
def RecordId.base : RecordId → Nat
  | .status => 0x40
  | .traction => 0x50
  | .storage => 0x54
  | .brake => 0x58
  | .genset => 0x60
  | .counters => 0x80
  | .latch => 0x90
  | .notice => 0x94
  | .wearStatus => 0x98
  | .dumpContext => 0xA0
  | .snapshots => 0x100

/-- The number of words of a capture-class record (R195). -/
def RecordId.length : RecordId → Nat
  | .status => 12
  | .traction => 3
  | .storage => 3
  | .brake => 6
  | .genset => 5
  | .counters => 11
  | .latch => 2
  | .notice => 2
  | .wearStatus => 2
  | .dumpContext => 6
  | .snapshots => 16

def allRecords : List RecordId :=
  [.status, .traction, .storage, .brake, .genset, .counters, .latch, .notice, .wearStatus, .dumpContext, .snapshots]

/-- The capture-class record that holds an address (R188). -/
def recordAt (a : Nat) : Option RecordId :=
  allRecords.find? fun r => decide (r.base ≤ a) && decide (a < r.base + r.length)

/-- The address of the dump stream (R177). -/
def streamAddress : Nat := 0x140

/-- The first address of the dump-range record (R195). -/
def dumpRangeBase : Nat := 0xA8

/-! ### A port's cursors (R184) -/

def Cursors.readAddress : Cursors → Address
  | .joined a => a
  | .split r _ => r

def Cursors.writeAddress : Cursors → Address
  | .joined a => a
  | .split _ w => w

/-- The cursors after a READ with its advance bit set (R185). -/
def Cursors.advancedRead : Cursors → Cursors
  | .joined a => .joined (a + 1#10)
  | .split r w => .split (r + 1#10) w

/-- The cursors after a WRITE with its advance bit set (R185). -/
def Cursors.advancedWrite : Cursors → Cursors
  | .joined a => .joined (a + 1#10)
  | .split r w => .split r (w + 1#10)

/-! ### Frames going out (R194) -/

/-- Exclusive or of the bits of a response's body. -/
def responseParity (body : BitVec 31) : Bool :=
  (List.range 31).foldl (fun b i => b ^^ body.getLsbD i) false

/-- A response frame in bits, its parity bit making the whole even (R181, R194). -/
def Response.frame (r : Response) : Frame :=
  let body : BitVec 31 :=
    r.command ++ r.result.code ++ BitVec.ofBool r.attention ++ r.runState.code ++ r.headline ++ r.payload
  body ++ BitVec.ofBool (responseParity body)

end Machine

end Sys2Proof
end

