-- ==== Sys2Proof/Machine/Update.lean ====
section
/-! DEFINITION. The named updates of the state, one for each block; Laws/State.lean has their lemmas. -/

namespace Sys2Proof.Machine

def State.setPowered (s : State) (x : Bool) : State := { s with powered := x }

def State.setResetAsserted (s : State) (x : Bool) : State := { s with resetAsserted := x }

def State.setNow (s : State) (x : Nat) : State := { s with now := x }

def State.setFreeCount (s : State) (x : Nat) : State := { s with freeCount := x }

def State.setRc (s : State) (x : RunControl) : State := { s with rc := x }

def State.setEnv (s : State) (x : Envelope) : State := { s with env := x }

def State.setCut (s : State) (x : Cutback) : State := { s with cut := x }

def State.setSplit (s : State) (x : Split) : State := { s with split := x }

def State.setGen (s : State) (x : Genset) : State := { s with gen := x }

def State.setWear (s : State) (x : Wear) : State := { s with wear := x }

def State.setStore (s : State) (x : Store) : State := { s with store := x }

def State.setRcd (s : State) (x : Recorder) : State := { s with rcd := x }

def State.setPorts (s : State) (x : PerPort PortState) : State := { s with ports := x }

def State.setPending (s : State) (x : List Instr) : State := { s with pending := x }

/-- Every port changed by `f`. -/
def State.mapPorts (s : State) (f : PortState → PortState) : State := s.setPorts (s.ports.map f)

/-- The port `p` changed by `f`. -/
def State.modPort (s : State) (p : Port) (f : PortState → PortState) : State :=
  s.setPorts (s.ports.set p (f (s.ports.get p)))

end Sys2Proof.Machine
end

