-- ==== Sys2Proof/Machine/Flags.lean ====
section
/-! DEFINITION. Flags and sets: role binding, causes and headline, notices and attention, staleness, wear status
codes, the hold line driver. -/

namespace Sys2Proof.Machine

/-! ### Role binding (R1 to R3) -/

/-- Whether a port other than `p` was strapped with the same code. -/
def sharesStrap (straps : PerPort (BitVec 3)) (p : Port) : Bool :=
  allPorts.any fun o => decide (o ≠ p) && straps.get o == straps.get p

/-- The strap invalid flag: code 6 or 7 (R2). -/
def strapInvalid (straps : PerPort (BitVec 3)) (p : Port) : Bool := decide (6 ≤ (straps.get p).toNat)

/-- The duplicate flag: the port asks for a role that another port asks for too (R3). -/
def strapDuplicate (straps : PerPort (BitVec 3)) (p : Port) : Bool :=
  (roleOfStrap (straps.get p)).isSome && sharesStrap straps p

/-- The role a port is bound to, or none (R2, R3). -/
def boundRole (straps : PerPort (BitVec 3)) (p : Port) : Option Role :=
  if sharesStrap straps p then none else roleOfStrap (straps.get p)

/-- Whether a role has a port. -/
def roleHasPort (straps : PerPort (BitVec 3)) (r : Role) : Bool :=
  allPorts.any fun p => boundRole straps p == some r

/-- The completeness flag: each role is bound (R3). -/
def bindingComplete (straps : PerPort (BitVec 3)) : Bool := allRoles.all (roleHasPort straps)

def State.roleOf (s : State) (p : Port) : Option Role := boundRole s.rc.straps p

/-- Whether the port is bound to VEHICLE. -/
def State.isVehicle (s : State) (p : Port) : Bool := s.roleOf p == some .vehicle

/-! ### Staleness (R20) -/

def State.stale (s : State) (r : Role) : Bool := (s.env.book.get r).stale

/-! ### Causes (R42 to R44) -/

def Cause.bit (c : Cause) : CauseSet := 1#13 <<< c.code

def CauseSet.has (set : CauseSet) (c : Cause) : Bool := BitVec.getLsbD set c.code

def State.causeActive (s : State) (c : Cause) : Bool := CauseSet.has s.cut.live c

/-- Membership of the hard class (R43). -/
def Cause.hard : Cause → Bool
  | .holdLine | .selfCheckFail | .linkTraction => true
  | .linkBrake | .linkStorage | .linkVehicle | .linkGenset | .slip | .doorInterlock | .liningCritical
  | .gensetStartFail | .zoneBreach | .wearStoreFault => false

/-- A cause of the hard class is active. -/
def State.hardActive (s : State) : Bool :=
  s.causeActive .holdLine || s.causeActive .selfCheckFail || s.causeActive .linkTraction

/-- A cause of a drive-soft class is active (R70). -/
def State.driveSoftActive (s : State) : Bool :=
  s.causeActive .linkBrake || s.causeActive .linkVehicle || s.causeActive .doorInterlock

/-- The lowest code in the set below `limit`, if there is one. -/
def lowestCode (set : CauseSet) (limit : Nat) : Option Nat := (List.range limit).find? (BitVec.getLsbD set)

/-- The headline: the lowest active code, or 31 (R44). -/
def headline (live : CauseSet) : BitVec 5 := BitVec.ofNat 5 ((lowestCode live 13).getD 31)

/-- The history trigger that the raise of a cause fires (R45). -/
def Cause.historyTrigger : Cause → Option TriggerCause
  | .holdLine => some .holdLine
  | .linkTraction | .linkBrake | .linkStorage | .linkVehicle | .linkGenset => some .cutback
  | .slip => some .slipCut
  | .selfCheckFail | .doorInterlock | .liningCritical | .gensetStartFail | .zoneBreach | .wearStoreFault => none

/-! ### Notices (R190) -/

def NoticeKind.bit (k : NoticeKind) : NoticeSet := 1#13 <<< k.code

def TriggerCause.bit (t : TriggerCause) : TriggerMask := 1#7 <<< t.code

/-- A kind added to a port's notice set. -/
def PortState.addNotice (k : NoticeKind) (x : PortState) : PortState := { x with notices := x.notices ||| k.bit }

/-- A kind added to the notice set of every port. -/
def State.noticeAll (s : State) (k : NoticeKind) : State := s.mapPorts (PortState.addNotice k)

/-- A kind added to the notice sets of the ports of a notify set (R156). -/
def State.noticeTo (s : State) (k : NoticeKind) (ports : PerPort Bool) : State :=
  s.setPorts (s.ports.mapWith (fun x b => if b then x.addNotice k else x) ports)

/-- The attention output of a port: active while its notice set is not empty (R190). -/
def State.attention (s : State) (p : Port) : Bool := (s.ports.get p).notices != 0#13

/-! ### The hold line driver (R54) -/

/-- The part pulls the hold line low. -/
def State.drivesHold (s : State) : Bool :=
  s.powered && (s.resetAsserted || s.rc.runState == .selfCheck || s.causeActive .selfCheckFail)

/-! ### Wear status codes (R141, R142) -/

/-- An item's current status from its level, its role's staleness and its evaluated flag (R141). -/
def wearCode (level : Nat) (stale evaluated : Bool) : WearCode :=
  if 3 ≤ level then .limit
  else if stale then .stale
  else if level = 2 then .warn2
  else if level = 1 then .warn1
  else if evaluated then .ok
  else .notEvaluated

/-- An item's current status. -/
def State.wearStatus (s : State) (i : WearItem) : WearCode :=
  let x := s.wear.items.get i
  wearCode x.level (s.stale i.source) x.evaluated

def State.wearStatuses (s : State) : PerItem WearCode := allItems.map s.wearStatus

/-- The worse of two codes, the one of the smaller number (R141). -/
def WearCode.worse (a b : WearCode) : WearCode := if a.code ≤ b.code then a else b

/-- Every port's stored codes worsened to the current status where that is worse (R142). -/
def State.worsenCodes (s : State) : State :=
  let now := s.wearStatuses
  s.mapPorts fun x => { x with codes := x.codes.mapWith WearCode.worse now }

end Sys2Proof.Machine
end

