-- ==== Sys2Proof/Machine/Ops.lean ====
section
/-! DEFINITION. Named operations over the whole part: the clock, the taken values of the envelope, the exchange of
a frame with its response. -/

namespace Sys2Proof.Machine

/-! ### Supply, reset input and clock (R7; entries 1, 2, 9) -/

/-- The part has supply and its reset input is released: events take place. -/
def State.running (s : State) : Bool := s.powered && !s.resetAsserted

/-- The clock at the time of an event that falls due at `due`; a late event leaves it (entry 2). -/
def State.arrive (s : State) (due : Nat) : State := s.setNow (max s.now due)

/-- An event that a timer brings about: nothing while the part is not running or the timer is stopped. -/
def State.timed (s : State) (timer : Option Nat) (effect : State → State) : State :=
  if s.running then
    match timer with
    | some due => effect (s.arrive due)
    | none => s
  else s

/-- A millisecond passes while no command waits (entry 1). -/
def State.idle (s : State) : State := if s.running then s.setNow (s.now + 1) else s

/-! ### Taken values (R20, R35 to R39) -/

def State.takenPDis (s : State) : Int :=
  if s.stale .storage then (s.rc.applied.pDisFb : Int) else s.env.storage.pDisRep

def State.takenPChg (s : State) : Int :=
  if s.stale .storage then (s.rc.applied.pChgFb : Int) else s.env.storage.pChgRep

/-- P_gs for drive headroom, energy and samples (R36). -/
def State.takenPGsDrive (s : State) : Int := if s.stale .genset then 0 else s.env.genset.pGs

/-- P_gs for regen headroom (R36, R84). -/
def State.takenPGsRegen (s : State) : Int := if s.stale .genset then s.env.genset.pGsAvail else s.env.genset.pGs

def State.takenPAbsMax (s : State) : Int := if s.stale .genset then 0 else s.env.genset.pAbsMax

/-- T_rr, 0 while BRAKE is stale (R38). -/
def State.takenTRr (s : State) : Int := if s.stale .brake then 0 else s.env.brake.tRr

/-! ### Frames (R180 to R183) -/

/-- What a frame is answered with. -/
structure Reply where
  result : Result
  payload : Word
  deriving DecidableEq, Repr

def Reply.ok (payload : Word) : Reply := ⟨.ok, payload⟩

def Reply.hold : Reply := ⟨.hold, 0#16⟩

/-- ACCESS. Its payload is 0 by R24 and R187; where no rule names it (a request, a staged write from an unbound port) 0 is
the MODEL'S CHOICE (entry 38). -/
def Reply.access : Reply := ⟨.access, 0#16⟩

def Reply.state (payload : Nat) : Reply := ⟨.state, wordOfNat payload⟩

/-- CLAIMED (R17 to R19). No rule names its payload: 0 is the MODEL'S CHOICE (entry 38). -/
def Reply.claimed : Reply := ⟨.claimed, 0#16⟩

def Reply.value (payload : Nat) : Reply := ⟨.value, wordOfNat payload⟩

/-- The pending response goes out on data out and is used up (R180). -/
def PortState.shiftOut (x : PortState) : PortState := { x with dataOut := some x.response.frame }

/-- The response made ready after a frame has had its effect (R182). -/
def State.respond (s : State) (p : Port) (command : BitVec 4) (r : Reply) : State :=
  s.modPort p fun x =>
    { x with response := ⟨command, r.result, s.attention p, s.rc.runState, headline s.cut.live, r.payload⟩ }

/-- An exchange: the pending response goes out, the frame has its effect, its response is made ready. While the
reset input is asserted or supply is gone, nothing happens (R180). -/
def State.exchange (s : State) (p : Port) (command : BitVec 4) (effect : State → State × Reply) : State :=
  if s.running then
    let t := effect (s.modPort p PortState.shiftOut)
    t.1.respond p command t.2
  else s

/-- An exchange whose frame is answered HOLD in SELF_CHECK and has no effect there (R13, R183). -/
def State.heldExchange (s : State) (p : Port) (command : BitVec 4) (effect : State → State × Reply) : State :=
  s.exchange p command fun t => if t.rc.runState = .selfCheck then (t, .hold) else effect t

/-- The assembly in progress at a port is discarded (R26). -/
def State.discardAssembly (s : State) (p : Port) : State := s.modPort p fun x => { x with assembly := none }

end Sys2Proof.Machine
end

