-- ==== Sys2Proof/Machine/Recorder.lean ====
section
/-! DEFINITION. The history recorder: its state and sampling level, triggers, samples and dumps (R160 to R179). -/

namespace Sys2Proof.Machine

/-! ### State and sampling level (R162 to R165) -/

/-- The sampling period of a level in ms (R163). -/
def SamplingLevel.period : SamplingLevel → Nat
  | .run => 20
  | .rest1 => 100
  | .rest2 => 1000

/-- Some COMPLETE descriptor has its freeze flag set (R162). -/
def SnapshotTable.frozen (t : SnapshotTable) : Bool :=
  t.toList.any fun d => d.state == .complete && d.freeze

/-- The recorder state that the three conditions fix (R162). -/
def recorderState (t : SnapshotTable) (r : RunState) : RecorderState :=
  if t.frozen then .frozen
  else match r with
    | .selfCheck | .halted => .stopped
    | .standby | .active => .recording

/-- The recorder state settled again: an entry to RECORDING starts afresh at RUN, leaving it stops the sample
timer (R162, R163). -/
def State.settleRecorder (s : State) : State :=
  let x := recorderState s.rcd.table s.rc.runState
  if x = s.rcd.state then s
  else if x = .recording then
    s.setRcd { s.rcd with state := x, level := .run, still := none, due := some (s.now + SamplingLevel.run.period) }
  else s.setRcd { s.rcd with state := x, due := none }

/-- The return of the sampling level to RUN (R165). -/
def State.returnLevel (s : State) : State :=
  if s.rcd.state = .recording then
    if s.rcd.level = .run then s.setRcd { s.rcd with still := none }
    else s.setRcd { s.rcd with level := .run, still := none, due := some (s.now + SamplingLevel.run.period) }
  else s

/-- The newest sample number, 0 while the ring is empty (R161, R197). -/
def Recorder.newest (r : Recorder) : Nat := r.next - 1

/-- The oldest retained sample number (R161). -/
def Recorder.oldest (r : Recorder) : Nat := r.newest - (Config.ringSize - 1)

/-! ### Triggers (R166 to R170) -/

/-- What became of a trigger. -/
inductive TriggerOutcome
  | merged (id : BitVec 2)
  | opened (id : BitVec 2)
  | missed
  | tableFull
  deriving DecidableEq, Repr

/-- The first descriptor id, in order, that satisfies `f`. -/
def SnapshotTable.findId (t : SnapshotTable) (f : Descriptor → Bool) : Option (BitVec 2) :=
  descriptorIds.find? fun id => f (t.get id)

/-- The descriptor a trigger may take: the lowest FREE one, else the lowest OVERWRITTEN one (R168). -/
def SnapshotTable.available (t : SnapshotTable) : Option (BitVec 2) :=
  (t.findId fun d => d.state == .free).orElse fun _ => t.findId fun d => d.state == .overwritten

/-- Some descriptors became COMPLETE: SNAPSHOT_COMPLETE to every port, and a freeze takes effect (R170). -/
def State.completed (s : State) : State := (s.noticeAll .snapshotComplete).settleRecorder

/-- A trigger takes a descriptor (R169); with a post window of 0 it completes at once. -/
def State.openSnapshot (s : State) (c : TriggerCause) (id : BitVec 2) : State :=
  let trig := s.rcd.newest
  let post := s.rc.applied.post.get c
  let d : Descriptor :=
    { state := if post = 0 then .complete else .collecting
      cause := c
      trigger := trig
      first := max s.rcd.oldest (trig - s.rc.applied.pre.get c)
      last := trig + post
      retriggers := 0
      freeze := c.freezes }
  let t := s.setRcd { s.rcd with table := s.rcd.table.set id d }
  if post = 0 then t.completed else t

/-- A trigger fired at the recorder (R168), the sampling level having returned to RUN (R165). -/
def State.fireTrigger (s : State) (c : TriggerCause) : State × TriggerOutcome :=
  let s := s.returnLevel
  match s.rcd.table.findId (fun d => d.state == .collecting && d.cause == c) with
  | some id =>
    let d := s.rcd.table.get id
    (s.setRcd { s.rcd with table := s.rcd.table.set id { d with retriggers := min 255 (d.retriggers + 1) } }, .merged id)
  | none =>
    if s.rcd.state ≠ .recording ∨ s.rcd.empty then (s, .missed)
    else match s.rcd.table.available with
      | some id => (s.openSnapshot c id, .opened id)
      | none =>
        ((s.noticeAll .triggerMissed).mapPorts fun x => { x with missed := x.missed ||| c.bit }, .tableFull)

/-- A trigger fired where its outcome is not asked for. -/
def State.trigger (s : State) (c : TriggerCause) : State := (s.fireTrigger c).1

/-! ### Samples (R160, R161, R164) -/

/-- The ten words of a sample (R197). -/
def Sample.words (x : Sample) : List Word :=
  [highWord x.number, lowWord x.number, wordOf x.v, wordOf x.n, wordOf x.tMc, wordOf x.tRr, wordOf x.pGs,
   wordOf x.soc, x.causes.setWidth 16,
   fieldAt x.runState.code 14 ||| fieldAt x.mode.code 12 ||| fieldAt x.mgr.code 9 ||| fieldAt x.dir.code 7
     ||| fieldAt x.level.code 5]

/-- The picture of the driveline at this moment (R160). -/
def State.takeSample (s : State) : Sample where
  number := s.rcd.next
  v := s.env.brake.v
  n := s.env.traction.n
  tMc := s.split.tMc
  tRr := s.takenTRr
  pGs := s.takenPGsDrive
  soc := s.env.storage.soc
  causes := s.cut.live
  runState := s.rc.runState
  mode := s.split.mode
  mgr := s.gen.mgr
  dir := s.split.dir
  level := s.rcd.level

/-- A still moment: v, T_drv, T_rr and T_mc are all 0 (R164). -/
def State.isStill (s : State) : Bool :=
  decide (s.env.brake.v = 0 ∧ s.env.vehicle.tDrv = 0 ∧ s.takenTRr = 0 ∧ s.split.tMc = 0)

/-- The sampling level and the stillness timer after a sample (R164). -/
def nextLevel (level : SamplingLevel) (still : Option Nat) (isStill : Bool) (now : Nat) :
    SamplingLevel × Option Nat :=
  if isStill then
    match still with
    | none => (level, some now)
    | some t =>
      if t + 300000 ≤ now then (.rest2, some t)
      else if t + 30000 ≤ now ∧ level = .run then (.rest1, some t)
      else (level, some t)
  else (level, none)

/-- The retained sample of a number (R161). -/
def Recorder.sampleNumber (r : Recorder) (k : Nat) : Option Sample := r.ring.find? fun x => x.number == k

/-! ### Dumps (R174 to R177) -/

/-- A STREAMING context that may fetch (R176). -/
def DumpContext.mayFetch (d : DumpContext) (r : Recorder) : Bool :=
  d.status == .streaming && decide (d.queue.length + Config.sampleWords ≤ Config.queueSize)
    && decide (d.next ≤ d.last) && decide (d.next < r.next)

/-- The context after the fetch of a sample (R176). -/
def DumpContext.fetched (d : DumpContext) (x : Sample) : DumpContext :=
  let e := { d with queue := d.queue ++ x.words, next := d.next + 1 }
  if d.next = d.last then { e with status := .ended, reason := some .done } else e

/-- The fetch, where the conditions hold (R176). -/
def DumpContext.fetch (d : DumpContext) (r : Recorder) : DumpContext :=
  if d.mayFetch r then
    match r.sampleNumber d.next with
    | some x => d.fetched x
    | none => d
  else d

/-- The context after the ring drops sample `k` (R176). -/
def DumpContext.dropped (d : DumpContext) (k : Nat) : DumpContext :=
  if d.status = .streaming ∧ d.next ≤ k then { d with status := .ended, reason := some .lost } else d

/-- The dump of a port cancelled, its queue emptied (R178, R15). -/
def DumpContext.cancelled (d : DumpContext) : DumpContext :=
  { d with status := .ended, reason := some .cancelled, queue := [] }

def PortState.fetch (r : Recorder) (x : PortState) : PortState := { x with dump := x.dump.fetch r }

/-- A descriptor after the ring drops sample `k` (R171). -/
def Descriptor.dropped (k : Nat) (d : Descriptor) : Descriptor :=
  if d.state = .complete ∧ d.first ≤ k then { d with state := .overwritten } else d

/-- A descriptor after sample `k` is recorded (R170). -/
def Descriptor.recorded (k : Nat) (d : Descriptor) : Descriptor :=
  if d.state = .collecting ∧ d.last ≤ k then { d with state := .complete } else d

/-- The ring takes a sample: level, stillness timer and sample timer follow (R161, R163, R164). -/
def State.recordSample (s : State) : State :=
  let l := nextLevel s.rcd.level s.rcd.still s.isStill s.now
  s.setRcd { s.rcd with
    ring := (s.takeSample :: s.rcd.ring).take Config.ringSize
    next := s.rcd.next + 1
    empty := false
    level := l.1
    still := l.2
    due := some (s.now + l.1.period) }

/-- The consequences of the ring dropping sample `k` (R171, R176). -/
def State.dropSample (s : State) (k : Nat) : State :=
  let table := s.rcd.table.map (Descriptor.dropped k)
  let t := (s.setRcd { s.rcd with table := table }).mapPorts fun x => { x with dump := x.dump.dropped k }
  if table = s.rcd.table then t else t.noticeAll .snapshotOverwritten

/-- The descriptors that complete with sample `k` (R170). -/
def State.completeSnapshots (s : State) (k : Nat) : State :=
  let table := s.rcd.table.map (Descriptor.recorded k)
  if table = s.rcd.table then s else (s.setRcd { s.rcd with table := table }).completed

/-- The recording of a sample with all its consequences (R161 to R164, R170, R171, R176). -/
def State.recordEvent (s : State) : State :=
  let k := s.rcd.next
  let s := s.recordSample
  let s := if Config.ringSize ≤ k then s.dropSample (k - Config.ringSize) else s
  let s := s.completeSnapshots k
  s.mapPorts (PortState.fetch s.rcd)

/-- The sample event: after sample 4294967295 the recorder takes no further sample (R161). -/
def State.sampleEvent (s : State) : State :=
  if s.rcd.state = .recording ∧ s.rcd.next ≤ Config.lastSample then s.recordEvent else s

end Sys2Proof.Machine
end

