-- ==== Sys2Proof/Machine/Cutback.lean ====
section
/-! DEFINITION. The cutback unit: the raise and the clear of a cause with everything they bring (R45, R46), the door
interlock, slip and the hold line. -/

namespace Sys2Proof.Machine

/-- The events of R78 that zero the command between evaluations: T_mc, both limits and the grant become 0, the
friction remainder the full taken T_rr (R93), and the regen limit source as given (R87). S goes to 0 with them. -/
def State.zeroCommand (s : State) (source : RegenSource) : State :=
  (s.setSplit { s.split with
    tMc := 0, lDrive := 0, lRegen := 0, grant := 0, friction := s.takenTRr, source := source }).setGen
    { s.gen with setpoint := 0 }

/-- What the raise of a hard cause does at once (R45): the command is zeroed, and LINK_TRACTION clears the valid
flag of the traction command. -/
def State.hardRaise (s : State) (c : Cause) : State :=
  if c.hard then
    let t := s.zeroCommand .hardCause
    if c = .linkTraction then t.setSplit { t.split with valid := false } else t
  else s

/-- The marking of a raise: live set, every latch set, CUTBACK_CHANGE to every port (R45). -/
def State.markRaised (s : State) (c : Cause) : State :=
  ((s.setCut { s.cut with live := s.cut.live ||| c.bit }).mapPorts
    fun x => { x with latch := x.latch ||| c.bit }).noticeAll .cutbackChange

/-- The history trigger of a raise (R45). -/
def State.raiseTrigger (s : State) (c : Cause) : State :=
  match c.historyTrigger with
  | some t => s.trigger t
  | none => s

/-- A raise; of a cause already active, nothing (R42, R45). -/
def State.raise (s : State) (c : Cause) : State :=
  if s.causeActive c then s else ((s.markRaised c).hardRaise c).raiseTrigger c

/-- A clear; of a cause that is not active, nothing (R42, R46). -/
def State.clear (s : State) (c : Cause) : State :=
  if s.causeActive c then
    (s.setCut { s.cut with live := s.cut.live &&& ~~~ c.bit }).noticeAll .cutbackChange
  else s

/-- A raise or a clear. -/
def State.setCause (s : State) (c : Cause) (active : Bool) : State := if active then s.raise c else s.clear c

def State.setSlipTimer (s : State) (t : SlipTimer) : State := s.setCut { s.cut with slipTimer := t }

/-- DOOR_INTERLOCK at a VEHICLE commit (R50). -/
def State.readDoor (s : State) : State := s.setCause .doorInterlock (s.env.vehicle.door ≠ .closed)

/-- The slip flag at a BRAKE commit (R51, R52). -/
def State.readSlip (s : State) : State :=
  if s.env.brake.slip then
    (s.raise .slip).setSlipTimer (.running (s.now + s.rc.applied.tSlipHold))
  else if s.causeActive .slip ∧ s.cut.slipTimer = .expired then (s.clear .slip).setSlipTimer .idle
  else s

/-- SLIP ends with the staleness of BRAKE (R53). -/
def State.slipGivenUp (s : State) : State := (s.clear .slip).setSlipTimer .idle

end Sys2Proof.Machine
end

