-- ==== Sys2Proof/Machine/Journal.lean ====
section
/-! DEFINITION. The wear store: the journal as a memory of words, its records and their CRC, checkpoints, verification,
faults and the scan (R149 to R159). -/

namespace Sys2Proof.Machine

/-! ### The journal as a memory (R149; entry 22) -/

/-- The word at an address; an unlisted one is erased. -/
def Memory.read : Memory → Nat → Word
  | [], _ => Config.erasedWord
  | (b, x) :: m, a => if a = b then x else Memory.read m a

/-- The memory with the word at an address stored, in canonical form. -/
def Memory.write : Memory → Nat → Word → Memory
  | [], a, w => if w = Config.erasedWord then [] else [(a, w)]
  | (b, x) :: m, a, w =>
    if a < b then (if w = Config.erasedWord then (b, x) :: m else (a, w) :: (b, x) :: m)
    else if a = b then (if w = Config.erasedWord then m else (b, w) :: m)
    else (b, x) :: Memory.write m a w

/-- Words stored from an address on. -/
def Memory.writeList : Memory → Nat → List Word → Memory
  | m, _, [] => m
  | m, a, w :: ws => Memory.writeList (Memory.write m a w) (a + 1) ws

/-- The words of `count` addresses from `a` on. -/
def Memory.readList (m : Memory) (a count : Nat) : List Word := (List.range count).map fun k => m.read (a + k)

/-- `count` words from `a` on erased. -/
def Memory.erase (m : Memory) (a count : Nat) : Memory :=
  m.filter fun c => decide (c.1 < a) || decide (a + count ≤ c.1)

/-- The canonical form: addresses strictly rising, no entry that reads as an unlisted address does. -/
def Memory.wf : Memory → Bool
  | [] => true
  | [c] => c.2 != Config.erasedWord
  | c :: d :: rest => decide (c.1 < d.1) && c.2 != Config.erasedWord && Memory.wf (d :: rest)

def Segment.base (g : Segment) : Nat := g.number * Config.segmentWords

/-- The address of word 0 of a slot. -/
def slotAddress (g : Segment) (slot : Nat) : Nat := g.base + slot * Config.slotWords

/-! ### Records (R149, R156) -/

/-- One word shifted through the CRC register, most significant bit first (R149). -/
def crcShift : Nat → BitVec 16 → BitVec 16
  | 0, c => c
  | k + 1, c => crcShift k (if c.msb then (c <<< 1) ^^^ 0x1021#16 else c <<< 1)

/-- The CRC of words: polynomial 1021h, initial value FFFFh, no final inversion (R149). -/
def crc (words : List Word) : Word := words.foldl (fun c w => crcShift 16 (c ^^^ w)) 0xFFFF#16

/-- Words 0 to 11 of a record (R149). -/
def recordBody (seq : Nat) (totals : PerItem Nat) : List Word :=
  [highWord seq, lowWord seq] ++ totals.toList.flatMap fun t => [highWord t, lowWord t]

/-- The thirteen words of a record (R149). -/
def journalRecord (seq : Nat) (totals : PerItem Nat) : List Word :=
  recordBody seq totals ++ [crc (recordBody seq totals)]

/-- The number a write attempt uses after `lastUsed`, passing over one whose CRC would be FFFFh; none when no
number is left. Beside it, the last number used (R149, R156; entry 32). -/
def nextSequence (lastUsed : Nat) (totals : PerItem Nat) : Option Nat × Nat :=
  if Config.lastSequence ≤ lastUsed then (none, lastUsed)
  else if crc (recordBody (lastUsed + 1) totals) = Config.erasedWord then
    if Config.lastSequence ≤ lastUsed + 1 then (none, lastUsed + 1) else (some (lastUsed + 2), lastUsed + 2)
  else (some (lastUsed + 1), lastUsed + 1)

/-- Words with those of failing cells in their place (R155, R156; entry 8). -/
def withFaults (faults : CellFaults) (words : List Word) : List Word :=
  words.zipIdx.map fun x => ((faults.find? fun c => c.1 == x.2).map Prod.snd).getD x.1

/-! ### Checkpoints (R151 to R157) -/

def State.totals (s : State) : PerItem Nat := s.wear.items.map ItemState.total

/-- The store enters fault (R157). -/
def State.storeFault (s : State) : State :=
  let t := s.setStore { s.store with
    fault := true, phase := .idle, pendingFlag := false, current := noPorts, waiting := noPorts,
    record := none, attempts := 0, endAt := none }
  (t.raise .wearStoreFault).noticeAll .storeFault

/-- The totals of the checkpoint in flight. -/
def Store.recordTotals (x : Store) : PerItem Nat := x.record.getD ⟨0, 0, 0, 0, 0⟩

/-- A write attempt at the write position (R156). -/
def State.writeAttempt (s : State) : State :=
  match nextSequence s.store.lastUsed s.store.recordTotals with
  | (some n, _) =>
    s.setStore { s.store with
      phase := .writing, attempts := s.store.attempts + 1, lastUsed := n, endAt := some (s.now + Config.writeTime) }
  | (none, n) => (s.setStore { s.store with lastUsed := n }).storeFault

/-- Where a checkpoint writes next: at the write position, or after an erase of the other segment (R154, R156). -/
def State.writeOrErase (s : State) : State :=
  if s.store.pos < Config.segmentSlots then s.writeAttempt
  else s.setStore { s.store with phase := .erasing, endAt := some (s.now + Config.eraseTime) }

/-- The start of a checkpoint: the totals are copied (R154). -/
def State.startCheckpoint (s : State) : State :=
  (s.setStore { s.store with record := some s.totals, attempts := 0 }).writeOrErase

/-- A checkpoint request (R153). -/
def State.requestCheckpoint (s : State) : State :=
  if s.store.fault then s
  else if s.store.phase = .idle then s.startCheckpoint
  else s.setStore { s.store with pendingFlag := true }

/-- The end of a checkpoint that succeeded; a pending one starts in the same event (R154, R155). -/
def State.endCheckpoint (s : State) : State :=
  let t := s.setStore { s.store with
    phase := .idle, record := none, attempts := 0, endAt := none, current := noPorts }
  if t.store.pendingFlag then
    (t.setStore { t.store with
      pendingFlag := false, current := t.store.waiting, waiting := noPorts }).startCheckpoint
  else t

/-- The words the write in flight means to store. -/
def Store.intended (x : Store) : List Word := journalRecord x.lastUsed x.recordTotals

/-- The journal after `count` words of the write in flight. A word write clears bits only (R149). -/
def Store.journalWritten (x : Store) (count : Nat) (faults : CellFaults) : Memory :=
  let a := slotAddress x.active x.pos
  let cleared := (x.intended.take count).zipWith (· &&& ·) (x.journal.readList a count)
  x.journal.writeList a (withFaults faults cleared)

/-- The end of a record write: read back, compared, and the checkpoint ends, tries again or fails (R156). -/
def State.verifyWrite (s : State) (faults : CellFaults) : State :=
  let meant := s.store.intended
  let s := s.setStore { s.store with journal := s.store.journalWritten Config.slotWords faults }
  let read := s.store.journal.readList (slotAddress s.store.active s.store.pos) Config.slotWords
  let s := s.setStore { s.store with pos := s.store.pos + 1 }
  if read = meant then
    ((s.setStore { s.store with lastVerified := s.store.lastUsed }).noticeTo .checkpointDone
      s.store.current).endCheckpoint
  else if s.store.attempts < 3 then s.writeOrErase
  else s.storeFault

/-- The end of an erase of the segment that is not active (R155). -/
def State.verifyErase (s : State) (faults : CellFaults) : State :=
  let g := s.store.active.other
  let erased := List.replicate Config.segmentWords Config.erasedWord
  let journal := (s.store.journal.erase g.base Config.segmentWords).writeList g.base (withFaults faults erased)
  let s := s.setStore { s.store with
    journal := journal, cutErase := s.store.cutErase.set g false }
  if s.store.journal.readList g.base Config.segmentWords = erased then
    (s.setStore { s.store with active := g, pos := 0 }).writeAttempt
  else s.storeFault

/-! ### The interrupted operation (R159) -/

/-- The journal's part of an operation cut off by the reset input or the loss of supply (R159): a write leaves the
words it had written, an erase leaves free values in the segment (entries 7 and 8). -/
def State.cutStoreOff (s : State) (cut : WriteCut) : State :=
  match s.store.phase with
  | .idle => s
  | .writing => s.setStore { s.store with journal := s.store.journalWritten (min cut.words Config.slotWords) cut.faults }
  | .erasing =>
    let g := s.store.active.other
    let remnant := (List.range Config.segmentWords).map (Config.eraseRemnant s.freeCount)
    (s.setStore { s.store with
      journal := s.store.journal.writeList g.base remnant, cutErase := s.store.cutErase.set g true }).setFreeCount
      (s.freeCount + 1)

/-- The store stops while the reset input is asserted: checkpoint record, pending flag and notify sets are lost
(R159). -/
def Store.stopped (x : Store) : Store :=
  { x with phase := .idle, record := none, attempts := 0, pendingFlag := false, current := noPorts,
           waiting := noPorts, endAt := none }

/-! ### The scan (R158) -/

/-- What the scan sees of a slot. -/
structure SlotView where
  segment : Segment
  slot : Nat
  free : Bool
  valid : Bool
  words : List Word
  deriving DecidableEq, Repr

/-- A slot as the scan sees it: one of a segment whose erase was cut off is neither free nor valid (R149, R159). -/
def slotView (m : Memory) (cutErase : SegmentFlags) (g : Segment) (slot : Nat) : SlotView :=
  let words := m.readList (slotAddress g slot) Config.slotWords
  let cut := cutErase.get g
  let free := !cut && words.all (· == Config.erasedWord)
  let last := words.getD 12 Config.erasedWord
  { segment := g, slot := slot, free := free
    valid := !cut && !free && last != Config.erasedWord && last == crc (words.take 12), words := words }

/-- Words 0 and 1 of a slot, high word first (R158). -/
def SlotView.sequence (x : SlotView) : Nat := twoWords (x.words.getD 0 0#16) (x.words.getD 1 0#16)

/-- The five totals of a record (R149). -/
def SlotView.totals (x : SlotView) : PerItem Nat :=
  let t := fun k => twoWords (x.words.getD k 0#16) (x.words.getD (k + 1) 0#16)
  ⟨t 2, t 4, t 6, t 8, t 10⟩

/-- Both segments, slot by slot (R158). -/
def scanSlots (m : Memory) (cutErase : SegmentFlags) : List SlotView :=
  (List.range Config.segmentSlots).map (slotView m cutErase .seg0) ++
    (List.range Config.segmentSlots).map (slotView m cutErase .seg1)

/-- Words 0 and 1 carry a number: FFFFFFFFh is none (R158). -/
def SlotView.numbered (x : SlotView) : Bool := x.sequence != 4294967295

/-- The newest record: the valid one of the highest sequence number (R158). MODEL'S CHOICE (entry 39): a slot whose CRC is
right and whose words 0 and 1 carry no number is not taken as a record. -/
def newestRecord (slots : List SlotView) : Option SlotView :=
  slots.foldl (init := none) fun best x =>
    if x.valid && x.numbered then
      match best with
      | none => some x
      | some b => if b.sequence < x.sequence then some x else best
    else best

/-- The highest number that a slot that is not free carries; FFFFFFFFh is no number (R158). -/
def highestNumber (slots : List SlotView) : Nat :=
  slots.foldl (init := 0) fun best x =>
    if x.free || !x.numbered then best else max best x.sequence

/-- The slot after the highest slot of a segment that is not free (R158). -/
def writePosition (slots : List SlotView) (g : Segment) : Nat :=
  slots.foldl (init := 0) fun best x => if x.segment = g ∧ x.free = false then max best (x.slot + 1) else best

/-- The store formed from the journal by the scan (R158). -/
def Store.scanned (x : Store) : Store :=
  let slots := scanSlots x.journal x.cutErase
  let newest := newestRecord slots
  let g := (newest.map SlotView.segment).getD .seg0
  { x.stopped with
    fault := false
    active := g
    pos := writePosition slots g
    lastUsed := highestNumber slots
    lastVerified := (newest.map SlotView.sequence).getD 0
    timer := none }

/-- The totals the scan restores; none when no valid record is found (R158). -/
def Store.restored (x : Store) : Option (PerItem Nat) :=
  (newestRecord (scanSlots x.journal x.cutErase)).map SlotView.totals

end Sys2Proof.Machine
end

