-- ==== Sys2Proof/Machine/WearMonitor.lean ====
section
/-! DEFINITION. The wear monitor: lining temperatures, wear items and their levels (R129 to R140, R145). -/

namespace Sys2Proof.Machine

/-! ### Item levels (R138, R139) -/

/-- The number of thresholds at or below a total (R138). -/
def levelOf (t : Thresholds) (total : Nat) : Nat :=
  (if t.t1 ≤ total then 1 else 0) + (if t.t2 ≤ total then 1 else 0) + (if t.t3 ≤ total then 1 else 0)

/-- The items with their levels formed against thresholds (R138). -/
def leveled (items : PerItem ItemState) (thresholds : PerItem Thresholds) : PerItem ItemState :=
  items.mapWith (fun x t => { x with level := levelOf t x.total }) thresholds

/-- Whether some item's level is higher in `after` than in `before`. -/
def anyRise (before after : PerItem ItemState) : Bool :=
  (before.mapWith (fun x y => decide (x.level < y.level)) after).toList.any id

/-- The levels recomputed as a change, with its consequences (R138, R139, R142). -/
def State.recomputeLevels (s : State) : State :=
  let items := leveled s.wear.items s.rc.applied.thresholds
  let t := (s.setWear { s.wear with items := items }).worsenCodes
  if anyRise s.wear.items items then ((t.noticeAll .wearLevel).requestCheckpoint).trigger .wearLevel
  else if anyRise items s.wear.items then t.noticeAll .wearLevel
  else t

/-- The battery wear level (R140). -/
def State.batteryLevel (s : State) : Nat := s.wear.items.battery.level

/-- The ageing factor the level selects (R63, R140). -/
def AgeingFactors.at (a : AgeingFactors) (level : Nat) : Nat :=
  match level with
  | 0 => a.a0
  | 1 => a.a1
  | 2 => a.a2
  | _ => a.a3

/-! ### Adding wear (R135 to R137) -/

/-- Weighted energy added to an item's residual and carried into its total (R137); the item is evaluated. -/
def ItemState.addEnergy (unit energy : Nat) (x : ItemState) : ItemState :=
  { x with
    residual := (x.residual + energy) % unit
    total := min Config.maxTotal (x.total + (x.residual + energy) / unit)
    evaluated := true }

/-- The wear factor of a thermal level (R135). -/
def ThermalLevel.wearFactor : ThermalLevel → Nat
  | .normal => 1
  | .warm => 2
  | .hot => 4
  | .critical => 8

/-- The lining energy of a commit in J (R130). -/
def liningEnergy (pf : Int) (dt : Nat) : Int := (pf * dt).tdiv 10

/-- The reported temperature (R129). -/
def Lining.theta (x : Lining) : Int := x.fine.tdiv 256

/-- θ_fine after heating and cooling (R130). -/
def Lining.updatedFine (x : Lining) (pf ambient : Int) (dt cHeat tau : Nat) : Int :=
  let heating := (liningEnergy pf dt * 256).tdiv cHeat
  let cooling := ((x.fine - ambient * 256) * dt).tdiv tau
  clampInt (x.fine + heating - cooling) 0 Config.maxThetaFine

def thermalLevelOf (count : Nat) : ThermalLevel :=
  match count with
  | 0 => .normal
  | 1 => .warm
  | 2 => .hot
  | _ => .critical

/-- How many of three temperatures are at or below θ (R132). -/
def countAtOrBelow (theta a b c : Int) : Nat :=
  (if a ≤ theta then 1 else 0) + (if b ≤ theta then 1 else 0) + (if c ≤ theta then 1 else 0)

/-- The thermal level settled from θ and the level before (R132). -/
def settledLevel (before : ThermalLevel) (theta : Int) : ThermalLevel :=
  let rising := countAtOrBelow theta 300 450 600
  let holding := countAtOrBelow theta 280 430 580
  if before.code < rising then thermalLevelOf rising
  else if holding < before.code then thermalLevelOf holding
  else before

/-- One axle group's estimate after a BRAKE commit (R130, R132). -/
def Lining.updated (x : Lining) (pf ambient : Int) (dt cHeat tau : Nat) : Lining :=
  let y := { x with fine := x.updatedFine pf ambient dt cHeat tau }
  { y with level := settledLevel x.level y.theta }

/-- Lining wear of a BRAKE commit, from the levels before it (R135). -/
def State.addLiningWear (s : State) (dt : Nat) : State :=
  let b := s.env.brake
  let l := s.wear.lining
  let add (x : Lining) (pf : Int) := ItemState.addEnergy 1000 ((liningEnergy pf dt).toNat * x.level.wearFactor)
  s.setWear { s.wear with items := { s.wear.items with
    liningFront := add l.front b.pfFront s.wear.items.liningFront
    liningMid := add l.middle b.pfMid s.wear.items.liningMid
    liningRear := add l.rear b.pfRear s.wear.items.liningRear } }

def isCritical (l : PerGroup Lining) : Bool := l.toList.any fun x => x.level == .critical

/-- The lining estimates of a BRAKE commit (R130), with the consequences of a changed level (R133). -/
def State.heatLinings (s : State) (dt : Nat) : State :=
  let b := s.env.brake
  let l := s.wear.lining
  let up (x : Lining) (pf : Int) :=
    x.updated pf s.env.vehicle.ambient dt s.rc.applied.cHeat s.rc.applied.tau
  let l' : PerGroup Lining := ⟨up l.front b.pfFront, up l.middle b.pfMid, up l.rear b.pfRear⟩
  let t := s.setWear { s.wear with lining := l' }
  if l'.map Lining.level = l.map Lining.level then t
  else (t.noticeAll .thermalLevel).setCause .liningCritical (isCritical l')

/-- The wear monitor at a BRAKE commit: wear, then levels, then heat (R130, R135). -/
def State.brakeWear (s : State) (dt : Nat) : State := ((s.addLiningWear dt).recomputeLevels).heatLinings dt

/-- The weight of battery energy (R136). -/
def batteryWeight (r : StorageReport) (socHiTaper : Nat) : Nat :=
  (if r.temperature < 0 ∨ 45 < r.temperature then 2 else 1) *
    (if r.pBat < 0 ∧ (socHiTaper : Int) < r.soc then 2 else 1)

/-- The weighted battery energy of a STORAGE commit (R136). -/
def batteryEnergy (r : StorageReport) (dt socHiTaper : Nat) : Nat :=
  r.pBat.natAbs * dt / 10 * batteryWeight r socHiTaper

/-- The wear monitor at a STORAGE commit (R136). -/
def State.batteryWear (s : State) (dt : Nat) : State :=
  let e := batteryEnergy s.env.storage dt s.rc.applied.socHiTaper
  (s.setWear { s.wear with items := { s.wear.items with
    battery := s.wear.items.battery.addEnergy 1000000 e } }).recomputeLevels

/-- The wear monitor at a GENSET commit: a start counts at OFF to CRANKING (R120, R137). -/
def State.countStart (s : State) (before : GensetState) : State :=
  let x := s.wear.items.gensetStarts
  let started := before = .off ∧ s.env.genset.state = .cranking
  (s.setWear { s.wear with items := { s.wear.items with
    gensetStarts := { x with
      total := if started then min Config.maxTotal (x.total + 1) else x.total
      evaluated := true } } }).recomputeLevels

/-- An item zeroed by WEAR_RESET, its level recomputed and a checkpoint requested (R145). -/
def State.resetItem (s : State) (i : WearItem) : State :=
  let x := s.wear.items.get i
  ((s.setWear { s.wear with items := s.wear.items.set i { x with total := 0, residual := 0 } }).recomputeLevels
    ).requestCheckpoint

/-- The highest thermal level of the three groups (R106). -/
def State.highestThermal (s : State) : Nat :=
  (s.wear.lining.map fun x => x.level.code).toList.foldl max 0

end Sys2Proof.Machine
end

