-- ==== Sys2Proof/Machine/GensetManager.lean ====
section
/-! DEFINITION. The genset manager: its timers, transitions, zone rule and setpoint (R104 to R119). -/

namespace Sys2Proof.Machine

/-- The run request follows the manager state (R104): true for RUN. -/
def ManagerState.runRequest : ManagerState → Bool
  | .startRequested | .run | .absorb => true
  | .off | .stopRequested => false

/-- A timer has elapsed when it is idle or its end time has come (R105). -/
def elapsed (timer : Option Nat) (now : Nat) : Bool :=
  match timer with
  | none => true
  | some t => decide (t ≤ now)

/-- The end time of one of the four timers (R105). -/
def Genset.timer (g : Genset) : GensetTimer → Option Nat
  | .minRun => g.minRun
  | .minOff => g.minOff
  | .start => g.start
  | .absorbExit => g.absExit

/-- The raise or clear of ZONE_BREACH with its own notice (R49, R117). -/
def State.raiseZoneBreach (s : State) : State :=
  if s.causeActive .zoneBreach then s else (s.raise .zoneBreach).noticeAll .zoneBreach

/-- The entry of the manager to OFF from another state: the minimum off timer is set, the others idle, ZONE_BREACH
cleared (R105, R117). -/
def State.enterOff (s : State) : State :=
  (s.setGen { s.gen with
    mgr := .off, setpoint := 0, minRun := none, start := none, absExit := none
    minOff := some (s.now + s.rc.applied.tMinOff * 1000) }).clear .zoneBreach

/-- The manager sent to OFF from any state: in OFF it stays there with its minimum off timer as it is (R115). -/
def State.sendOff (s : State) : State :=
  if s.gen.mgr = .off then
    s.setGen { s.gen with setpoint := 0, minRun := none, start := none, absExit := none }
  else s.enterOff

/-- Toward STOP_REQUESTED, or to OFF when the genset already reports OFF (R108 to R116). -/
def State.sendStop (s : State) : State :=
  if s.env.genset.state = .off then s.enterOff
  else s.setGen { s.gen with mgr := .stopRequested, setpoint := 0, minRun := none, start := none, absExit := none }

/-- The entry to RUN from START_REQUESTED (R110). -/
def State.startReached (s : State) : State :=
  (s.setGen { s.gen with
    mgr := .run, failCount := 0, start := none
    minRun := some (s.now + s.rc.applied.tMinRun * 1000) }).clear .gensetStartFail

/-- ABSORB is left for RUN (R114, R116). -/
def State.leaveAbsorb (s : State) : State := s.setGen { s.gen with mgr := .run, absExit := none }

/-- A failed start (R111). -/
def State.failedStart (s : State) : State :=
  let t := s.enterOff
  let count := t.gen.failCount + 1
  let t := t.setGen { t.gen with
    failCount := count
    inhibit := t.gen.inhibit || decide (t.rc.applied.nStartFail ≤ count) }
  ((t.raise .gensetStartFail).noticeAll .gensetEvent).trigger .gensetFail

/-- The genset has stopped without being asked to (R112, R114). -/
def State.stoppedUnasked (s : State) : State := s.enterOff.noticeAll .gensetEvent

/-- The zone rule asks for a stop: zone flag 1 and SOC above the reserve margin (R116). -/
def State.zoneStops (s : State) : Bool :=
  s.env.vehicle.zone && decide ((s.rc.applied.socReserve : Int) + 500 < s.env.storage.soc)

/-- The genset reports OFF or FAULT. -/
def State.gensetStopped (s : State) : Bool :=
  s.env.genset.state == .off || s.env.genset.state == .fault

/-- The conditions of a start but for the minimum off timer (R109). -/
def State.startWanted (s : State) : Bool :=
  !s.gen.inhibit
    && decide (s.env.storage.soc < s.rc.applied.socStart ∨ (s.split.pDisEff * 3).tdiv 4 < s.gen.dAvg)
    && (!s.env.vehicle.zone || decide (s.env.storage.soc ≤ s.rc.applied.socReserve))

/-- The test of the minimum off timer at a step, whatever the run state and the manager state: at its first test after its end
time it becomes idle (R105). -/
def State.testMinOff (s : State) : State :=
  if elapsed s.gen.minOff s.now then s.setGen { s.gen with minOff := none } else s

/-- OFF in ACTIVE (R109). -/
def State.stepOff (s : State) : State :=
  if elapsed s.gen.minOff s.now && s.startWanted then
    s.setGen { s.gen with mgr := .startRequested, start := some (s.now + s.rc.applied.tStart * 1000) }
  else s

/-- START_REQUESTED in ACTIVE (R110). -/
def State.stepStartRequested (s : State) : State :=
  if s.zoneStops then s.sendStop
  else if s.env.genset.state = .warmup ∨ s.env.genset.state = .ready then s.startReached
  else if s.env.genset.state = .fault ∨ elapsed s.gen.start s.now then s.failedStart
  else s

/-- The stop test of RUN (R112, case 3). -/
def State.stopWanted (s : State) : Bool :=
  decide ((s.rc.applied.socStop : Int) ≤ s.env.storage.soc ∧ s.gen.dAvg ≤ s.split.pDisEff.tdiv 2)
    && elapsed s.gen.minRun s.now

/-- The conditions of ABSORB (R113). -/
def State.absorbWanted (s : State) : Bool :=
  decide (s.split.mode = .braking ∧ 2 ≤ s.highestThermal ∧ (s.rc.applied.socHiTaper : Int) ≤ s.env.storage.soc
    ∧ s.env.genset.state = .ready ∧ s.env.vehicle.zone = false ∧ 0 < s.takenPAbsMax)

/-- RUN in ACTIVE (R112). -/
def State.stepRun (s : State) : State :=
  if s.gensetStopped then s.stoppedUnasked
  else if s.zoneStops then s.sendStop
  else if s.stopWanted then s.sendStop
  else if s.absorbWanted then s.setGen { s.gen with mgr := .absorb, absExit := none }
  else s

/-- The absorb exit timer has elapsed after being set (R114). -/
def absorbExitEnded (timer : Option Nat) (now : Nat) : Bool :=
  match timer with
  | none => false
  | some t => decide (t ≤ now)

/-- The exits of ABSORB to RUN (R114, case 3). -/
def State.absorbEnds (s : State) : Bool :=
  (decide (s.split.mode ≠ .braking) && absorbExitEnded s.gen.absExit s.now)
    || decide (s.highestThermal = 0 ∨ s.env.storage.soc < (s.rc.applied.socHiTaper : Int) - 300
      ∨ s.env.genset.state ≠ .ready)

/-- The absorb exit timer at a step that stays in ABSORB (R114, case 4). -/
def State.absorbTimer (s : State) : Option Nat :=
  if s.split.mode = .braking then none
  else match s.gen.absExit with
    | none => some (s.now + s.rc.applied.tAbsExit * 1000)
    | some t => some t

/-- ABSORB in ACTIVE (R114). -/
def State.stepAbsorb (s : State) : State :=
  if s.gensetStopped then s.stoppedUnasked
  else if s.zoneStops then s.sendStop
  else if s.env.vehicle.zone then s.leaveAbsorb
  else if s.absorbEnds then s.leaveAbsorb
  else s.setGen { s.gen with absExit := s.absorbTimer }

/-- STOP_REQUESTED (R115). -/
def State.stepStopRequested (s : State) : State := if s.gensetStopped then s.enterOff else s

/-- At most one transition of a step (R108 to R115). -/
def State.managerTransition (s : State) : State :=
  if s.stale .genset then (if s.gen.mgr = .off then s else s.enterOff)
  else if s.rc.runState = .active then
    match s.gen.mgr with
    | .off => s.stepOff
    | .startRequested => s.stepStartRequested
    | .run => s.stepRun
    | .absorb => s.stepAbsorb
    | .stopRequested => s.stepStopRequested
  else
    match s.gen.mgr with
    | .off => s
    | .startRequested | .run | .absorb => s.sendStop
    | .stopRequested => s.stepStopRequested

/-- ZONE_BREACH for the state the manager is in (R117). -/
def State.settleZoneBreach (s : State) : State :=
  if s.env.vehicle.zone then
    if s.gen.mgr = .startRequested ∨ s.gen.mgr = .run then s.raiseZoneBreach else s
  else s.clear .zoneBreach

/-- P_motor of the command and the motor speed (R107, R123). -/
def motorPower (tMc n : Int) : Int := (tMc * (n.natAbs : Int)).tdiv 955

/-- D_avg updated, in ACTIVE only (R107). -/
def State.filterDemand (s : State) : State :=
  if s.rc.runState = .active then
    let pEl := motorPower s.split.tMc s.env.traction.n + s.env.vehicle.pAux
    s.setGen { s.gen with dAvg := s.gen.dAvg + (pEl - s.gen.dAvg).tdiv 64 }
  else s

/-- The setpoint of RUN with the genset READY: D_avg with the SOC correction, clamped (R118). -/
def State.runSetpoint (s : State) : Int :=
  let c := (((s.rc.applied.socTarget : Int) - s.env.storage.soc) * s.rc.applied.kSoc).tdiv 100
  let lo : Int := s.rc.applied.pGsMinRun
  let hi := s.env.genset.pGsAvail
  if hi < lo then hi else clampInt (s.gen.dAvg + c) lo hi

/-- S of a step (R118). -/
def State.stepSetpoint (s : State) : Int :=
  if s.hardActive ∨ s.rc.runState ≠ .active then 0
  else match s.gen.mgr with
    | .run => if s.env.genset.state = .ready then s.runSetpoint else 0
    | .absorb => if 0 < s.split.grant then -s.takenPAbsMax else 0
    | .off | .startRequested | .stopRequested => 0

/-- The manager's step at the end of an evaluation (R105, R106). -/
def State.gensetStep (s : State) : State :=
  let t := s.filterDemand.testMinOff.managerTransition.settleZoneBreach
  t.setGen { t.gen with setpoint := t.stepSetpoint }

/-- The zone rule at a VEHICLE commit, whatever the run state (R116), then ZONE_BREACH (R117). -/
def State.zoneAtCommit (s : State) : State :=
  let t :=
    if s.env.vehicle.zone then
      match s.gen.mgr with
      | .off | .stopRequested => s
      | .startRequested | .run => if s.zoneStops then s.sendStop else s
      | .absorb => if s.zoneStops then s.sendStop else
          let u := s.leaveAbsorb
          u.setGen { u.gen with setpoint := 0 }
    else s
  t.settleZoneBreach

end Sys2Proof.Machine
end

