-- ==== Sys2Proof/Machine/SplitEngine.lean ====
section
/-! DEFINITION. The evaluation of the split engine (R59 to R103) and what it adds to the energy counters (R122 to R126). -/

namespace Sys2Proof.Machine

/-! ### Stages of the evaluation (R62) -/

/-- Stage 1: the applied and the pending direction (R75). -/
def State.directionStage (s : State) : Direction × Option Direction :=
  let req := s.env.vehicle.direction
  if req = s.split.dir then (s.split.dir, none)
  else if s.split.tMc = 0 ∧ s.env.brake.v < 5 then (req, none)
  else (s.split.dir, some req)

/-- The ageing factor A of the evaluation (R63). -/
def State.ageingFactor (s : State) : Nat := s.rc.applied.ageing.at s.batteryLevel

/-- An aged limit (R63). -/
def agedLimit (reported : Int) (a : Nat) : Int := (reported * a).tdiv 1024

/-- The discharge taper (R64). -/
def dischargeTaper (aged soc lo hi : Int) : Int :=
  if soc ≤ lo then 0 else if soc < hi then (aged * (soc - lo)).tdiv (hi - lo) else aged

/-- The charge taper (R65). -/
def chargeTaper (aged soc lo hi : Int) : Int :=
  if hi ≤ soc then 0 else if lo < soc then (aged * (hi - soc)).tdiv (hi - lo) else aged

/-- Stage 2: P_dis_eff (R63, R64). -/
def State.evalPDis (s : State) : Int :=
  dischargeTaper (agedLimit s.takenPDis s.ageingFactor) s.env.storage.soc s.rc.applied.socMin s.rc.applied.socLowTaper

/-- Stage 2: P_chg_eff (R63, R65). -/
def State.evalPChg (s : State) : Int :=
  chargeTaper (agedLimit s.takenPChg s.ageingFactor) s.env.storage.soc s.rc.applied.socHiTaper s.rc.applied.socMax

/-- Stage 3: the split mode (R66). -/
def State.evalMode (s : State) : SplitMode :=
  if s.stale .brake = false ∧ 0 < s.takenTRr then .braking
  else if 0 < s.env.vehicle.tDrv then .drive
  else .coast

/-- Stage 4: H_drive (R67). -/
def State.evalHDrive (s : State) : Int := max 0 (s.evalPDis + s.takenPGsDrive - s.env.vehicle.pAux)

/-- Stage 4: H_regen (R83). -/
def State.evalHRegen (s : State) : Int := max 0 (s.evalPChg + s.env.vehicle.pAux - s.takenPGsRegen)

/-- n_eff (R68). -/
def State.evalSpeed (s : State) : Int := max (s.env.traction.n.natAbs : Int) s.rc.applied.nFloor

/-- Stage 5: torque from power (R68). -/
def torqueFromPower (headroom speed : Int) : Int := min 3000 ((headroom * 955).tdiv speed)

def State.evalTPlDrive (s : State) : Int := torqueFromPower s.evalHDrive s.evalSpeed

def State.evalTPlRegen (s : State) : Int := torqueFromPower s.evalHRegen s.evalSpeed

/-- Stage 6: the fade limit (R85). -/
def fadeLimit (v lo hi : Int) : Int :=
  if hi ≤ v then 3000 else if v ≤ lo then 0 else (3000 * (v - lo)).tdiv (hi - lo)

def State.evalFade (s : State) : Int := fadeLimit s.env.brake.v s.rc.applied.vFadeLo s.rc.applied.vFadeHi

/-- The direction cap (R69). -/
def State.directionCap (s : State) (d : Direction) : Int :=
  match d with
  | .forward => 3000
  | .reverse => s.rc.applied.tRevCap
  | .neutral => 0

/-- Stage 7: L_drive in the applied direction `d` (R69). -/
def State.evalLDrive (s : State) (d : Direction) : Int :=
  if s.evalMode ≠ .drive ∨ s.hardActive ∨ s.rc.runState ≠ .active then 0
  else min (min s.env.traction.tMotMax s.evalTPlDrive) (s.directionCap d)

/-- The least member of the regen limit's minimum (R86). -/
def State.regenMinimum (s : State) : Int := min (min s.env.traction.tGenMax s.evalTPlRegen) s.evalFade

/-- Stage 7: the regen limit source (R87). -/
def State.evalSource (s : State) (d : Direction) : RegenSource :=
  if s.rc.runState ≠ .active then .notActive
  else if s.hardActive then .hardCause
  else if s.evalMode ≠ .braking ∨ s.causeActive .linkBrake then .notBraking
  else if d ≠ .forward then .notForward
  else if s.causeActive .slip then .slip
  else if s.regenMinimum = s.evalFade then .fade
  else if s.regenMinimum = s.evalTPlRegen then .power
  else .generator

/-- Stage 7: L_regen (R86). -/
def State.evalLRegen (s : State) (d : Direction) : Int :=
  if s.rc.runState ≠ .active ∨ s.hardActive ∨ s.evalMode ≠ .braking ∨ d ≠ .forward ∨ s.causeActive .slip
      ∨ s.causeActive .linkBrake then 0
  else s.regenMinimum

/-- Stage 8: the requested value (R70). -/
def State.evalQ (s : State) : Int :=
  match s.evalMode with
  | .drive => if s.driveSoftActive then 0 else s.env.vehicle.tDrv
  | .braking => -s.takenTRr
  | .coast => 0

/-- Stage 9: the ramp (R71). -/
def ramp (a : Settings) (prev q : Int) : Int :=
  if prev < q then
    if 0 ≤ prev then prev + min (q - prev) a.upDrive else prev + min (min q 0 - prev) a.downRegen
  else if q < prev then
    if 0 < prev then prev - min (prev - max q 0) a.downDrive else prev - min (prev - q) a.upRegen
  else prev

/-- Stage 10: the clamp (R73). -/
def clampTorque (ramped lDrive lRegen : Int) : Int := max (min ramped lDrive) (-lRegen)

/-- The grant (R74, R92). -/
def grantOf (tMc : Int) : Int := if tMc < 0 then -tMc else 0

/-- Stages 1 to 11: the split engine after an evaluation (R62, R74). -/
def State.evaluated (s : State) : Split :=
  let d := s.directionStage
  let lDrive := s.evalLDrive d.1
  let lRegen := s.evalLRegen d.1
  let tMc := clampTorque (ramp s.rc.applied s.split.tMc s.evalQ) lDrive lRegen
  { tMc := tMc
    mode := s.evalMode
    dir := d.1
    pendingDir := d.2
    pDisEff := s.evalPDis
    pChgEff := s.evalPChg
    hDrive := s.evalHDrive
    hRegen := s.evalHRegen
    lDrive := lDrive
    lRegen := lRegen
    q := s.evalQ
    grant := grantOf tMc
    friction := s.takenTRr - grantOf tMc
    source := s.evalSource d.1
    valid := !s.causeActive .linkTraction
    evalCount := s.split.evalCount + 1#16
    evalDue := some (s.now + Config.evaluationPeriod) }

/-! ### Energy (R123 to R125) -/

/-- An addition to a flow: past either end it stops there with its flag set, and a flow with its flag set takes
no more (R125). -/
def Flow.add (f : Flow) (x : Int) : Flow :=
  if f.saturated then f
  else if Config.maxFlow < f.joules + x then ⟨Config.maxFlow, true⟩
  else if f.joules + x < -Config.maxFlow then ⟨-Config.maxFlow, true⟩
  else ⟨f.joules + x, false⟩

/-- The four additions of an evaluation (R123). -/
def Counters.addEvaluation (c : Counters) (motor aux gs : Int) : Counters :=
  { c with motor := c.motor.add motor, aux := c.aux.add aux, gs := c.gs.add gs, bat := c.bat.add (motor + aux - gs) }

/-- The energy of an evaluation added at every port (R123). -/
def State.countEnergy (s : State) : State :=
  let motor := motorPower s.split.tMc s.env.traction.n
  s.mapPorts fun x =>
    { x with counters := x.counters.addEvaluation motor s.env.vehicle.pAux s.takenPGsDrive }

/-- The friction energy of a BRAKE commit added at every port (R124). -/
def State.countFriction (s : State) (dt : Nat) : State :=
  let b := s.env.brake
  let e := ((b.pfFront + b.pfMid + b.pfRear) * dt).tdiv 10
  s.mapPorts fun x => { x with counters := { x.counters with fric := x.counters.fric.add e } }

/-- One evaluation (R62): the split engine's results, the genset manager's step, the energy counters. -/
def State.evaluate (s : State) : State := ((s.setSplit s.evaluated).gensetStep).countEnergy

end Sys2Proof.Machine
end

