-- ==== Sys2Proof/Machine/RunStates.lean ====
section
/-! DEFINITION. Run control: the staging claim, the entries to the run states and what they bring (R5 to R19). -/

namespace Sys2Proof.Machine

/-! ### The staging claim (R17 to R19) -/

/-- A first word of a two-word setting held in an assembly buffer is discarded (R17). -/
def PortState.dropSettingWord (x : PortState) : PortState :=
  match x.assembly with
  | some ⟨.setting _, _⟩ => { x with assembly := none }
  | some ⟨.report _, _⟩ => x
  | some ⟨.dumpRange, _⟩ => x
  | none => x

/-- The claim released, with a first word the claimant still holds (R17). -/
def State.releaseClaim (s : State) : State :=
  match s.rc.claim with
  | none => s
  | some p => (s.setRc { s.rc with claim := none }).modPort p PortState.dropSettingWord

/-- What DISCARD does: the applied settings back into the staged copy, and the claim released (R19). -/
def State.discardStaged (s : State) : State := (s.setRc { s.rc with staged := s.rc.applied }).releaseClaim

/-- As DISCARD for an unbound claimant (R8, R11, R19). -/
def State.discardUnbound (s : State) : State :=
  match s.rc.claim with
  | none => s
  | some p => if s.roleOf p = none then s.discardStaged else s

/-- As DISCARD when the role bound to the claimant's port has become stale (R19). -/
def State.discardStale (s : State) (r : Role) : State :=
  match s.rc.claim with
  | none => s
  | some p => if s.roleOf p = some r then s.discardStaged else s

/-! ### Entries to run states -/

/-- The run state changed: RUN_STATE_CHANGE to every port, the recorder settled (R5, R162). -/
def State.changeRunState (s : State) (x : RunState) : State :=
  ((s.setRc { s.rc with runState := x }).noticeAll .runStateChange).settleRecorder

/-- The split engine at entry to HALTED or SELF_CHECK (R61, R87). -/
def Split.stopped (x : Split) (takenTRr : Int) : Split :=
  { x with
    tMc := 0, mode := .coast, pDisEff := 0, pChgEff := 0, hDrive := 0, hRegen := 0, lDrive := 0, lRegen := 0
    q := 0, grant := 0, friction := takenTRr, source := .notActive, valid := false, evalDue := none }

def State.stopSplit (s : State) : State := s.setSplit (s.split.stopped s.takenTRr)

/-- Every link deadline stopped, flags and causes as they stand (R11). -/
def State.stopDeadlines (s : State) : State :=
  s.setEnv { s.env with book := s.env.book.map fun b => { b with deadline := none } }

/-- Every link deadline at its initial value (R8, R31). -/
def State.startDeadlines (s : State) : State :=
  s.setEnv { s.env with
    book := s.env.book.mapWith (fun b d => { b with deadline := some (s.now + 4 * d) }) s.rc.applied.deadline }

/-- What leaving ACTIVE does at that moment (R10). -/
def State.leaveActive (s : State) : State :=
  let t := s.zeroCommand .notActive
  t.setStore { t.store with timer := none }

/-- Entry to HALTED from STANDBY or ACTIVE, or at the end of a self-check (R11). -/
def State.enterHalted (s : State) : State :=
  let t := if s.rc.runState = .active then s.leaveActive else s
  (((t.stopDeadlines.stopSplit.sendOff).changeRunState .halted).requestCheckpoint).discardUnbound

/-- Entry to STANDBY from HALTED (R8). -/
def State.enterStandby (s : State) : State :=
  let t := (s.startDeadlines).changeRunState .standby
  ((t.setSplit { t.split with evalDue := some (t.now + Config.evaluationPeriod) }).clear .gensetStartFail).discardUnbound

/-- Entry to STANDBY from ACTIVE (R10; entry 13 for GENSET_START_FAIL). -/
def State.dropToStandby (s : State) : State := ((s.leaveActive).changeRunState .standby).clear .gensetStartFail

/-- Entry to ACTIVE (R9, R115). -/
def State.enterActive (s : State) : State :=
  let t := (s.sendOff).changeRunState .active
  let t := t.setGen { t.gen with dAvg := 0, failCount := 0, inhibit := false }
  let t := t.setSplit { t.split with tMc := 0 }
  t.setStore { t.store with timer := some (t.now + t.rc.applied.tCheckpoint * 1000) }

/-- The start of a self-check (R13). -/
def State.startSelfCheck (s : State) (requested : Bool) : State :=
  let t := s.stopDeadlines.stopSplit.changeRunState .selfCheck
  t.setRc { t.rc with
    checkDone := false, checkFail := false, checkStep := 0#2
    checkEnd := some (t.now + Config.selfCheckTime), checkRequested := requested }

/-- The index of the first step that fails (R13). -/
def firstFailure (f : StepFailures) : Option (BitVec 2) :=
  if f.step0 then some 0#2
  else if f.step1 then some 1#2
  else if f.step2 then some 2#2
  else if f.step3 then some 3#2
  else none

/-- The slip hold timer at the end of a self-check (R53). -/
def SlipTimer.afterSelfCheck : SlipTimer → SlipTimer
  | .idle => .idle
  | .running _ => .expired
  | .expired => .expired

/-- The end of a self-check (R14): result record, SELF_CHECK_FAIL, latch sets after a reset, then entry to HALTED
(entry 12, so that a failure leaves regen limit source 0); the hold line sampler counts afresh from here (R55). -/
def State.endSelfCheck (s : State) (f : StepFailures) : State :=
  let failed := firstFailure f
  let t := s.setRc { s.rc with
    checkDone := true, checkFail := failed.isSome, checkStep := failed.getD 0#2, checkEnd := none }
  let t := t.setCut { t.cut with
    slipTimer := t.cut.slipTimer.afterSelfCheck, holdFrom := t.now, holdLevel := none }
  let t := t.setCause .selfCheckFail failed.isSome
  let t := if t.rc.checkRequested then t else t.mapPorts fun x => { x with latch := t.cut.live }
  t.enterHalted

/-! ### Settings (R18) -/

/-- Three thresholds strictly ascend (R18). -/
def Thresholds.ascend (t : Thresholds) : Bool := decide (t.t1 < t.t2 ∧ t.t2 < t.t3)

/-- The consistency conditions of APPLY, in index order (R18). -/
def Settings.conditions (s : Settings) : List Bool :=
  [decide (s.socMin < s.socLowTaper), decide (s.socMin < s.socReserve), decide (s.socReserve < s.socStart),
   decide (s.socStart < s.socTarget), decide (s.socTarget < s.socStop), decide (s.socStop < s.socHiTaper),
   decide (s.socHiTaper < s.socMax), decide (s.socReserve + 500 ≤ s.socStart), decide (s.vFadeLo < s.vFadeHi),
   s.thresholds.liningFront.ascend, s.thresholds.liningMid.ascend, s.thresholds.liningRear.ascend,
   s.thresholds.battery.ascend, s.thresholds.gensetStarts.ascend,
   decide (s.ageing.a1 ≤ s.ageing.a0 ∧ s.ageing.a2 ≤ s.ageing.a1 ∧ s.ageing.a3 ≤ s.ageing.a2),
   s.pre.toList.all fun w => decide (w ≤ 4000), s.post.toList.all fun w => decide (w ≤ 4000)]

/-- The index of the first condition that fails (R18). -/
def Settings.firstFailing (s : Settings) : Option Nat := s.conditions.findIdx? (fun b => !b)

/-- All conditions hold (R18). -/
def Settings.consistent (s : Settings) : Bool := s.conditions.all id

end Sys2Proof.Machine
end

