-- ==== Sys2Proof/Machine/Intake.lean ====
section
/-! DEFINITION. Report intake: Δt, the commit of a report and its handing on, the expiry of a link deadline (R28 to R40). -/

namespace Sys2Proof.Machine

/-- Δt of a commit of role `r` now (R40). -/
def State.deltaT (s : State) (r : Role) : Nat :=
  let b := s.env.book.get r
  match b.commitAt with
  | none => 0
  | some t => if b.stale then 0 else min (max (s.now - t) 1) (s.rc.applied.deadline.get r)

/-- The deadline timer after a commit (R28, R32). -/
def State.deadlineAfterCommit (s : State) (r : Role) : Option Nat :=
  match s.rc.runState with
  | .standby | .active => some (s.now + s.rc.applied.deadline.get r)
  | .selfCheck | .halted => none

/-- The envelope entry written by a commit (R28). -/
def State.writeEntry (s : State) (r : Role) (values : List Int) (clamped : BitVec 6) : State :=
  let e := s.env.withReport r values
  let b : RoleBook :=
    { received := true, stale := false, clamped := clamped != 0#6, clampedSet := clamped
      commitAt := some s.now, deadline := s.deadlineAfterCommit r }
  s.setEnv { e with book := e.book.set r b }

/-- A VEHICLE commit handed on (R29). -/
def State.vehicleCommitted (s : State) : State :=
  let t := s.readDoor
  let t := if 0 < t.env.vehicle.tDrv then t.returnLevel else t
  t.zoneAtCommit

/-- Whether a BRAKE commit crosses T_harsh (R166). -/
def State.harshBrake (s : State) (before : Int) : Bool :=
  decide (before < s.rc.applied.tHarsh ∧ (s.rc.applied.tHarsh : Int) ≤ s.env.brake.tRr)

/-- A BRAKE commit handed on (R29; entry 16 for the order). -/
def State.brakeCommitted (s : State) (before : BrakeReport) (dt : Nat) : State :=
  let t := ((s.readSlip).brakeWear dt).countFriction dt
  let t := if t.harshBrake before.tRr then t.trigger .harshBrake else t
  if 0 < t.env.brake.v ∨ 0 < t.env.brake.tRr then t.returnLevel else t

/-- A commit handed to the blocks that use the role's reports (R29); `before` is the envelope before it. -/
def State.handOn (s : State) (r : Role) (before : Envelope) (dt : Nat) : State :=
  match r with
  | .vehicle => s.vehicleCommitted
  | .genset => s.countStart before.genset.state
  | .storage => s.batteryWear dt
  | .traction => s
  | .brake => s.brakeCommitted before.brake dt

/-- A commit (R28): the entry is written, a LINK_ cause of a stale role is cleared, the commit is handed on, and
the wear status codes follow (R142). -/
def State.commit (s : State) (r : Role) (values : List Int) (clamped : BitVec 6) : State :=
  let dt := s.deltaT r
  let t := s.writeEntry r values clamped
  let t := if s.stale r then t.clear (linkCause r) else t
  (t.handOn r s.env dt).worsenCodes

/-- The deadline timer of a role stopped. -/
def State.stopDeadline (s : State) (r : Role) : State :=
  let b := { s.env.book.get r with deadline := none }
  s.setEnv { s.env with book := s.env.book.set r b }

/-- A role becomes stale (R33): LINK_<role>, the end of SLIP for BRAKE (R53), a stale claimant's claim (R19), the
wear status codes (R141). -/
def State.becomeStale (s : State) (r : Role) : State :=
  let b := { s.env.book.get r with stale := true }
  let t := s.setEnv { s.env with book := s.env.book.set r b }
  let t := t.raise (linkCause r)
  let t := if r = .brake then t.slipGivenUp else t
  (t.discardStale r).worsenCodes

/-- The expiry of a running deadline (R33); of a role already stale it changes nothing more (entry 15). -/
def State.deadlineExpired (s : State) (r : Role) : State :=
  let t := s.stopDeadline r
  if s.stale r then t else t.becomeStale r

end Sys2Proof.Machine
end

