-- ==== Sys2Proof/Machine/Records.lean ====
section
/-! DEFINITION. The record space as it reads: every record's words (R193 to R199), captures with their side effects
(R188), the dump stream (R177). -/

namespace Sys2Proof.Machine

/-! ### Words of records that are read as they stand -/

/-- A port's entry of the binding record (R4, R196). -/
def State.bindingWord (s : State) (p : Port) : Word :=
  let straps := s.rc.straps
  fieldAt (straps.get p) 0 ||| fieldAt (((boundRole straps p).map Role.strap).getD 0#3) 3
    ||| flagAt (strapInvalid straps p) 6 ||| flagAt (strapDuplicate straps p) 7

/-- Word 009h: completeness, the hold line driver, the claim holder (R196). -/
def State.bindingSummary (s : State) : Word :=
  flagAt (bindingComplete s.rc.straps) 0 ||| flagAt s.drivesHold 1
    ||| fieldAt (BitVec.ofNat 3 ((s.rc.claim.map Port.number).getD 7)) 4

/-- The self-check result record (R4, R196). -/
def State.resultWord (s : State) : Word :=
  flagAt s.rc.checkDone 15 ||| flagAt s.rc.checkFail 14 ||| fieldAt s.rc.checkStep 0

/-- Word 6 of a report region (R23, R196). -/
def State.entryFlags (s : State) (r : Role) : Word :=
  let b := s.env.book.get r
  flagAt b.received 15 ||| flagAt b.stale 14 ||| flagAt b.clamped 13 ||| fieldAt b.clampedSet 0

/-- Word 7 of a report region: the age in ms, 65535 at most and before the first commit (R23). -/
def State.entryAge (s : State) (r : Role) : Word :=
  match (s.env.book.get r).commitAt with
  | none => 0xFFFF#16
  | some t => wordOfNat (min 65535 (s.now - t))

/-- A word of a report region (R21, R23). -/
def State.reportWord (s : State) (r : Role) (k : Nat) : Option Word :=
  if k = 6 then some (s.entryFlags r)
  else if k = 7 then some (s.entryAge r)
  else (s.env.reportWords r)[k]?

/-- Fields of two bits packed from bit 0 upward. -/
def packPairs : List Nat → Nat → Word
  | [], _ => 0#16
  | x :: rest, k => fieldAt (BitVec.ofNat 2 x) k ||| packPairs rest (k + 2)

/-- Thermal levels packed, front lowest (R196). -/
def State.thermalWord (s : State) : Word := packPairs (s.wear.lining.toList.map fun x => x.level.code) 0

/-- Word 0D0h: the store status (R196). -/
def State.storeWord (s : State) : Word :=
  fieldAt s.store.phase.code 0 ||| flagAt s.store.fault 4 ||| flagAt s.store.pendingFlag 5
    ||| wordOfNat (s.store.active.number * 256)

/-- 0C0h to 0D3h: wear totals, thermal record and store status (R147, R150, R196; entry 18 for 0CFh). -/
def State.wearWords (s : State) : List Word :=
  (s.wear.items.toList.flatMap fun x => [highWord x.total, lowWord x.total]) ++
    [packPairs (s.wear.items.toList.map ItemState.level) 0] ++
    (s.wear.lining.toList.map fun x => wordOf x.theta) ++
    [s.thermalWord, 0#16, s.storeWord, wordOfNat s.store.pos, highWord s.store.lastVerified,
     lowWord s.store.lastVerified]

/-- The dump-range record of a port (R175, R196). -/
def DumpRange.words (d : DumpRange) : List Word := [highWord d.first, lowWord d.first, wordOfNat d.count]

/-- 000h to 00Fh: identification, binding and the self-check result (R199, R4). -/
def State.identWord (s : State) (a : Nat) : Option Word :=
  match a with
  | 0 => some 0x4D50#16
  | 1 => some 0x0208#16
  | 2 => some 0x0001#16
  | 3 => some 0x0001#16
  | 4 => some (s.bindingWord .p0)
  | 5 => some (s.bindingWord .p1)
  | 6 => some (s.bindingWord .p2)
  | 7 => some (s.bindingWord .p3)
  | 8 => some (s.bindingWord .p4)
  | 9 => some s.bindingSummary
  | 10 => some s.resultWord
  | _ => none

/-- A word read as it stands; none where the address holds no such record (R187, R195). -/
def State.plainWord (s : State) (p : Port) (a : Nat) : Option Word :=
  if a < 0x10 then s.identWord a
  else if a < 0x40 then (reportWordAt a).bind fun x => s.reportWord x.1 x.2
  else if dumpRangeBase ≤ a ∧ a < dumpRangeBase + 3 then (s.ports.get p).dumpRange.words[a - dumpRangeBase]?
  else if 0xC0 ≤ a ∧ a < 0xD4 then s.wearWords[a - 0xC0]?
  else if 0x200 ≤ a ∧ a < 0x300 then (settingAt (a - 0x200)).map s.rc.staged.word
  else if 0x300 ≤ a then (settingAt (a - 0x300)).map s.rc.applied.word
  else none

/-! ### Words of capture-class records -/

/-- The status record (R80, R196). -/
def State.statusWords (s : State) : List Word :=
  let x := s.split
  let stale := (allRoles.map fun r => flagAt (s.stale r) r.index).foldl (· ||| ·) 0#16
  [fieldAt s.rc.runState.code 14 ||| fieldAt x.mode.code 12 ||| fieldAt x.dir.code 10
     ||| fieldAt (pendingCode x.pendingDir) 8,
   wordOf x.tMc, wordOf x.q, wordOf x.lDrive, wordOf x.lRegen, wordOf x.hDrive, wordOf x.hRegen,
   wordOf x.pDisEff, wordOf x.pChgEff, s.cut.live.setWidth 16, stale, x.evalCount]

/-- The motor-sense torque (R79). -/
def Split.motorSense (x : Split) : Int :=
  match x.dir with
  | .reverse => -x.tMc
  | .neutral | .forward => x.tMc

/-- The traction command record (R79, R196). -/
def State.tractionWords (s : State) : List Word :=
  [wordOf s.split.motorSense, fieldAt s.split.dir.code 0, flagAt s.split.valid 0]

/-- The storage command record (R81, R196). -/
def State.storageWords (s : State) : List Word :=
  [wordOf s.split.pDisEff, wordOf s.split.pChgEff, wordOfNat s.batteryLevel]

/-- The brake command record (R94, R196). -/
def State.brakeWords (s : State) : List Word :=
  [wordOf s.split.grant, wordOf s.split.friction,
   fieldAt s.split.source.code 13 ||| fieldAt (BitVec.ofInt 12 s.split.lRegen) 0,
   flagAt (s.causeActive .slip) 15 ||| fieldAt s.cut.slipTimer.code 0, s.thermalWord, s.split.evalCount]

/-- The genset command record (R121, R196). -/
def State.gensetWords (s : State) : List Word :=
  [flagAt s.gen.mgr.runRequest 15 ||| fieldAt s.gen.mgr.code 0, wordOf s.gen.setpoint, wordOf s.gen.dAvg,
   flagAt s.gen.inhibit 15 ||| fieldAt (BitVec.ofNat 4 s.gen.failCount) 0, s.split.evalCount]

/-- The five flows in the order of the flow index (R193). -/
def Counters.toList (c : Counters) : List Flow := [c.motor, c.aux, c.gs, c.bat, c.fric]

/-- The counter record (R127, R196). -/
def Counters.words (c : Counters) : List Word :=
  (c.toList.flatMap fun f => signedWords f.joules) ++
    [flagAt c.motor.saturated 0 ||| flagAt c.aux.saturated 1 ||| flagAt c.gs.saturated 2
      ||| flagAt c.bat.saturated 3 ||| flagAt c.fric.saturated 4]

/-- Five codes of three bits, item i at bits 3i + 2 to 3i (R196). -/
def codesWord (x : PerItem WearCode) : Word :=
  let c := fun y : WearCode => BitVec.ofNat 3 y.code
  fieldAt (c x.liningFront) 0 ||| fieldAt (c x.liningMid) 3 ||| fieldAt (c x.liningRear) 6
    ||| fieldAt (c x.battery) 9 ||| fieldAt (c x.gensetStarts) 12

/-- The source bits of a dump context: bit 11 for a range, bits 1 to 0 the descriptor id (R196). -/
def DumpSource.bits : DumpSource → Word
  | .descriptor id => fieldAt id 0
  | .range idBits => flagAt true 11 ||| fieldAt idBits 0

/-- The dump context record (R178, R196). Two words hold a sample number up to 4294967295; a next or last sample beyond it
is shown modulo 2^32, the MODEL'S CHOICE (entry 40). -/
def DumpContext.words (d : DumpContext) : List Word :=
  [fieldAt d.status.code 14 ||| fieldAt (reasonCode d.reason) 12 ||| d.source.bits,
   highWord d.next, lowWord d.next, highWord d.last, lowWord d.last, wordOfNat d.queue.length]

/-- The three words of a descriptor as distances (R197). -/
def Descriptor.words (newest : Nat) (d : Descriptor) : List Word :=
  [wordOfNat (d.cause.code * 8192) ||| wordOfNat (min 8191 (newest - d.trigger)),
   wordOfNat ((d.trigger - d.first) * 16) ||| wordOfNat (d.retriggers / 16 % 16),
   wordOfNat ((d.last - d.trigger) * 16) ||| wordOfNat (d.retriggers % 16)]

/-- The snapshot table record (R173, R197). -/
def State.snapshotWords (s : State) : List Word :=
  let r := s.rcd
  [highWord r.newest, lowWord r.newest,
   fieldAt r.state.code 14 ||| fieldAt r.level.code 12 ||| flagAt r.empty 11,
   packPairs (r.table.toList.map fun d => d.state.code.toNat) 0] ++ r.table.toList.flatMap (Descriptor.words r.newest)

/-- The words of a capture-class record at a port as they stand (R188). -/
def State.recordWords (s : State) (p : Port) (r : RecordId) : List Word :=
  let x := s.ports.get p
  match r with
  | .status => s.statusWords
  | .traction => s.tractionWords
  | .storage => s.storageWords
  | .brake => s.brakeWords
  | .genset => s.gensetWords
  | .counters => x.counters.words
  | .latch => [x.latch.setWidth 16, s.cut.live.setWidth 16]
  | .notice => [x.notices.setWidth 16, x.missed.setWidth 16]
  | .wearStatus => [codesWord x.codes, codesWord s.wearStatuses]
  | .dumpContext => x.dump.words
  | .snapshots => s.snapshotWords

/-- The side effect of a capture on the port's own state (R58, R127, R143, R188, R191). -/
def State.captureEffect (s : State) (r : RecordId) (x : PortState) : PortState :=
  match r with
  | .counters => { x with counters := .zero }
  | .latch => { x with latch := s.cut.live }
  | .notice => { x with notices := 0#13, missed := 0#7 }
  | .wearStatus => { x with codes := s.wearStatuses }
  | .status | .traction | .storage | .brake | .genset | .dumpContext | .snapshots => x

/-- A capture: the whole record into the holding buffer, with its side effect, in one event (R188). -/
def State.captureRecord (s : State) (p : Port) (r : RecordId) : State :=
  s.modPort p fun x => { s.captureEffect r x with holding := some ⟨r, s.recordWords p r⟩ }

/-- The word at an offset of the holding buffer. -/
def PortState.heldWord (x : PortState) (k : Nat) : Word :=
  match x.holding with
  | some h => h.words.getD k 0#16
  | none => 0#16

/-- Whether the holding buffer holds a record. -/
def PortState.holds (x : PortState) (r : RecordId) : Bool :=
  match x.holding with
  | some h => h.record == r
  | none => false

/-- A READ of a capture-class word (R188). -/
def State.readRecord (s : State) (p : Port) (r : RecordId) (k : Nat) : State × Reply :=
  let t := if k ≠ 0 ∧ (s.ports.get p).holds r then s else s.captureRecord p r
  (t, .ok ((t.ports.get p).heldWord k))

/-- A READ of the dump stream (R177); a word taken may free room for a fetch (R176). -/
def State.readStream (s : State) (p : Port) : State × Reply :=
  let d := (s.ports.get p).dump
  match d.queue with
  | w :: rest => (s.modPort p fun x => { x with dump := { d with queue := rest }.fetch s.rcd }, .ok w)
  | [] =>
    match d.status with
    | .streaming => (s, .hold)
    | .ended => (s, ⟨.end_, (reasonCode d.reason).setWidth 16⟩)
    | .idle => (s, ⟨.end_, 0#16⟩)

/-- A READ at an address (R187). -/
def State.readAt (s : State) (p : Port) (a : Nat) : State × Reply :=
  match recordAt a with
  | some r => s.readRecord p r (a - r.base)
  | none =>
    if a = streamAddress then s.readStream p
    else match s.plainWord p a with
      | some w => (s, .ok w)
      | none => (s, .access)

/-- A READ frame: at the read cursor, which advances with an OK when the advance bit is set (R184, R185). -/
def State.readFrame (s : State) (p : Port) (advance : Bool) : State × Reply :=
  let x := s.readAt p (s.ports.get p).cursors.readAddress.toNat
  if advance ∧ x.2.result = .ok then (x.1.modPort p fun y => { y with cursors := y.cursors.advancedRead }, x.2) else x

end Sys2Proof.Machine
end

