-- ==== Sys2Proof/Machine/Writes.lean ====
section
/-! DEFINITION. WRITE frames: reports, staged settings and the dump-range record through the assembly buffer (R17, R24 to
R28, R175, R187). -/

namespace Sys2Proof.Machine

/-- The words an assembly of this kind holds at a port; none when the buffer holds no such assembly. -/
def PortState.assembled (x : PortState) (k : AssemblyKind) : Option (List Word) :=
  match x.assembly with
  | some a => if a.kind = k then some a.words else none
  | none => none

/-- The words received so far, when the buffer expects the word at offset `k` (R25). At offset 0 an assembly always
starts anew. -/
def PortState.expects (x : PortState) (kind : AssemblyKind) (k : Nat) : Option (List Word) :=
  if k = 0 then some []
  else match x.assembled kind with
    | some ws => if ws.length = k then some ws else none
    | none => none

/-- The offset the buffer expects of this record, 0 when it holds no assembly of it (R25). -/
def PortState.expectedOffset (x : PortState) (kind : AssemblyKind) : Nat :=
  match x.assembled kind with
  | some ws => ws.length
  | none => 0

/-- A word added to an assembly that goes on; the answer echoes it (R25). -/
def State.hold (s : State) (p : Port) (kind : AssemblyKind) (words : List Word) (w : Word) : State × Reply :=
  (s.modPort p fun x => { x with assembly := some ⟨kind, words⟩ }, .ok w)

/-- A write refused: it counts as a write elsewhere and discards any assembly (R26, R187). -/
def State.refuseWrite (s : State) (p : Port) (r : Reply) : State × Reply := (s.discardAssembly p, r)

/-- The last word of a report: refused for an enumeration, or committed (R27, R28). -/
def State.completeReport (s : State) (p : Port) (r : Role) (words : List Word) : State × Reply :=
  let s := s.discardAssembly p
  match firstOutside r words with
  | some k => (s, .value k)
  | none =>
    let set := clampedSet r words
    (s.commit r (reportValues r words) set, .ok (set.setWidth 16))

/-- A word written into a report region (R24, R25). -/
def State.writeReportWord (s : State) (p : Port) (r : Role) (k : Nat) (w : Word) : State × Reply :=
  if s.roleOf p ≠ some r ∨ reportLength r ≤ k then s.refuseWrite p .access
  else
    let x := s.ports.get p
    match x.expects (.report r) k with
    | none => s.refuseWrite p (.state (x.expectedOffset (.report r)))
    | some ws =>
      if k + 1 = reportLength r then s.completeReport p r (ws ++ [w])
      else s.hold p (.report r) (ws ++ [w]) w

/-- The port takes the staging claim, or goes on holding it (R17). -/
def State.takeClaim (s : State) (p : Port) : State := s.setRc { s.rc with claim := some p }

/-- Whether another port holds the staging claim. -/
def State.claimedByOther (s : State) (p : Port) : Bool :=
  match s.rc.claim with
  | none => false
  | some o => decide (o ≠ p)

/-- A word of a setting written into the staged copy, no check of R17 standing against it but for the first word of
a pair. -/
def State.storeSettingWord (s : State) (p : Port) (x : SettingWord) (w : Word) : State × Reply :=
  match x with
  | .one k =>
    let v := k.clamped w.toNat
    let t := (s.discardAssembly p).takeClaim p
    (t.setRc { t.rc with staged := t.rc.staged.set k v }, .ok (wordOfNat v))
  | .high k => (s.takeClaim p).hold p (.setting k) [w] w
  | .low k =>
    match (s.ports.get p).assembled (.setting k) with
    | some [h] =>
      let v := k.clamped (twoWords h w)
      let t := (s.discardAssembly p).takeClaim p
      (t.setRc { t.rc with staged := t.rc.staged.setWide k v }, .ok (lowWord v))
    | some _ => s.refuseWrite p (.state 0)
    | none => s.refuseWrite p (.state 0)

/-- A word written into the staged region, checked in the order of R17. The payloads of CLAIMED and of an unbound port's
ACCESS are the MODEL'S CHOICE (entry 38). -/
def State.writeStaged (s : State) (p : Port) (offset : Nat) (w : Word) : State × Reply :=
  match settingAt offset with
  | none => s.refuseWrite p .access
  | some x =>
    if s.roleOf p = none ∧ s.rc.runState ≠ .halted then s.refuseWrite p .access
    else if s.claimedByOther p then s.refuseWrite p .claimed
    else s.storeSettingWord p x w

/-- A word written into the port's dump-range record (R175, R187). -/
def State.writeDumpRange (s : State) (p : Port) (k : Nat) (w : Word) : State × Reply :=
  let x := s.ports.get p
  match x.expects .dumpRange k with
  | none => s.refuseWrite p (.state (x.expectedOffset .dumpRange))
  | some ws =>
    if k = 2 then
      let count := clampNat w.toNat 1 8192
      let first := twoWords (ws.getD 0 0#16) (ws.getD 1 0#16)
      ((s.discardAssembly p).modPort p fun y => { y with dumpRange := ⟨first, count⟩ }, .ok (wordOfNat count))
    else s.hold p .dumpRange (ws ++ [w]) w

/-- A WRITE at an address (R187). -/
def State.writeAt (s : State) (p : Port) (a : Nat) (w : Word) : State × Reply :=
  match reportWordAt a with
  | some (r, k) => s.writeReportWord p r k w
  | none =>
    if 0x200 ≤ a ∧ a < 0x300 then s.writeStaged p (a - 0x200) w
    else if dumpRangeBase ≤ a ∧ a < dumpRangeBase + 3 then s.writeDumpRange p (a - dumpRangeBase) w
    else s.refuseWrite p .access

/-- A WRITE frame: at the write cursor, which advances with an OK when the advance bit is set (R184, R185). -/
def State.writeFrame (s : State) (p : Port) (advance : Bool) (w : Word) : State × Reply :=
  let x := s.writeAt p (s.ports.get p).cursors.writeAddress.toNat w
  if advance ∧ x.2.result = .ok then (x.1.modPort p fun y => { y with cursors := y.cursors.advancedWrite }, x.2) else x

end Sys2Proof.Machine
end

