-- ==== Sys2Proof/Machine/Frames.lean ====
section
/-! DEFINITION. The meanings of the frames that are no requests: broken exchanges, bad frames, POLL, CURSOR, WRITE and
READ (R180 to R188). -/

namespace Sys2Proof.Machine

/-- A CURSOR frame (R184): in SPLIT mode payload bit 0 chooses the cursor; a move of the write cursor discards any
assembly (R26). -/
def State.moveCursor (s : State) (p : Port) (a : Address) (payload : Word) : State × Reply :=
  let t := match (s.ports.get p).cursors with
    | .joined _ => s.modPort p fun x => { x with cursors := .joined a, assembly := none }
    | .split r w =>
      if payload.getLsbD 0 then s.modPort p fun x => { x with cursors := .split r a, assembly := none }
      else s.modPort p fun x => { x with cursors := .split a w }
  (t, .ok (a.setWidth 16))

/-- BROKEN_EXCHANGE (R180): BADFRAME with echoed command 0. -/
def execBrokenExchange (p : Port) (s : State) : Host.Outcome State Fault Refusal :=
  .next (s.exchange p 0#4 fun t => (t, ⟨.badframe, 0#16⟩))

/-- BADFRAME (R181). R181 names no payload for a frame it answers so: 0 is the MODEL'S CHOICE (entry 38). -/
def execBadframe (p : Port) (echoed : BitVec 4) (s : State) : Host.Outcome State Fault Refusal :=
  .next (s.exchange p echoed fun t => (t, ⟨.badframe, 0#16⟩))

/-- POLL (R183), in every run state. -/
def execPoll (p : Port) (s : State) : Host.Outcome State Fault Refusal :=
  .next (s.exchange p 0#4 fun t => (t, .ok 0#16))

/-- CURSOR (R184). -/
def execCursor (p : Port) (address : Address) (payload : Word) (s : State) : Host.Outcome State Fault Refusal :=
  .next (s.heldExchange p 1#4 fun t => t.moveCursor p address payload)

/-- WRITE (R187; entry 4). -/
def execWrite (p : Port) (advance : Bool) (word : Word) (s : State) : Host.Outcome State Fault Refusal :=
  .next (s.heldExchange p 3#4 fun t => t.writeFrame p advance word)

/-- REPORT_WORD_WRITE (R25; entry 4). -/
def execReportWordWrite (p : Port) (advance : Bool) (word : Word) (s : State) : Host.Outcome State Fault Refusal :=
  .next (s.heldExchange p 3#4 fun t => t.writeFrame p advance word)

/-- STAGED_SETTING_WRITE (R17; entry 4). -/
def execStagedSettingWrite (p : Port) (advance : Bool) (word : Word) (s : State) : Host.Outcome State Fault Refusal :=
  .next (s.heldExchange p 3#4 fun t => t.writeFrame p advance word)

/-- DUMP_RANGE_RECORD_WRITE (R175; entry 4). -/
def execDumpRangeRecordWrite (p : Port) (advance : Bool) (word : Word) (s : State) : Host.Outcome State Fault Refusal :=
  .next (s.heldExchange p 3#4 fun t => t.writeFrame p advance word)

/-- CAPTURE (R188; entry 3). -/
def execCapture (p : Port) (advance : Bool) (s : State) : Host.Outcome State Fault Refusal :=
  .next (s.heldExchange p 2#4 fun t => t.readFrame p advance)

/-- COUNTER_CAPTURE (R127; entry 3). -/
def execCounterCapture (p : Port) (advance : Bool) (s : State) : Host.Outcome State Fault Refusal :=
  .next (s.heldExchange p 2#4 fun t => t.readFrame p advance)

/-- LATCH_CAPTURE (R58; entry 3). -/
def execLatchCapture (p : Port) (advance : Bool) (s : State) : Host.Outcome State Fault Refusal :=
  .next (s.heldExchange p 2#4 fun t => t.readFrame p advance)

/-- NOTICE_CAPTURE (R191; entry 3). -/
def execNoticeCapture (p : Port) (advance : Bool) (s : State) : Host.Outcome State Fault Refusal :=
  .next (s.heldExchange p 2#4 fun t => t.readFrame p advance)

/-- WEAR_STATUS_CAPTURE (R143; entry 3). -/
def execWearStatusCapture (p : Port) (advance : Bool) (s : State) : Host.Outcome State Fault Refusal :=
  .next (s.heldExchange p 2#4 fun t => t.readFrame p advance)

/-- DUMP_STREAM_READ (R177; entry 3). -/
def execDumpStreamRead (p : Port) (advance : Bool) (s : State) : Host.Outcome State Fault Refusal :=
  .next (s.heldExchange p 2#4 fun t => t.readFrame p advance)

end Sys2Proof.Machine
end

