-- ==== Sys2Proof/Machine/Requests.lean ====
section
/-! DEFINITION. The fourteen requests (R189) and their meanings. -/

namespace Sys2Proof.Machine

/-- A request refused with a STATE payload of 30: it cannot be taken from this run state (R6). -/
def wrongState : Reply := .state 30

/-- The bus is moving as far as the part knows: BRAKE alive and v at least 10 (R10). -/
def State.moving (s : State) : Bool := !s.stale .brake && decide (10 ≤ s.env.brake.v)

/-- The refusal to leave ACTIVE while moving; its payload is v (R10). -/
def State.movingReply (s : State) : Reply := ⟨.state, wordOf s.env.brake.v⟩

/-- The strap code of the first role without a port, in the order of R8. -/
def State.firstUnbound (s : State) : Nat :=
  (([Role.genset, .storage, .traction, .brake].find? fun r => !roleHasPort s.rc.straps r).map
    fun r => r.strap.toNat).getD 0

/-- RUN_STANDBY (R6, R8, R10). -/
def State.requestStandby (s : State) (p : Port) : State × Reply :=
  if !s.isVehicle p then (s, .access)
  else match s.rc.runState with
    | .selfCheck => (s, .hold)
    | .halted => if bindingComplete s.rc.straps then (s.enterStandby, .ok 0#16) else (s, .state s.firstUnbound)
    | .standby => (s, .ok 0#16)
    | .active => if s.moving then (s, s.movingReply) else (s.dropToStandby, .ok 0#16)

/-- The first blocker of ACTIVE: causes 0 to 6 in headline order, then a direction other than NEUTRAL (R9). -/
def State.activeBlocker (s : State) : Option Nat :=
  match lowestCode s.cut.live 7 with
  | some c => some c
  | none => if s.split.dir = .neutral then none else some 31

/-- RUN_ACTIVE (R6, R9). -/
def State.requestActive (s : State) (p : Port) : State × Reply :=
  if !s.isVehicle p then (s, .access)
  else match s.rc.runState with
    | .selfCheck => (s, .hold)
    | .halted => (s, wrongState)
    | .standby =>
      match s.activeBlocker with
      | some c => (s, .state c)
      | none => (s.enterActive, .ok 0#16)
    | .active => (s, .ok 0#16)

/-- RUN_HALT (R6, R10, R11). -/
def State.requestHalt (s : State) (p : Port) : State × Reply :=
  if !s.isVehicle p then (s, .access)
  else match s.rc.runState with
    | .selfCheck => (s, .hold)
    | .halted => (s, .ok 0#16)
    | .standby => (s.enterHalted, .ok 0#16)
    | .active => if s.moving then (s, s.movingReply) else (s.enterHalted, .ok 0#16)

/-- A port when a requested self-check is taken (R15; entry 14). -/
def PortState.forSelfCheck (x : PortState) : PortState :=
  { x with dump := x.dump.cancelled, holding := none, assembly := none, counters := .zero }

/-- What a requested self-check does when it is taken (R15). -/
def State.takeSelfCheck (s : State) : State :=
  let t := s.setRc { s.rc with staged := .defaults, applied := .defaults, claim := none }
  ((t.recomputeLevels).mapPorts PortState.forSelfCheck).startSelfCheck true

/-- SELF_CHECK (R6, R15). -/
def State.requestSelfCheck (s : State) (p : Port) : State × Reply :=
  if !s.isVehicle p then (s, .access)
  else match s.rc.runState with
    | .selfCheck => (s, .hold)
    | .halted => (s.takeSelfCheck, .ok 0#16)
    | .standby | .active => (s, wrongState)

/-- The staged copy becomes the applied one (R18). -/
def State.applyStaged (s : State) : State :=
  (((s.setRc { s.rc with applied := s.rc.staged }).releaseClaim).noticeAll .settingsApplied).recomputeLevels

/-- The refusal of APPLY and DISCARD from a port that does not hold the claim; none for the claimant (R18, R19). -/
def State.claimRefusal (s : State) (p : Port) : Option Reply :=
  match s.rc.claim with
  | none => some wrongState
  | some o => if o = p then none else some .claimed

/-- APPLY (R18). No rule names the payload of its OK: 0 is the MODEL'S CHOICE (entry 38). -/
def State.requestApply (s : State) (p : Port) : State × Reply :=
  match s.claimRefusal p with
  | some r => (s, r)
  | none =>
    if s.rc.runState = .active then (s, wrongState)
    else match s.rc.staged.firstFailing with
      | some k => (s, .value k)
      | none => (s.applyStaged, .ok 0#16)

/-- DISCARD (R19). No rule names the payload of its OK: 0 is the MODEL'S CHOICE (entry 38). -/
def State.requestDiscard (s : State) (p : Port) : State × Reply :=
  match s.claimRefusal p with
  | some r => (s, r)
  | none => (s.discardStaged, .ok 0#16)

/-- SAVE_WEAR (R152, R153). -/
def State.requestSaveWear (s : State) (p : Port) : State × Reply :=
  if s.store.fault then (s, .state 12)
  else if s.store.phase = .idle then
    ((s.setStore { s.store with current := s.store.current.set p true }).startCheckpoint, .ok 0#16)
  else (s.setStore { s.store with pendingFlag := true, waiting := s.store.waiting.set p true }, .ok 1#16)

/-- WEAR_RESET (R145). An operand above 4 while WEAR_STORE_FAULT is active meets two of R145's refusals, which it does not
order: VALUE 0 before STATE 12 is the MODEL'S CHOICE (entry 41). -/
def State.requestWearReset (s : State) (p : Port) (operand : BitVec 5) : State × Reply :=
  if !s.isVehicle p then (s, .access)
  else match s.rc.runState with
    | .selfCheck => (s, .hold)
    | .standby | .active => (s, wrongState)
    | .halted =>
      match itemOfNumber operand.toNat with
      | none => (s, .value 0)
      | some i => if s.causeActive .wearStoreFault then (s, .state 12) else (s.resetItem i, .ok 0#16)

/-- The payload that tells what became of a TRIGGER (R172). -/
def TriggerOutcome.payload : TriggerOutcome → Word
  | .merged id => id.setWidth 16
  | .opened id => id.setWidth 16
  | .missed => 4#16
  | .tableFull => 5#16

/-- TRIGGER (R172). -/
def State.requestTrigger (s : State) : State × Reply :=
  let x := s.fireTrigger .manual
  (x.1, .ok x.2.payload)

/-- The descriptor a five-bit operand names, ids 0 to 3 (R172, R174). -/
def descriptorOf (operand : BitVec 5) : Option (BitVec 2) :=
  if 3 < operand.toNat then none else some (operand.setWidth 2)

/-- A descriptor freed, the recorder state settled (R172). -/
def State.releaseDescriptor (s : State) (id : BitVec 2) : State :=
  let d := { s.rcd.table.get id with state := .free }
  (s.setRcd { s.rcd with table := s.rcd.table.set id d }).settleRecorder

/-- RELEASE (R172). -/
def State.requestRelease (s : State) (operand : BitVec 5) : State × Reply :=
  match descriptorOf operand with
  | none => (s, .value 0)
  | some id => (s.releaseDescriptor id, .ok 0#16)

/-- A dump begun at a port in place of the current one, fetching at once (R174, R175). -/
def State.startDump (s : State) (p : Port) (source : DumpSource) (first last : Nat) : State :=
  let d : DumpContext := ⟨.streaming, none, source, first, last, []⟩
  s.modPort p fun x => { x with dump := d.fetch s.rcd }

/-- DUMP_SNAPSHOT (R174). -/
def State.requestDumpSnapshot (s : State) (p : Port) (operand : BitVec 5) : State × Reply :=
  match descriptorOf operand with
  | none => (s, .value 0)
  | some id =>
    let d := s.rcd.table.get id
    match d.state with
    | .free => (s, .state 0)
    | .overwritten => (s, .state 3)
    | .collecting | .complete => (s.startDump p (.descriptor id) d.first d.last, .ok 0#16)

/-- DUMP_RANGE (R175); the id bits of a range are a free value (entry 17). -/
def State.requestDumpRange (s : State) (p : Port) : State × Reply :=
  let r := (s.ports.get p).dumpRange
  if s.rcd.empty ∨ s.rcd.newest < r.first then (s, .value 1)
  else if r.first < s.rcd.oldest then (s, .value 2)
  else
    let t := s.startDump p (.range (Config.rangeIdBits s.freeCount)) r.first (min (r.first + r.count - 1) s.rcd.newest)
    (t.setFreeCount (t.freeCount + 1), .ok 0#16)

/-- DUMP_CANCEL (R178). -/
def State.requestDumpCancel (s : State) (p : Port) : State × Reply :=
  let d := (s.ports.get p).dump
  let live := match d.status with
    | .idle => false
    | .streaming => true
    | .ended => !d.queue.isEmpty
  (if live then s.modPort p fun x => { x with dump := d.cancelled } else s, .ok 0#16)

/-- The cursors in another mode (R186). -/
def Cursors.inMode (c : Cursors) (split : Bool) : Cursors :=
  match c with
  | .joined a => if split then .split a a else .joined a
  | .split r w => if split then .split r w else .joined w

/-- CURSOR_MODE (R186). -/
def State.requestCursorMode (s : State) (p : Port) (operand : BitVec 5) : State × Reply :=
  if 1 < operand.toNat then (s, .value 0)
  else (s.modPort p fun x => { x with cursors := x.cursors.inMode (operand == 1#5) }, .ok (operand.setWidth 16))

/-! ### Meanings -/

/-- A REQUEST frame (R189). -/
def State.request (s : State) (p : Port) (effect : State → State × Reply) : Host.Outcome State Fault Refusal :=
  .next (s.heldExchange p 4#4 effect)

/-- RUN_STANDBY (R8). -/
def execRunStandby (p : Port) (s : State) : Host.Outcome State Fault Refusal :=
  s.request p fun t => t.requestStandby p

/-- RUN_ACTIVE (R9). -/
def execRunActive (p : Port) (s : State) : Host.Outcome State Fault Refusal :=
  s.request p fun t => t.requestActive p

/-- RUN_HALT (R11). -/
def execRunHalt (p : Port) (s : State) : Host.Outcome State Fault Refusal :=
  s.request p fun t => t.requestHalt p

/-- SELF_CHECK (R15). -/
def execSelfCheck (p : Port) (s : State) : Host.Outcome State Fault Refusal :=
  s.request p fun t => t.requestSelfCheck p

/-- APPLY (R18). -/
def execApply (p : Port) (s : State) : Host.Outcome State Fault Refusal :=
  s.request p fun t => t.requestApply p

/-- DISCARD (R19). -/
def execDiscard (p : Port) (s : State) : Host.Outcome State Fault Refusal :=
  s.request p fun t => t.requestDiscard p

/-- SAVE_WEAR (R152). -/
def execSaveWear (p : Port) (s : State) : Host.Outcome State Fault Refusal :=
  s.request p fun t => t.requestSaveWear p

/-- WEAR_RESET (R145). -/
def execWearReset (p : Port) (operand : BitVec 5) (s : State) : Host.Outcome State Fault Refusal :=
  s.request p fun t => t.requestWearReset p operand

/-- TRIGGER (R172). -/
def execTrigger (p : Port) (s : State) : Host.Outcome State Fault Refusal :=
  s.request p State.requestTrigger

/-- RELEASE (R172). -/
def execRelease (p : Port) (operand : BitVec 5) (s : State) : Host.Outcome State Fault Refusal :=
  s.request p fun t => t.requestRelease operand

/-- DUMP_SNAPSHOT (R174). -/
def execDumpSnapshot (p : Port) (operand : BitVec 5) (s : State) : Host.Outcome State Fault Refusal :=
  s.request p fun t => t.requestDumpSnapshot p operand

/-- DUMP_RANGE (R175). -/
def execDumpRange (p : Port) (s : State) : Host.Outcome State Fault Refusal :=
  s.request p fun t => t.requestDumpRange p

/-- DUMP_CANCEL (R178). -/
def execDumpCancel (p : Port) (s : State) : Host.Outcome State Fault Refusal :=
  s.request p fun t => t.requestDumpCancel p

/-- CURSOR_MODE (R186). -/
def execCursorMode (p : Port) (operand : BitVec 5) (s : State) : Host.Outcome State Fault Refusal :=
  s.request p fun t => t.requestCursorMode p operand

end Sys2Proof.Machine
end

