-- ==== Sys2Proof/Machine/Resets.lean ====
section
/-! DEFINITION. Supply and reset input: power-on, loss of supply, assertion and release of the reset line, the end of a
self-check and the hold line sampler, with the meanings of their commands. -/

namespace Sys2Proof.Machine

/-- Every port formed anew at power-on or reset line release (R192, R57, R142): `extra` joins RUN_STATE_CHANGE in
every notice set. -/
def State.formPorts (s : State) (extra : NoticeSet) : State :=
  let codes := s.wearStatuses
  s.setPorts ((PerPort.mk () () () () ()).map fun _ =>
    { PortState.atPowerOn with
      notices := NoticeKind.runStateChange.bit ||| extra
      latch := s.cut.live
      codes := codes
      response := { PortState.atPowerOn.response with headline := headline s.cut.live } })

/-- Supply is lost: a write or erase in flight is cut off, and everything kept in RAM is gone (R159). The fields that
are lost hold their reset values until power-on (entry 9). -/
def State.loseSupply (s : State) (cut : WriteCut) : State :=
  let t := s.cutStoreOff cut
  { State.reset with
    powered := false
    freeCount := t.freeCount
    store := { Store.atPowerOn with journal := t.store.journal, cutErase := t.store.cutErase }
    pending := s.pending }

/-- No word of a write in flight was written. -/
def noWordWritten : WriteCut := ⟨0, []⟩

/-- The items with restored totals, nothing evaluated (R134, R158). -/
def restoredItems (totals : PerItem Nat) : PerItem ItemState :=
  leveled (totals.map fun t => ⟨t, 0, 0, false⟩) Settings.defaults.thresholds

/-- The machine after supply is applied (R5, R158, R192). -/
def State.powerUp (s : State) (straps : PerPort (BitVec 3)) : State :=
  let restored := s.store.restored
  let t := { State.reset with
    freeCount := s.freeCount
    rc := { State.reset.rc with straps := straps }
    wear := { State.reset.wear with items := restoredItems (restored.getD ⟨0, 0, 0, 0, 0⟩) }
    store := s.store.scanned
    pending := s.pending }
  t.formPorts (if restored.isNone then NoticeKind.storeEmpty.bit else 0#13)

/-- Power-on; of a part that has supply, a loss of supply first (entry 9). -/
def State.powerOn (s : State) (straps : PerPort (BitVec 3)) : State :=
  (if s.powered then s.loseSupply noWordWritten else s).powerUp straps

/-- A COLLECTING descriptor at reset line release becomes COMPLETE, cut short at the newest sample (R179). -/
def Descriptor.closed (newest : Nat) (d : Descriptor) : Descriptor :=
  if d.state = .collecting then { d with state := .complete, last := newest } else d

/-- The initial cause set after a reset line release (R42). -/
def initialCauses (lining : PerGroup Lining) : CauseSet :=
  Cause.doorInterlock.bit ||| (if isCritical lining then Cause.liningCritical.bit else 0#13)

/-- The items after a reset line release: totals and residuals as they were, levels against the defaults, nothing
evaluated (R134). -/
def releasedItems (items : PerItem ItemState) : PerItem ItemState :=
  (leveled items Settings.defaults.thresholds).map fun x => { x with evaluated := false }

/-- The machine after the release of the reset line (R7, R134, R159, R179, R192). -/
def State.releaseReset (s : State) (straps : PerPort (BitVec 3)) : State :=
  let table := s.rcd.table.map (Descriptor.closed s.rcd.newest)
  let t := { State.reset with
    now := s.now
    freeCount := s.freeCount
    rc := { State.reset.rc with straps := straps, checkEnd := some (s.now + Config.selfCheckTime) }
    cut := { State.reset.cut with live := initialCauses s.wear.lining, holdFrom := s.now }
    wear := ⟨s.wear.lining, releasedItems s.wear.items⟩
    store := s.store.scanned
    rcd := { State.reset.rcd with
      ring := s.rcd.ring, next := s.rcd.next, empty := s.rcd.empty, table := table
      state := recorderState table .selfCheck }
    pending := s.pending }
  t.formPorts (if s.rcd.table.toList.any fun d => d.state == .collecting then NoticeKind.snapshotComplete.bit else 0#13)

/-- The assertion of the reset input: the store stops where it is (R7, R159). -/
def State.assertReset (s : State) (cut : WriteCut) : State :=
  let t := s.cutStoreOff cut
  (t.setStore t.store.stopped).setResetAsserted true

/-- A level taken by the hold line sampler: the line has it now, so another level is held for 1 ms from here on at the
earliest (R55). -/
def State.takeLevel (s : State) (level : LineLevel) : State :=
  (s.setCut { s.cut with holdFrom := s.now, holdLevel := some level }).setCause .holdLine (level = .low)

/-- When the line can have held a level for 1 ms: the level taken last still stands, another one counts from there or from
the driver's release. While the driver pulls the line the sampler takes none (R55; entry 23). -/
def State.samplerTimer (s : State) (level : LineLevel) : Option Nat :=
  if s.drivesHold then none
  else if s.cut.holdLevel = some level then some s.cut.holdFrom
  else some (s.cut.holdFrom + Config.holdSampleTime)

/-- The end of the self-check in progress (R13). -/
def State.checkTimer (s : State) : Option Nat := if s.rc.runState = .selfCheck then s.rc.checkEnd else none

/-- POWER_ON (R5). -/
def execPowerOn (straps : PerPort (BitVec 3)) (s : State) : Host.Outcome State Fault Refusal :=
  .next (s.powerOn straps)

/-- RESET_ASSERT (R7). -/
def execResetAssert (cut : WriteCut) (s : State) : Host.Outcome State Fault Refusal :=
  .next (if s.running then s.assertReset cut else s)

/-- RESET_LINE_RELEASE (R7); with the reset input not asserted it is no event (entry 10). -/
def execResetLineRelease (straps : PerPort (BitVec 3)) (s : State) : Host.Outcome State Fault Refusal :=
  .next (if s.powered ∧ s.resetAsserted then s.releaseReset straps else s)

/-- SELF_CHECK_END (R14). -/
def execSelfCheckEnd (failures : StepFailures) (s : State) : Host.Outcome State Fault Refusal :=
  .next (s.timed s.checkTimer fun t => t.endSelfCheck failures)

/-- HOLD_LINE_SAMPLE (R55). -/
def execHoldLineSample (level : LineLevel) (s : State) : Host.Outcome State Fault Refusal :=
  .next (s.timed (s.samplerTimer level) fun t => t.takeLevel level)

/-- POWER_FAILURE (R159). -/
def execPowerFailure (cut : WriteCut) (s : State) : Host.Outcome State Fault Refusal :=
  .next (if s.powered then s.loseSupply cut else s)

end Sys2Proof.Machine
end

