-- ==== Sys2Proof/Machine/TimedEvents.lean ====
section
/-! DEFINITION. The meanings of the events that the part's own timers bring about; a timer that is not running brings
nothing about (entry 2). -/

namespace Sys2Proof.Machine

/-- The evaluation period, running in STANDBY and ACTIVE (R59). -/
def State.evaluationTimer (s : State) : Option Nat :=
  match s.rc.runState with
  | .standby | .active => s.split.evalDue
  | .selfCheck | .halted => none

/-- The slip hold timer's expiry; in SELF_CHECK the timer is stopped (R53). -/
def State.slipExpiry (s : State) : Option Nat :=
  if s.rc.runState = .selfCheck then none
  else match s.cut.slipTimer with
    | .running t => some t
    | .idle | .expired => none

/-- The end of a write in flight (R156). -/
def State.writeEnd (s : State) : Option Nat := if s.store.phase = .writing then s.store.endAt else none

/-- The end of an erase in flight (R155). -/
def State.eraseEnd (s : State) : Option Nat := if s.store.phase = .erasing then s.store.endAt else none

/-- The periodic checkpoint timer expires and runs on (R151). -/
def State.periodicExpiry (s : State) : State :=
  (s.setStore { s.store with timer := some (s.now + s.rc.applied.tCheckpoint * 1000) }).requestCheckpoint

/-- EVALUATION (R59). -/
def execEvaluation (s : State) : Host.Outcome State Fault Refusal :=
  .next (s.timed s.evaluationTimer State.evaluate)

/-- LINK_DEADLINE_EXPIRY (R33). -/
def execLinkDeadlineExpiry (r : Role) (s : State) : Host.Outcome State Fault Refusal :=
  .next (s.timed (s.env.book.get r).deadline fun t => t.deadlineExpired r)

/-- SLIP_HOLD_EXPIRY (R52). -/
def execSlipHoldExpiry (s : State) : Host.Outcome State Fault Refusal :=
  .next (s.timed s.slipExpiry fun t => t.setSlipTimer .expired)

/-- GENSET_TIMER_END (R105): the manager does not act; the time has come, and the next step finds it. -/
def execGensetTimerEnd (t : GensetTimer) (s : State) : Host.Outcome State Fault Refusal :=
  .next (s.timed (s.gen.timer t) fun u => u)

/-- PERIODIC_CHECKPOINT_EXPIRY (R151). -/
def execPeriodicCheckpointExpiry (s : State) : Host.Outcome State Fault Refusal :=
  .next (s.timed s.store.timer State.periodicExpiry)

/-- WRITE_VERIFY (R156). -/
def execWriteVerify (faults : CellFaults) (s : State) : Host.Outcome State Fault Refusal :=
  .next (s.timed s.writeEnd fun t => t.verifyWrite faults)

/-- ERASE_END (R155). -/
def execEraseEnd (faults : CellFaults) (s : State) : Host.Outcome State Fault Refusal :=
  .next (s.timed s.eraseEnd fun t => t.verifyErase faults)

/-- SAMPLE (R160). -/
def execSample (s : State) : Host.Outcome State Fault Refusal :=
  .next (s.timed s.rcd.due State.sampleEvent)

end Sys2Proof.Machine
end

