-- ==== Sys2Proof/Machine/Dispatch.lean ====
section
/-! DEFINITION. One arm for each command. -/

namespace Sys2Proof.Machine

def exec (i : Instr) (s : State) : Host.Outcome State Fault Refusal :=
  match i with
  | .powerOn straps => Sys2Proof.Machine.execPowerOn straps s
  | .resetAssert cut => Sys2Proof.Machine.execResetAssert cut s
  | .resetLineRelease straps => Sys2Proof.Machine.execResetLineRelease straps s
  | .selfCheckEnd failures => Sys2Proof.Machine.execSelfCheckEnd failures s
  | .holdLineSample level => Sys2Proof.Machine.execHoldLineSample level s
  | .brokenExchange p => Sys2Proof.Machine.execBrokenExchange p s
  | .badframe p echoed => Sys2Proof.Machine.execBadframe p echoed s
  | .poll p => Sys2Proof.Machine.execPoll p s
  | .cursor p address payload => Sys2Proof.Machine.execCursor p address payload s
  | .write p advance word => Sys2Proof.Machine.execWrite p advance word s
  | .reportWordWrite p advance word => Sys2Proof.Machine.execReportWordWrite p advance word s
  | .stagedSettingWrite p advance word => Sys2Proof.Machine.execStagedSettingWrite p advance word s
  | .dumpRangeRecordWrite p advance word => Sys2Proof.Machine.execDumpRangeRecordWrite p advance word s
  | .capture p advance => Sys2Proof.Machine.execCapture p advance s
  | .counterCapture p advance => Sys2Proof.Machine.execCounterCapture p advance s
  | .latchCapture p advance => Sys2Proof.Machine.execLatchCapture p advance s
  | .noticeCapture p advance => Sys2Proof.Machine.execNoticeCapture p advance s
  | .wearStatusCapture p advance => Sys2Proof.Machine.execWearStatusCapture p advance s
  | .dumpStreamRead p advance => Sys2Proof.Machine.execDumpStreamRead p advance s
  | .runStandby p => Sys2Proof.Machine.execRunStandby p s
  | .runActive p => Sys2Proof.Machine.execRunActive p s
  | .runHalt p => Sys2Proof.Machine.execRunHalt p s
  | .selfCheck p => Sys2Proof.Machine.execSelfCheck p s
  | .apply p => Sys2Proof.Machine.execApply p s
  | .discard p => Sys2Proof.Machine.execDiscard p s
  | .saveWear p => Sys2Proof.Machine.execSaveWear p s
  | .wearReset p operand => Sys2Proof.Machine.execWearReset p operand s
  | .trigger p => Sys2Proof.Machine.execTrigger p s
  | .release p operand => Sys2Proof.Machine.execRelease p operand s
  | .dumpSnapshot p operand => Sys2Proof.Machine.execDumpSnapshot p operand s
  | .dumpRange p => Sys2Proof.Machine.execDumpRange p s
  | .dumpCancel p => Sys2Proof.Machine.execDumpCancel p s
  | .cursorMode p operand => Sys2Proof.Machine.execCursorMode p operand s
  | .evaluation => Sys2Proof.Machine.execEvaluation s
  | .linkDeadlineExpiry r => Sys2Proof.Machine.execLinkDeadlineExpiry r s
  | .slipHoldExpiry => Sys2Proof.Machine.execSlipHoldExpiry s
  | .gensetTimerEnd t => Sys2Proof.Machine.execGensetTimerEnd t s
  | .periodicCheckpointExpiry => Sys2Proof.Machine.execPeriodicCheckpointExpiry s
  | .writeVerify faults => Sys2Proof.Machine.execWriteVerify faults s
  | .eraseEnd faults => Sys2Proof.Machine.execEraseEnd faults s
  | .sample => Sys2Proof.Machine.execSample s
  | .powerFailure cut => Sys2Proof.Machine.execPowerFailure cut s

end Sys2Proof.Machine
end

