-- ==== Sys2Proof/Safety.lean ====
section
/-! DEFINITION. What claims about the part speak of: what a frame is answered with, what an event leaves alone, and the
properties that every step keeps. -/

namespace Sys2Proof.Machine

/-! ### Answers and frames -/

/-- `t` holds, at port `p`, the response made ready for a frame taken in `s`, with the attention, run state and
headline of `t`, and the response of before has been shifted out (R180, R182). -/
def Answered (s t : State) (p : Port) (command : BitVec 4) (result : Result) (payload : Word) : Prop :=
  (t.ports.get p).response = ⟨command, result, t.attention p, t.rc.runState, headline t.cut.live, payload⟩ ∧
    (t.ports.get p).dataOut = some (s.ports.get p).response.frame

/-- Every port but `p` is as it was. -/
def OtherPortsSame (s t : State) (p : Port) : Prop := ∀ q, q ≠ p → t.ports.get q = s.ports.get q

/-- Everything but the ports is as it was. -/
def SameButPorts (s t : State) : Prop := t = { s with ports := t.ports }

/-- A port is as it was but for its pending response and its data out. -/
def PortState.SameButFrame (x y : PortState) : Prop := y = { x with response := y.response, dataOut := y.dataOut }

/-- The frame has had no effect: nothing has changed but the response and the data out of its port. -/
def NoEffect (s t : State) (p : Port) : Prop :=
  SameButPorts s t ∧ OtherPortsSame s t p ∧ (s.ports.get p).SameButFrame (t.ports.get p)

/-- Frames are taken at the ports: supply is there, the reset input is released, no self-check runs (R5, R7). -/
def State.Listening (s : State) : Prop := s.running = true ∧ s.rc.runState ≠ .selfCheck

/-! ### What an event changes -/

/-- The parts of the state. -/
inductive Block
  | supply | clock | free | runControl | envelope | cutback | split | genset | wear | store | recorder | ports | queue
  deriving DecidableEq, Repr

/-- One part of the state is the same in both. -/
def Block.Same (s t : State) : Block → Prop
  | .supply => t.powered = s.powered ∧ t.resetAsserted = s.resetAsserted
  | .clock => t.now = s.now
  | .free => t.freeCount = s.freeCount
  | .runControl => t.rc = s.rc
  | .envelope => t.env = s.env
  | .cutback => t.cut = s.cut
  | .split => t.split = s.split
  | .genset => t.gen = s.gen
  | .wear => t.wear = s.wear
  | .store => t.store = s.store
  | .recorder => t.rcd = s.rcd
  | .ports => t.ports = s.ports
  | .queue => t.pending = s.pending

/-- Every part of the state but those named is the same. -/
def Changes (parts : List Block) (s t : State) : Prop := ∀ b, b ∉ parts → b.Same s t

/-- The fields of a port; `frame` is its pending response with its data out. -/
inductive PortField
  | cursors | assembly | holding | frame | notices | missed | latch | counters | codes | dump | dumpRange
  deriving DecidableEq, Repr

/-- One field of a port is the same in both. -/
def PortField.Same (x y : PortState) : PortField → Prop
  | .cursors => y.cursors = x.cursors
  | .assembly => y.assembly = x.assembly
  | .holding => y.holding = x.holding
  | .frame => y.response = x.response ∧ y.dataOut = x.dataOut
  | .notices => y.notices = x.notices
  | .missed => y.missed = x.missed
  | .latch => y.latch = x.latch
  | .counters => y.counters = x.counters
  | .codes => y.codes = x.codes
  | .dump => y.dump = x.dump
  | .dumpRange => y.dumpRange = x.dumpRange

/-- Every field of a port but those named is the same. -/
def PortChanges (fields : List PortField) (s t : State) (p : Port) : Prop :=
  ∀ f, f ∉ fields → f.Same (s.ports.get p) (t.ports.get p)

/-- Nothing has changed but the named fields of one port. -/
def OnlyPort (fields : List PortField) (s t : State) (p : Port) : Prop :=
  Changes [.ports] s t ∧ OtherPortsSame s t p ∧ PortChanges fields s t p

/-- At every port nothing but the named fields has changed, and at port `p` its frame. -/
def PortsChange (fields : List PortField) (s t : State) (p : Port) : Prop :=
  (∀ q, q ≠ p → PortChanges fields s t q) ∧ PortChanges (.frame :: fields) s t p

/-! ### What triggers and commits do to the recorder (R165, R168) -/

/-- The recorder after the return of its sampling level to RUN at `now` (R165). -/
def Recorder.returned (x : Recorder) (now : Nat) : Recorder :=
  if x.state ≠ .recording then x
  else if x.level = .run then { x with still := none }
  else { x with level := .run, still := none, due := some (now + 20) }

/-- The state after triggers fired one after another in `s`. -/
def State.fired (s : State) (causes : List TriggerCause) : State := causes.foldl State.trigger s

/-- The lowest descriptor id of which `f` holds. -/
def SnapshotTable.Lowest (x : SnapshotTable) (f : Descriptor → Prop) (id : BitVec 2) : Prop :=
  f (x.get id) ∧ ∀ j : BitVec 2, j.toNat < id.toNat → ¬ f (x.get j)

/-- The descriptor that a trigger takes: the lowest FREE one, else the lowest OVERWRITTEN one (R168, step 3). -/
def SnapshotTable.Takes (x : SnapshotTable) (id : BitVec 2) : Prop :=
  x.Lowest (fun d => d.state = .free) id ∨
    (∀ j, (x.get j).state ≠ .free) ∧ x.Lowest (fun d => d.state = .overwritten) id

/-- The descriptor that collects for a cause (R168, step 1). -/
def SnapshotTable.Collects (x : SnapshotTable) (c : TriggerCause) (id : BitVec 2) : Prop :=
  x.Lowest (fun d => d.state = .collecting ∧ d.cause = c) id

/-! ### The conditions of APPLY by their index (R18) -/

/-- Three thresholds strictly ascend. -/
def Thresholds.Ascending (t : Thresholds) : Prop := t.t1 < t.t2 ∧ t.t2 < t.t3

/-- The condition of each index; beyond 16 there is none (R18). -/
def Settings.Condition (a : Settings) : Nat → Prop
  | 0 => a.socMin < a.socLowTaper
  | 1 => a.socMin < a.socReserve
  | 2 => a.socReserve < a.socStart
  | 3 => a.socStart < a.socTarget
  | 4 => a.socTarget < a.socStop
  | 5 => a.socStop < a.socHiTaper
  | 6 => a.socHiTaper < a.socMax
  | 7 => a.socReserve + 500 ≤ a.socStart
  | 8 => a.vFadeLo < a.vFadeHi
  | 9 => a.thresholds.liningFront.Ascending
  | 10 => a.thresholds.liningMid.Ascending
  | 11 => a.thresholds.liningRear.Ascending
  | 12 => a.thresholds.battery.Ascending
  | 13 => a.thresholds.gensetStarts.Ascending
  | 14 => a.ageing.a1 ≤ a.ageing.a0 ∧ a.ageing.a2 ≤ a.ageing.a1 ∧ a.ageing.a3 ≤ a.ageing.a2
  | 15 => ∀ c, a.pre.get c ≤ 4000
  | 16 => ∀ c, a.post.get c ≤ 4000
  | _ => True

/-! ### Tables of the spec -/

/-- The numeric fields of the reports: role, word, and the ends of the range (R22). -/
def numericFields : List (Role × Nat × Int × Int) :=
  [(.vehicle, 0, 0, 3000), (.vehicle, 1, 0, 600), (.vehicle, 5, -40, 60),
    (.genset, 1, -1500, 2500), (.genset, 2, 0, 2500), (.genset, 3, 0, 1500),
    (.storage, 0, 0, 10000), (.storage, 1, 0, 4000), (.storage, 2, 0, 4000), (.storage, 3, -4000, 4000),
    (.storage, 4, -40, 80),
    (.traction, 0, -1000, 6000), (.traction, 1, 0, 3000), (.traction, 2, 0, 3000),
    (.brake, 0, 0, 1000), (.brake, 1, 0, 3000), (.brake, 3, 0, 5000), (.brake, 4, 0, 5000), (.brake, 5, 0, 5000)]

/-- The enumeration fields of the reports: role, word, and the last code (R22). -/
def enumerationFields : List (Role × Nat × Nat) :=
  [(.vehicle, 2, 2), (.vehicle, 3, 2), (.vehicle, 4, 1), (.genset, 0, 5), (.brake, 2, 1)]

/-- Word `k` of a report is an enumeration field outside its codes (R27). -/
def OutsideCodes (r : Role) (words : List Word) (k : Nat) : Prop :=
  ∃ last w, (r, k, last) ∈ enumerationFields ∧ words[k]? = some w ∧ last < w.toNat

/-- The one-word settings: offset, setting, default (R198). -/
def settingTable : List (Nat × SettingId × Nat) :=
  [(0x00, .socMin, 1000), (0x01, .socReserve, 2000), (0x02, .socLowTaper, 2500), (0x03, .socStart, 4500),
    (0x04, .socTarget, 5500), (0x05, .socStop, 6000), (0x06, .socHiTaper, 8500), (0x07, .socMax, 9500),
    (0x08, .vFadeLo, 30), (0x09, .vFadeHi, 80), (0x0A, .nFloor, 300), (0x0B, .tRevCap, 900),
    (0x0C, .a0, 1024), (0x0D, .a1, 922), (0x0E, .a2, 768), (0x0F, .a3, 512),
    (0x10, .upDrive, 30), (0x11, .downDrive, 60), (0x12, .upRegen, 60), (0x13, .downRegen, 120),
    (0x14, .deadline .vehicle, 50), (0x15, .deadline .genset, 100), (0x16, .deadline .storage, 100),
    (0x17, .deadline .traction, 30), (0x18, .deadline .brake, 30),
    (0x19, .pDisFb, 300), (0x1A, .pChgFb, 100), (0x1B, .tSlipHold, 300), (0x1C, .tMinRun, 60), (0x1D, .tMinOff, 20),
    (0x1E, .tStart, 15), (0x1F, .tAbsExit, 5), (0x20, .nStartFail, 3), (0x21, .kSoc, 40), (0x22, .pGsMinRun, 200),
    (0x23, .cHeat, 20000), (0x26, .tCheckpoint, 600), (0x27, .tHarsh, 2200),
    (0x28, .pre .harshBrake, 500), (0x29, .pre .slipCut, 250), (0x2A, .pre .cutback, 250), (0x2B, .pre .holdLine, 1000),
    (0x2C, .pre .wearLevel, 100), (0x2D, .pre .gensetFail, 250), (0x2E, .pre .manual, 500),
    (0x2F, .post .harshBrake, 250), (0x30, .post .slipCut, 250), (0x31, .post .cutback, 250), (0x32, .post .holdLine, 500),
    (0x33, .post .wearLevel, 0), (0x34, .post .gensetFail, 500), (0x35, .post .manual, 500)]

/-- The capture-class records: first address and number of words (R195). -/
def recordTable : List (RecordId × Nat × Nat) :=
  [(.status, 0x40, 12), (.traction, 0x50, 3), (.storage, 0x54, 3), (.brake, 0x58, 6), (.genset, 0x60, 5),
    (.counters, 0x80, 11), (.latch, 0x90, 2), (.notice, 0x94, 2), (.wearStatus, 0x98, 2), (.dumpContext, 0xA0, 6),
    (.snapshots, 0x100, 16)]

/-- One bit fed into the CRC register (R149: polynomial 1021h). -/
def crcBit (c : BitVec 16) (b : Bool) : BitVec 16 := if (c.msb ^^ b) then (c <<< 1) ^^^ 0x1021#16 else c <<< 1

/-- The CRC of words fed bit by bit, most significant bit first, from FFFFh, with no final inversion (R149). -/
def serialCrc (words : List Word) : BitVec 16 :=
  (words.flatMap fun w => (List.range 16).map fun i => w.getMsbD i).foldl crcBit 0xFFFF#16

/-! ### Words of a record -/

/-- A number stands in two words, the high one first (R193). -/
def TwoWords (high low : Option Word) (n : Nat) : Prop :=
  ∃ h l : Word, high = some h ∧ low = some l ∧ h.toNat * 65536 + l.toNat = n

/-- A word holds the three thermal levels at the bits of brake command word 4 (R196). -/
def ShowsThermal (s : State) (w : Option Word) : Prop :=
  ∃ v : Word, w = some v ∧ (v.extractLsb' 0 2).toNat = s.wear.lining.front.level.code ∧
    (v.extractLsb' 2 2).toNat = s.wear.lining.middle.level.code ∧
    (v.extractLsb' 4 2).toNat = s.wear.lining.rear.level.code

/-! ### What a checkpoint request does (R153, R154, R156, R157) -/

/-- `y` is the store after a checkpoint begun in `x` with these totals. -/
def Store.Started (x y : Store) (totals : PerItem Nat) (now : Nat) : Prop :=
  (Config.segmentSlots ≤ x.pos →
    y = { x with record := some totals, attempts := 0, phase := .erasing, endAt := some (now + 150) }) ∧
  (x.pos < Config.segmentSlots → ∀ n, (nextSequence x.lastUsed totals).1 = some n →
    y = { x with record := some totals, attempts := 1, lastUsed := n, phase := .writing, endAt := some (now + 20) }) ∧
  (x.pos < Config.segmentSlots → (nextSequence x.lastUsed totals).1 = none →
    y = { x with
      fault := true, phase := .idle, record := none, pendingFlag := false, current := noPorts, waiting := noPorts
      endAt := none, attempts := y.attempts, lastUsed := y.lastUsed } ∧
    x.lastUsed ≤ y.lastUsed ∧ (Config.lastSequence ≤ x.lastUsed → y.lastUsed = x.lastUsed))

/-- `y` is the store after a checkpoint request that `x` receives. -/
def Store.Requested (x y : Store) (totals : PerItem Nat) (now : Nat) : Prop :=
  (x.fault = true → y = x) ∧
  (x.fault = false → x.phase ≠ .idle → y = { x with pendingFlag := true }) ∧
  (x.fault = false → x.phase = .idle → Store.Started x y totals now)

/-! ### What the end of supply and the reset input leave in the journal (R159) -/

/-- The words `j` and the cut erase flags `e` that an operation in flight leaves when it is cut off. -/
def State.CutOff (s : State) (cut : WriteCut) (j : Memory) (e : SegmentFlags) : Prop :=
  let a := slotAddress s.store.active s.store.pos
  let n := min cut.words Config.slotWords
  (s.store.phase = .idle → j = s.store.journal ∧ e = s.store.cutErase) ∧
  (s.store.phase = .writing →
    e = s.store.cutErase ∧ (∀ b, b < a ∨ a + n ≤ b → j.read b = s.store.journal.read b) ∧
    (cut.faults = [] → s.store.journal.wf = true → ∀ k, k < n →
      j.read (a + k) = s.store.intended.getD k 0#16 &&& s.store.journal.read (a + k))) ∧
  (s.store.phase = .erasing →
    e = s.store.cutErase.set s.store.active.other true ∧
    ∀ b, b < s.store.active.other.base ∨ s.store.active.other.base + Config.segmentWords ≤ b →
      j.read b = s.store.journal.read b)

/-! ### A report that its last word completes -/

/-- The word `w`, written next at port `p`, is the last word of a report of role `r` of which the assembly buffer holds
the words `ws` (R25). -/
def State.Completing (s : State) (p : Port) (r : Role) (ws : List Word) (w : Word) : Prop :=
  s.Listening ∧ s.roleOf p = some r ∧ ws.length + 1 = reportLength r ∧
    reportWordAt (s.ports.get p).cursors.writeAddress.toNat = some (r, ws.length) ∧
    (s.ports.get p).assembly = some ⟨.report r, ws⟩ ∧ firstOutside r (ws ++ [w]) = none

/-- The frames that are no CURSOR, no READ, no WRITE and no CURSOR_MODE. -/
def leavesCursors : Instr → Bool
  | .brokenExchange _ | .badframe _ _ | .poll _ | .runStandby _ | .runActive _ | .runHalt _ | .selfCheck _ | .apply _
  | .discard _ | .saveWear _ | .wearReset _ _ | .trigger _ | .release _ _ | .dumpSnapshot _ _ | .dumpRange _
  | .dumpCancel _ => true
  | .cursor _ _ _ | .write _ _ _ | .reportWordWrite _ _ _ | .stagedSettingWrite _ _ _ | .dumpRangeRecordWrite _ _ _
  | .capture _ _ | .counterCapture _ _ | .latchCapture _ _ | .noticeCapture _ _ | .wearStatusCapture _ _
  | .dumpStreamRead _ _ | .cursorMode _ _ => false
  | .powerOn _ | .resetAssert _ | .resetLineRelease _ | .selfCheckEnd _ | .holdLineSample _ | .evaluation
  | .linkDeadlineExpiry _ | .slipHoldExpiry | .gensetTimerEnd _ | .periodicCheckpointExpiry | .writeVerify _ | .eraseEnd _
  | .sample | .powerFailure _ => false

/-- The port and the command field of the frames that a self-check answers HOLD (R13, R194). -/
def heldFrame : Instr → Option (Port × BitVec 4)
  | .powerOn _ => none
  | .resetAssert _ => none
  | .resetLineRelease _ => none
  | .selfCheckEnd _ => none
  | .holdLineSample _ => none
  | .brokenExchange _ => none
  | .badframe _ _ => none
  | .poll _ => none
  | .cursor p _ _ => some (p, 1#4)
  | .write p _ _ => some (p, 3#4)
  | .reportWordWrite p _ _ => some (p, 3#4)
  | .stagedSettingWrite p _ _ => some (p, 3#4)
  | .dumpRangeRecordWrite p _ _ => some (p, 3#4)
  | .capture p _ => some (p, 2#4)
  | .counterCapture p _ => some (p, 2#4)
  | .latchCapture p _ => some (p, 2#4)
  | .noticeCapture p _ => some (p, 2#4)
  | .wearStatusCapture p _ => some (p, 2#4)
  | .dumpStreamRead p _ => some (p, 2#4)
  | .runStandby p => some (p, 4#4)
  | .runActive p => some (p, 4#4)
  | .runHalt p => some (p, 4#4)
  | .selfCheck p => some (p, 4#4)
  | .apply p => some (p, 4#4)
  | .discard p => some (p, 4#4)
  | .saveWear p => some (p, 4#4)
  | .wearReset p _ => some (p, 4#4)
  | .trigger p => some (p, 4#4)
  | .release p _ => some (p, 4#4)
  | .dumpSnapshot p _ => some (p, 4#4)
  | .dumpRange p => some (p, 4#4)
  | .dumpCancel p => some (p, 4#4)
  | .cursorMode p _ => some (p, 4#4)
  | .evaluation => none
  | .linkDeadlineExpiry _ => none
  | .slipHoldExpiry => none
  | .gensetTimerEnd _ => none
  | .periodicCheckpointExpiry => none
  | .writeVerify _ => none
  | .eraseEnd _ => none
  | .sample => none
  | .powerFailure _ => none

/-- The four rows of a WRITE frame; the write cursor says which of them it is (entry 4). -/
def IsWrite (i : Instr) (p : Port) (advance : Bool) (word : Word) : Prop :=
  i = .write p advance word ∨ i = .reportWordWrite p advance word ∨ i = .stagedSettingWrite p advance word ∨
    i = .dumpRangeRecordWrite p advance word

/-- The six rows of a READ frame; the read cursor says which of them it is (entry 3). -/
def IsRead (i : Instr) (p : Port) (advance : Bool) : Prop :=
  i = .capture p advance ∨ i = .counterCapture p advance ∨ i = .latchCapture p advance ∨
    i = .noticeCapture p advance ∨ i = .wearStatusCapture p advance ∨ i = .dumpStreamRead p advance

/-- A kind of notice is in a port's notice set. -/
def PortState.hasNotice (x : PortState) (k : NoticeKind) : Bool := x.notices.getLsbD k.code

/-- A kind of notice is in the notice set of every port. -/
def State.AllNoticed (s : State) (k : NoticeKind) : Prop := ∀ p, (s.ports.get p).hasNotice k = true

/-- A raise of ZONE_BREACH adds the notice ZONE_BREACH, and CUTBACK_CHANGE, at every port, and nothing else adds the first
(R45, R49, R117). -/
def State.ZoneNoticed (s t : State) : Prop :=
  (∀ p, (t.ports.get p).hasNotice .zoneBreach =
    ((s.ports.get p).hasNotice .zoneBreach || (t.causeActive .zoneBreach && !s.causeActive .zoneBreach))) ∧
  (s.causeActive .zoneBreach = false → t.causeActive .zoneBreach = true → t.AllNoticed .cutbackChange ∧
    ∀ p, CauseSet.has (t.ports.get p).latch .zoneBreach = true)

/-- No notice is taken away, and none is added but of the kinds named. -/
def State.NoticesWithin (kinds : List NoticeKind) (s t : State) : Prop :=
  ∀ p k, ((s.ports.get p).hasNotice k = true → (t.ports.get p).hasNotice k = true) ∧
    (k ∉ kinds → (t.ports.get p).hasNotice k = (s.ports.get p).hasNotice k)

/-- CUTBACK_CHANGE comes to every port when the cause set has changed, and only then (R45, R46). -/
def State.CutbackTold (s t : State) : Prop :=
  ∀ p, (t.ports.get p).hasNotice .cutbackChange =
    ((s.ports.get p).hasNotice .cutbackChange || decide (t.cut.live ≠ s.cut.live))

/-- CUTBACK_CHANGE, and every latch set gains the causes that have become active and nothing else (R45, R46, R57). -/
def State.CausesTold (s t : State) : Prop :=
  s.CutbackTold t ∧ ∀ p c, CauseSet.has (t.ports.get p).latch c =
    (CauseSet.has (s.ports.get p).latch c || (t.causeActive c && !s.causeActive c))

/-- An entry of the store into fault raises WEAR_STORE_FAULT and adds STORE_FAULT at every port; without one both are as they
were (R157). -/
def State.FaultTold (s t : State) : Prop :=
  (t.causeActive .wearStoreFault = (s.causeActive .wearStoreFault || (t.store.fault && !s.store.fault))) ∧
  ∀ p, (t.ports.get p).hasNotice .storeFault =
    ((s.ports.get p).hasNotice .storeFault || (t.store.fault && !s.store.fault))

/-- The store of `t` is `x` after an entry into fault with `lastUsed` the last number used, and the entry is told (R157; entry
20 for the attempts). -/
def Store.Failed (x : Store) (t : State) (lastUsed : Nat) : Prop :=
  t.store = { x with
    fault := true, phase := .idle, pendingFlag := false, current := noPorts, waiting := noPorts, record := none
    attempts := 0, endAt := none, lastUsed := lastUsed } ∧
  t.causeActive .wearStoreFault = true ∧ t.AllNoticed .storeFault

/-- The missed masks of `t`, and its notices of snapshots, are those of `u`. -/
def State.MarkedAs (u t : State) : Prop :=
  ∀ p, (t.ports.get p).missed = (u.ports.get p).missed ∧
    (t.ports.get p).hasNotice .snapshotComplete = (u.ports.get p).hasNotice .snapshotComplete ∧
    (t.ports.get p).hasNotice .triggerMissed = (u.ports.get p).hasNotice .triggerMissed

/-- What the recorder shows of triggers is in `t` as in `u`: its own state, the missed masks, the notices of snapshots. -/
def State.RecordedAs (u t : State) : Prop := t.rcd = u.rcd ∧ u.MarkedAs t

/-! ### Levels of wear items (R139, R142) -/

/-- Some item's level is higher in `t`. -/
def State.LevelRises (s t : State) : Prop := ∃ item, (s.wear.items.get item).level < (t.wear.items.get item).level

/-- WEAR_LEVEL comes to every port when a level has risen or fallen, and only then (R139). -/
def State.LevelNoticed (s t : State) : Prop :=
  ∀ p, (t.ports.get p).hasNotice .wearLevel = true ↔
    (s.ports.get p).hasNotice .wearLevel = true ∨ s.LevelRises t ∨ t.LevelRises s

/-- The stored wear status codes have become the worse of stored and current (R142). -/
def State.CodesWorsened (s t : State) : Prop :=
  ∀ q item, ((t.ports.get q).codes.get item).code =
    min ((s.ports.get q).codes.get item).code (t.wearStatus item).code

/-- What an event brings beside the levels it has formed: a rise requests a checkpoint of the totals after the event, and
without one the store stands; a rise and a fall are told (R139, R157). -/
def State.LevelsTold (s t : State) : Prop :=
  (s.LevelRises t → Store.Requested s.store t.store t.totals s.now) ∧ (¬ s.LevelRises t → t.store = s.store) ∧
  s.LevelNoticed t ∧ s.FaultTold t

/-! ### The end of a staging claim (R17, R19) -/

/-- A held first word of a two-word setting is dropped, and nothing else that an assembly buffer holds (R17). -/
def PortState.SettingWordDropped (x y : PortState) : Prop :=
  (∀ k ws, x.assembly = some ⟨.setting k, ws⟩ → y.assembly = none) ∧
  ((∀ k ws, x.assembly ≠ some ⟨.setting k, ws⟩) → y.assembly = x.assembly)

/-- As DISCARD for a claimant of which `drops` holds; with another claimant, or none, claim and staged copy stand (R19). -/
def State.ClaimDropped (drops : Port → Prop) (s t : State) : Prop :=
  (∀ q, s.rc.claim = some q → drops q →
    t.rc.claim = none ∧ t.rc.staged = s.rc.applied ∧ (s.ports.get q).SettingWordDropped (t.ports.get q)) ∧
  ((∀ q, s.rc.claim = some q → ¬ drops q) → t.rc.claim = s.rc.claim ∧ t.rc.staged = s.rc.staged) ∧
  ∀ q, s.rc.claim ≠ some q ∨ ¬ drops q → (t.ports.get q).assembly = (s.ports.get q).assembly

/-! ### Properties that every step keeps -/

/-- Every active cause is in every port's latch set (R57). -/
def State.LatchesLive (s : State) : Prop :=
  ∀ p c, s.causeActive c = true → CauseSet.has (s.ports.get p).latch c = true

/-- Outside ACTIVE and under a hard cause, nothing is commanded (R73, R119). -/
def State.StopsCommands (s : State) : Prop :=
  s.rc.runState ≠ .active ∨ s.hardActive = true →
    s.split.tMc = 0 ∧ s.split.lDrive = 0 ∧ s.split.lRegen = 0 ∧ s.split.grant = 0 ∧ s.gen.setpoint = 0

/-- A number lies in a range, ends included. -/
def Within (x lo hi : Int) : Prop := lo ≤ x ∧ x ≤ hi

/-- Every held report field lies in its range (R22). -/
def Envelope.InRange (e : Envelope) : Prop :=
  Within e.vehicle.tDrv 0 3000 ∧ Within e.vehicle.pAux 0 600 ∧ Within e.vehicle.ambient (-40) 60 ∧
  Within e.genset.pGs (-1500) 2500 ∧ Within e.genset.pGsAvail 0 2500 ∧ Within e.genset.pAbsMax 0 1500 ∧
  Within e.storage.soc 0 10000 ∧ Within e.storage.pDisRep 0 4000 ∧ Within e.storage.pChgRep 0 4000 ∧
  Within e.storage.pBat (-4000) 4000 ∧ Within e.storage.temperature (-40) 80 ∧
  Within e.traction.n (-1000) 6000 ∧ Within e.traction.tMotMax 0 3000 ∧ Within e.traction.tGenMax 0 3000 ∧
  Within e.brake.v 0 1000 ∧ Within e.brake.tRr 0 3000 ∧ Within e.brake.pfFront 0 5000 ∧
  Within e.brake.pfMid 0 5000 ∧ Within e.brake.pfRear 0 5000

/-- The sense of the standing torque is that of the mode, inside the limits (R73, R92). -/
def State.TorqueInLimits (s : State) : Prop :=
  0 ≤ s.split.lDrive ∧ 0 ≤ s.split.lRegen ∧ -s.split.lRegen ≤ s.split.tMc ∧ s.split.tMc ≤ s.split.lDrive ∧
  (0 < s.split.tMc → s.rc.runState = .active ∧ s.split.mode = .drive) ∧
  (s.split.tMc < 0 → s.rc.runState = .active ∧ s.split.mode = .braking ∧ s.split.dir = .forward) ∧
  s.split.grant = max 0 (-s.split.tMc)

/-- The setpoint is negative only in ABSORB with a grant above 0 (R119). -/
def State.AbsorbsOnGrant (s : State) : Prop := s.gen.setpoint < 0 → s.gen.mgr = .absorb ∧ 0 < s.split.grant

/-- In a zone the manager is never in ABSORB, and in START_REQUESTED or RUN only while ZONE_BREACH is active
(R117). -/
def State.ZoneMarked (s : State) : Prop :=
  s.env.vehicle.zone = true → s.gen.mgr ≠ .absorb ∧
    (s.gen.mgr = .startRequested ∨ s.gen.mgr = .run → s.causeActive .zoneBreach = true)

/-- E_bat is the sum of the other flows of the DC link unless one of the four is saturated (R126). -/
def Counters.Balanced (c : Counters) : Prop :=
  c.motor.saturated = false → c.aux.saturated = false → c.gs.saturated = false → c.bat.saturated = false →
    c.bat.joules = c.motor.joules + c.aux.joules - c.gs.joules

/-- Every port's counters balance (R126). -/
def State.EnergyBalanced (s : State) : Prop := ∀ p, (s.ports.get p).counters.Balanced

/-- The applied settings satisfy every condition of APPLY (R18). -/
def State.SettingsConsistent (s : State) : Prop := s.rc.applied.consistent = true

/-- Every item's level is the number of its applied thresholds at or below its total (R138). -/
def State.LevelsMatch (s : State) : Prop :=
  ∀ i, (s.wear.items.get i).level = levelOf (s.rc.applied.thresholds.get i) (s.wear.items.get i).total

/-- Every stored wear status code is at least as bad as the item's current status (R142). -/
def State.CodesCover (s : State) : Prop :=
  ∀ p i, ((s.ports.get p).codes.get i).code ≤ (s.wearStatus i).code

/-- The fault flag is set exactly while WEAR_STORE_FAULT is active (R150). -/
def State.FaultMarked (s : State) : Prop := s.store.fault = s.causeActive .wearStoreFault

/-- The journal keeps the canonical form of its memory (R149; entry 22). -/
def State.JournalCanonical (s : State) : Prop := s.store.journal.wf = true

/-- The wear store's own state (R150, R154 to R157): the write position and the two sequence numbers in their ranges, an end
time and a checkpoint record exactly while a checkpoint is in flight, three attempts at most, and an idle store without
pending work. -/
def Store.Sound (x : Store) : Prop :=
  x.pos ≤ Config.segmentSlots ∧ x.lastUsed ≤ Config.lastSequence ∧ x.lastVerified ≤ Config.lastSequence ∧
  (x.phase = .writing → x.pos < Config.segmentSlots ∧ 1 ≤ x.attempts ∧ x.attempts ≤ 3) ∧
  (x.phase = .erasing → x.attempts ≤ 2) ∧
  (x.endAt.isSome = true ↔ x.phase ≠ .idle) ∧ (x.record.isSome = true ↔ x.phase ≠ .idle) ∧
  (x.phase = .idle → x.attempts = 0 ∧ x.pendingFlag = false ∧ x.current = noPorts) ∧
  (x.pendingFlag = false → x.waiting = noPorts) ∧ (x.fault = true → x.phase = .idle)

/-- The recorder state is the one its three conditions fix (R162). -/
def State.RecorderSettled (s : State) : Prop := s.rcd.state = recorderState s.rcd.table s.rc.runState

/-- The ring holds the latest samples, 8192 at most, newest first and without a gap (R161). -/
def State.RingWhole (s : State) : Prop :=
  s.rcd.ring.map Sample.number = (List.range (min s.rcd.next Config.ringSize)).map (fun i => s.rcd.next - 1 - i) ∧
    (s.rcd.empty = true ↔ s.rcd.next = 0)

/-- A COMPLETE descriptor's first sample is retained, and a COLLECTING one will find it so (R170, R171). -/
def Descriptor.Retained (oldest newest : Nat) (d : Descriptor) : Prop :=
  (d.state = .complete → oldest ≤ d.first) ∧
  (d.state = .collecting →
    d.trigger ≤ newest ∧ newest < d.last ∧ d.last ≤ d.trigger + 4000 ∧ d.trigger ≤ d.first + 4000)

/-- Every descriptor's samples are retained (R171). -/
def State.SnapshotsRetained (s : State) : Prop :=
  ∀ id, (s.rcd.table.get id).Retained s.rcd.oldest s.rcd.newest

/-- The table holds at most one COLLECTING descriptor for each cause (R167). -/
def State.OneCollecting (s : State) : Prop :=
  ∀ a b, (s.rcd.table.get a).state = .collecting → (s.rcd.table.get b).state = .collecting →
    (s.rcd.table.get a).cause = (s.rcd.table.get b).cause → a = b

/-- A dump queue holds 16 words at most, and none in an IDLE context; there is an end reason exactly in an ENDED one
(R174). -/
def State.QueuesBounded (s : State) : Prop :=
  ∀ p, (s.ports.get p).dump.queue.length ≤ Config.queueSize ∧
    ((s.ports.get p).dump.status = .idle → (s.ports.get p).dump.queue = []) ∧
    ((s.ports.get p).dump.reason.isSome = true ↔ (s.ports.get p).dump.status = .ended)

/-- The timers that the run state and the recorder state start and stop run exactly then (R13, R32, R59, R151,
R163). -/
def State.TimersFollow (s : State) : Prop :=
  (s.rc.checkEnd.isSome = true ↔ s.rc.runState = .selfCheck) ∧
  (s.split.evalDue.isSome = true ↔ s.rc.runState = .standby ∨ s.rc.runState = .active) ∧
  (s.store.timer.isSome = true ↔ s.rc.runState = .active) ∧
  (s.rcd.due.isSome = true ↔ s.rcd.state = .recording) ∧
  (s.rc.runState = .selfCheck ∨ s.rc.runState = .halted → ∀ r, (s.env.book.get r).deadline = none)

/-- An unbound port holds the staging claim only in HALTED (R19). -/
def State.ClaimBound (s : State) : Prop :=
  ∀ p, s.rc.claim = some p → s.roleOf p = none → s.rc.runState = .halted

/-- A property that every step from a state that has it keeps. -/
def Kept (inv : State → Prop) : Prop := ∀ s t, inv s → step s = .next t → inv t

end Sys2Proof.Machine
end

