-- ==== Sys2Proof/Certificates/Slice0/Obligations.lean ====
section
/-! DEFINITION. The statements for the provers. `exec i s = .next t` says that the command completes; what follows it says
what it has done and what it has left alone. -/

open Sys2Proof Sys2Proof.Machine

/-! ### The step and the answers -/

/-- A step runs the command at the front of the queue on the state with the queue's rest. -/
def Obligations.StepRunsFrontCommand : Prop :=
  ∀ (c : Instr) (rest : List Instr) (s : State), s.pending = c :: rest → step s = exec c (s.setPending rest)

/-- Every command has a next state, takes nothing from the queue, and but for power-on and power failure does not turn the
clock back. MODEL'S CHOICE (entry 1): with no command waiting, a millisecond passes while the part runs, and nothing
otherwise. -/
def Obligations.EveryStepGoesOn : Prop :=
  (∀ (c : Instr) (s : State), ∃ t, exec c s = .next t ∧ t.pending = s.pending ∧
    ((∀ x, c ≠ .powerOn x) → (∀ x, c ≠ .powerFailure x) → s.now ≤ t.now)) ∧
  ∀ s : State, s.pending = [] →
    (s.running = true → step s = .next { s with now := s.now + 1 }) ∧ (s.running = false → step s = .next s)

/-! ### Supply, reset input and self-check -/

/-- What power-on leaves (R5, R16, R41, R42, R61, R104, R122, R129, R134, R142, R158, R179, R192): with an erased journal
and straps low it is the state right after reset (entries 5 and 6); of a part that has supply it is a loss of supply first
(entry 9, MODEL'S CHOICE). MODEL'S CHOICE too: the clock at 0 (entry 1), the reset input released (entry 10), the hold line
sampler's moment 0 with no level taken (entry 23), no frame shifted out (entry 21), and in State.reset the counter of free
values as it was (entry 7), a dump's source, next and last (entry 17), no attempts (entry 20) and the fields of entry 25. -/
def Obligations.PowerOnFormsState : Prop :=
  (∀ s : State, s.powered = false → s.store.journal = [] → s.store.cutErase = ⟨false, false⟩ →
    exec (.powerOn ⟨0#3, 0#3, 0#3, 0#3, 0#3⟩) s =
      .next { State.reset with freeCount := s.freeCount, pending := s.pending }) ∧
  ∀ (straps : PerPort (BitVec 3)) (s : State),
    (s.powered = true →
      exec (.powerOn straps) s = exec (.powerOn straps) (s.loseSupply ⟨0, []⟩)) ∧
    (s.powered = false → ∃ t, exec (.powerOn straps) s = .next t ∧
      t.running = true ∧ t.now = 0 ∧ t.pending = s.pending ∧
      t.rc.straps = straps ∧ t.rc.runState = .selfCheck ∧ t.rc.checkEnd = some 2 ∧ t.rc.checkDone = false ∧
      t.rc.checkFail = false ∧ t.rc.checkStep = 0#2 ∧ t.rc.staged = .defaults ∧ t.rc.applied = .defaults ∧
      t.rc.claim = none ∧
      t.env = .atReset ∧ t.cut = ⟨Cause.doorInterlock.bit, .idle, 0, none⟩ ∧ t.split = .atReset ∧ t.gen = .atReset ∧
      t.rcd = .atPowerOn ∧ t.wear.lining = ⟨⟨5120, .normal⟩, ⟨5120, .normal⟩, ⟨5120, .normal⟩⟩ ∧
      t.store = s.store.scanned ∧ t.store.journal = s.store.journal ∧
      (∀ i, (t.wear.items.get i).total = (s.store.restored.getD ⟨0, 0, 0, 0, 0⟩).get i ∧
        (t.wear.items.get i).residual = 0 ∧ (t.wear.items.get i).evaluated = false ∧
        (t.wear.items.get i).level =
          levelOf (Settings.defaults.thresholds.get i) (t.wear.items.get i).total) ∧
      ∀ p, (t.ports.get p).cursors = .joined 0#10 ∧ (t.ports.get p).assembly = none ∧
        (t.ports.get p).holding = none ∧ (t.ports.get p).dataOut = none ∧
        (t.ports.get p).response = ⟨0#4, .ok, true, .selfCheck, 8#5, 0#16⟩ ∧ t.attention p = true ∧
        (∀ k, (t.ports.get p).hasNotice k = true ↔
          k = .runStateChange ∨ k = .storeEmpty ∧ s.store.restored = none) ∧
        (t.ports.get p).missed = 0#7 ∧ (t.ports.get p).latch = Cause.doorInterlock.bit ∧
        (t.ports.get p).counters = .zero ∧
        (∀ i, (t.ports.get p).codes.get i = wearCode (t.wear.items.get i).level false false) ∧
        (t.ports.get p).dump.status = .idle ∧ (t.ports.get p).dump.queue = [] ∧
        (t.ports.get p).dumpRange = ⟨0, 8192⟩)

/-- What the scan finds (R158): the newest valid record, the highest number of a slot that is not free, the slot after the
highest one of the active segment that is not free. A pair FFFFFFFFh carries no number, and a slot with it is no record: that a
right CRC does not make it one is the MODEL'S CHOICE (entry 39). The slots are those of both segments, free and valid as R149
gives; one of a segment whose erase was cut off is neither (entry 7), and the numbering of the words is the MODEL'S CHOICE
(entry 22). -/
def Obligations.ScanFindsNewestRecord : Prop :=
  ∀ x : Store,
    let slots := scanSlots x.journal x.cutErase
    let y := x.scanned
    ((∃ v ∈ slots, v.valid = true ∧ v.sequence ≠ 4294967295 ∧ x.restored = some v.totals ∧ y.active = v.segment ∧
        y.lastVerified = v.sequence ∧
        ∀ w ∈ slots, w.valid = true → w.sequence ≠ 4294967295 → w.sequence ≤ v.sequence) ∨
      (∀ v ∈ slots, v.valid = false ∨ v.sequence = 4294967295) ∧ x.restored = none ∧ y.active = .seg0 ∧ y.lastVerified = 0) ∧
    (∀ v ∈ slots, v.free = false → v.sequence ≠ 4294967295 → v.sequence ≤ y.lastUsed) ∧
    (y.lastUsed = 0 ∨
      ∃ v ∈ slots, v.free = false ∧ v.sequence ≠ 4294967295 ∧ y.lastUsed = v.sequence) ∧
    (∀ v ∈ slots, v.segment = y.active → v.free = false → v.slot < y.pos) ∧
    (y.pos = 0 ∨ ∃ v ∈ slots, v.segment = y.active ∧ v.free = false ∧ y.pos = v.slot + 1) ∧
    y.journal = x.journal ∧ y.cutErase = x.cutErase ∧ y.phase = .idle ∧ y.fault = false ∧ y.pendingFlag = false ∧
    y.current = noPorts ∧ y.waiting = noPorts ∧
    (∀ (g : Segment) (j : Nat), j < 32 → ∃ v ∈ slots, v.segment = g ∧ v.slot = j) ∧
    ∀ v ∈ slots, v.slot < 32 ∧
      v.words = (List.range 13).map (fun k => x.journal.read (416 * v.segment.number + 13 * v.slot + k)) ∧
      (v.free = true ↔ x.cutErase.get v.segment = false ∧ ∀ w ∈ v.words, w = 0xFFFF#16) ∧
      (v.valid = true ↔ x.cutErase.get v.segment = false ∧ v.free = false ∧ v.words[12]? ≠ some 0xFFFF#16 ∧
        v.words[12]? = some (serialCrc (v.words.take 12))) ∧
      TwoWords v.words[0]? v.words[1]? v.sequence ∧
      ∀ (k : Nat) (item : WearItem), itemOfNumber k = some item →
        TwoWords v.words[2 + 2 * k]? v.words[3 + 2 * k]? (v.totals.get item)

/-- A power failure keeps the journal, less what was in flight (R159; how much that was is an operand, entry 8, and a segment
whose erase was cut off is marked, entry 7); what is kept in RAM is gone (entry 9, MODEL'S CHOICE). -/
def Obligations.PowerFailureKeepsJournal : Prop :=
  ∀ (cut : WriteCut) (s : State), s.powered = true → ∃ t, exec (.powerFailure cut) s = .next t ∧
    t.powered = false ∧ s.CutOff cut t.store.journal t.store.cutErase ∧
    t = { State.reset with
      powered := false, freeCount := t.freeCount, pending := s.pending
      store := { Store.atPowerOn with journal := t.store.journal, cutErase := t.store.cutErase } }

/-- Without supply, and while the reset input is asserted, no command has an effect but those of the supply and of the reset
input (R7, R180; entries 9 and 10, MODEL'S CHOICE). -/
def Obligations.StoppedPartIgnoresCommands : Prop :=
  (∀ (c : Instr) (s : State), s.running = false → (∀ x, c ≠ .powerOn x) → (∀ x, c ≠ .resetLineRelease x) →
    (∀ x, c ≠ .powerFailure x) → exec c s = .next s) ∧
  (∀ (cut : WriteCut) (s : State), s.powered = false → exec (.powerFailure cut) s = .next s) ∧
  ∀ (straps : PerPort (BitVec 3)) (s : State), s.powered = false ∨ s.resetAsserted = false →
    exec (.resetLineRelease straps) s = .next s

/-- The assertion of the reset input stops the store, pulls the hold line low, and changes nothing else (R7, R54, R159).
That no attempts are counted then is the MODEL'S CHOICE (entry 20). -/
def Obligations.ResetAssertStopsStore : Prop :=
  ∀ (cut : WriteCut) (s : State), s.running = true → ∃ t, exec (.resetAssert cut) s = .next t ∧
    t.powered = true ∧ t.resetAsserted = true ∧ t.drivesHold = true ∧
    s.CutOff cut t.store.journal t.store.cutErase ∧
    t.store = { s.store with
      journal := t.store.journal, cutErase := t.store.cutErase, phase := .idle, record := none, attempts := 0
      pendingFlag := false, current := noPorts, waiting := noPorts, endAt := none } ∧
    Changes [.supply, .store, .free] s t

/-- What the release of the reset line forms anew and what it keeps (R5, R7, R14, R16, R41, R42, R61, R104, R122, R134, R142,
R159, R179, R180, R192). MODEL'S CHOICE: the clock goes on (entry 1), and no frame has been shifted out (entry 21). -/
def Obligations.ResetReleaseKeepsRam : Prop :=
  ∀ (straps : PerPort (BitVec 3)) (s : State), s.powered = true → s.resetAsserted = true →
    ∃ t, exec (.resetLineRelease straps) s = .next t ∧
      t.running = true ∧ t.now = s.now ∧ t.freeCount = s.freeCount ∧ t.pending = s.pending ∧
      t.rc.straps = straps ∧ t.rc.runState = .selfCheck ∧ t.rc.checkEnd = some (s.now + 2) ∧
      t.rc.checkDone = false ∧ t.rc.checkFail = false ∧ t.rc.checkStep = 0#2 ∧ t.rc.checkRequested = false ∧
      t.rc.staged = .defaults ∧ t.rc.applied = .defaults ∧ t.rc.claim = none ∧
      t.env = .atReset ∧ t.split = .atReset ∧ t.gen = .atReset ∧ t.cut.slipTimer = .idle ∧
      (∀ c, t.causeActive c = true ↔
        c = .doorInterlock ∨ c = .liningCritical ∧ isCritical s.wear.lining = true) ∧
      t.wear.lining = s.wear.lining ∧
      (∀ i, (t.wear.items.get i).total = (s.wear.items.get i).total ∧
        (t.wear.items.get i).residual = (s.wear.items.get i).residual ∧
        (t.wear.items.get i).evaluated = false ∧
        (t.wear.items.get i).level =
          levelOf (Settings.defaults.thresholds.get i) (s.wear.items.get i).total) ∧
      t.store = s.store.scanned ∧
      t.rcd.ring = s.rcd.ring ∧ t.rcd.next = s.rcd.next ∧ t.rcd.empty = s.rcd.empty ∧ t.rcd.level = .run ∧
      t.rcd.still = none ∧ t.rcd.due = none ∧
      (∀ id, t.rcd.table.get id =
        if (s.rcd.table.get id).state = .collecting then
          { s.rcd.table.get id with state := .complete, last := s.rcd.newest }
        else s.rcd.table.get id) ∧
      t.rcd.state = (if t.rcd.table.frozen then .frozen else .stopped) ∧
      ∀ p, (t.ports.get p).cursors = .joined 0#10 ∧ (t.ports.get p).assembly = none ∧
        (t.ports.get p).holding = none ∧
        (∀ k, (t.ports.get p).hasNotice k = true ↔
          k = .runStateChange ∨
            k = .snapshotComplete ∧ ∃ id, (s.rcd.table.get id).state = .collecting) ∧
        (t.ports.get p).response = ⟨0#4, .ok, true, .selfCheck, 8#5, 0#16⟩ ∧ (t.ports.get p).dataOut = none ∧
        t.attention p = true ∧ (t.ports.get p).missed = 0#7 ∧ (t.ports.get p).latch = t.cut.live ∧
        (t.ports.get p).counters = .zero ∧
        (∀ i, (t.ports.get p).codes.get i = wearCode (t.wear.items.get i).level false false) ∧
        (t.ports.get p).dump.status = .idle ∧ (t.ports.get p).dump.queue = [] ∧
        (t.ports.get p).dumpRange = ⟨0, 8192⟩

/-- The end of a self-check (R11, R14, R61, R93, R115, R117): the result record, SELF_CHECK_FAIL, the latch sets, HALTED and what
its entry brings; the slip hold timer (R53), and the hold line sampler's wait afresh (R55). MODEL'S CHOICE: the clock it leaves
(entry 2), which steps fail being an operand (entry 11), and what holdFrom and holdLevel keep (entry 23). DEDUCED: the entry to
HALTED after the raise of SELF_CHECK_FAIL, so that source is .notActive after a failure too (entry 12). -/
def Obligations.SelfCheckEndEntersHalted : Prop :=
  ∀ (f : StepFailures) (d : Nat) (s : State), s.running = true → s.rc.runState = .selfCheck →
    s.rc.checkEnd = some d → ∃ t, exec (.selfCheckEnd f) s = .next t ∧
      t.now = max s.now d ∧
      t.rc = { s.rc with
        runState := .halted, checkDone := true, checkEnd := none, checkFail := f.step0 || f.step1 || f.step2 || f.step3
        checkStep := if f.step0 then 0#2 else if f.step1 then 1#2 else if f.step2 then 2#2
          else if f.step3 then 3#2 else 0#2
        claim := t.rc.claim, staged := t.rc.staged } ∧
      s.ClaimDropped (fun q => s.roleOf q = none) t ∧
      t.causeActive .selfCheckFail = t.rc.checkFail ∧ t.drivesHold = t.rc.checkFail ∧
      t.causeActive .zoneBreach = (s.causeActive .zoneBreach && decide (s.gen.mgr = .off)) ∧ s.FaultTold t ∧
      (∀ c, c ≠ .selfCheckFail → c ≠ .wearStoreFault → c ≠ .zoneBreach → t.causeActive c = s.causeActive c) ∧
      t.cut = { s.cut with
        live := t.cut.live, slipTimer := if s.cut.slipTimer = .idle then .idle else .expired, holdFrom := t.now
        holdLevel := none } ∧
      (s.rc.checkRequested = false → s.gen.mgr = .off → ∀ p, (t.ports.get p).latch = t.cut.live) ∧
      (s.rc.checkRequested = true → s.CausesTold t) ∧ s.CutbackTold t ∧ t.AllNoticed .runStateChange ∧
      State.NoticesWithin [.runStateChange, .cutbackChange, .storeFault] s t ∧
      Store.Requested s.store t.store s.totals t.now ∧
      (∀ r, t.env.book.get r = { s.env.book.get r with deadline := none }) ∧ { t.env with book := s.env.book } = s.env ∧
      t.split = { s.split with
        tMc := 0, mode := .coast, pDisEff := 0, pChgEff := 0, hDrive := 0, hRegen := 0, lDrive := 0, lRegen := 0
        q := 0, grant := 0, friction := s.takenTRr, source := .notActive, valid := false, evalDue := none } ∧
      t.gen = { s.gen with
        mgr := .off, setpoint := 0, minRun := none, start := none, absExit := none
        minOff := if s.gen.mgr = .off then s.gen.minOff else some (t.now + s.rc.applied.tMinOff * 1000) } ∧
      (s.RecorderSettled → t.rcd = s.rcd) ∧ (∀ q, PortChanges [.assembly, .notices, .latch] s t q) ∧
      Changes [.clock, .runControl, .envelope, .cutback, .split, .genset, .store, .recorder, .ports] s t

/-- The hold line sampler (R42, R45, R46, R55, R166) and when the driver pulls the line (R54). That a level other than the
one taken last is taken 1 ms after that one, or after the driver's release, at the earliest, that the level taken last needs
no wait, and what holdFrom and holdLevel keep, is the MODEL'S CHOICE (entry 23). -/
def Obligations.HoldLineSampleSetsCause : Prop :=
  ∀ (level : LineLevel) (s : State), s.running = true →
    (s.drivesHold = true ↔ s.rc.runState = .selfCheck ∨ s.causeActive .selfCheckFail = true) ∧
    (s.drivesHold = true → exec (.holdLineSample level) s = .next s) ∧
    (s.drivesHold = false → ∃ t, exec (.holdLineSample level) s = .next t ∧
      (s.cut.holdLevel ≠ some level → t.now = max s.now (s.cut.holdFrom + 1)) ∧
      (s.cut.holdLevel = some level → t.now = max s.now s.cut.holdFrom) ∧
      t.cut = { s.cut with live := t.cut.live, holdFrom := t.now, holdLevel := some level } ∧ t.rc = s.rc ∧
      (t.causeActive .holdLine = true ↔ level = .low) ∧
      (∀ c, c ≠ .holdLine → t.causeActive c = s.causeActive c) ∧
      ((s.causeActive .holdLine = true ↔ level = .low) →
        t.cut.live = s.cut.live ∧ Changes [.clock, .cutback] s t) ∧
      s.CausesTold t ∧
      (level = .low → s.causeActive .holdLine = false →
        t.AllNoticed .cutbackChange ∧ (∀ p, CauseSet.has (t.ports.get p).latch .holdLine = true) ∧
        t.split = { s.split with
          tMc := 0, grant := 0, lDrive := 0, lRegen := 0, friction := s.takenTRr, source := .hardCause } ∧
        t.gen = { s.gen with setpoint := 0 } ∧ ((s.setNow t.now).trigger .holdLine).RecordedAs t ∧
        State.NoticesWithin [.cutbackChange, .snapshotComplete, .triggerMissed] s t ∧
        (∀ p, PortChanges [.notices, .missed, .latch] s t p) ∧
        Changes [.clock, .cutback, .split, .genset, .recorder, .ports] s t) ∧
      (level = .high → s.causeActive .holdLine = true →
        t.AllNoticed .cutbackChange ∧ (∀ p, (t.ports.get p).latch = (s.ports.get p).latch) ∧
        State.NoticesWithin [.cutbackChange] s t ∧ (∀ p, PortChanges [.notices] s t p) ∧
        Changes [.clock, .cutback, .ports] s t))

/-! ### The cutback unit -/

/-- What a raise and a clear do, and that neither does anything to a cause that already stands so (R42, R45, R46, R78); the hard
causes (R43) and the taken T_rr (R38). -/
def Obligations.CauseRaisedAndCleared : Prop :=
  ∀ (c : Cause) (s : State),
    (s.hardActive = true ↔
      s.causeActive .holdLine = true ∨ s.causeActive .selfCheckFail = true ∨ s.causeActive .linkTraction = true) ∧
    (s.takenTRr = if s.stale .brake = true then 0 else s.env.brake.tRr) ∧
    (s.causeActive c = true → s.raise c = s) ∧ (s.causeActive c = false → s.clear c = s) ∧
    (s.causeActive c = false →
      let t := s.raise c
      (∀ d, t.causeActive d = true ↔ s.causeActive d = true ∨ d = c) ∧
      (∀ p d, CauseSet.has (t.ports.get p).latch d = true ↔
        CauseSet.has (s.ports.get p).latch d = true ∨ d = c) ∧
      t.AllNoticed .cutbackChange ∧
      (c = .holdLine ∨ c = .selfCheckFail ∨ c = .linkTraction →
        t.gen = { s.gen with setpoint := 0 } ∧
        t.split = { s.split with
          tMc := 0, grant := 0, lDrive := 0, lRegen := 0, friction := s.takenTRr, source := .hardCause
          valid := if c = .linkTraction then false else s.split.valid }) ∧
      (c ≠ .holdLine → c ≠ .selfCheckFail → c ≠ .linkTraction → t.split = s.split ∧ t.gen = s.gen) ∧
      (match c with
        | .holdLine => s.trigger .holdLine
        | .linkTraction | .linkBrake | .linkStorage | .linkVehicle | .linkGenset => s.trigger .cutback
        | .slip => s.trigger .slipCut
        | .selfCheckFail | .doorInterlock | .liningCritical | .gensetStartFail | .zoneBreach
        | .wearStoreFault => s).RecordedAs t ∧
      t.cut = { s.cut with live := t.cut.live } ∧
      State.NoticesWithin [.cutbackChange, .snapshotComplete, .triggerMissed] s t ∧
      (∀ p, PortChanges [.notices, .missed, .latch] s t p) ∧
      Changes [.cutback, .split, .genset, .recorder, .ports] s t) ∧
    (s.causeActive c = true →
      let t := s.clear c
      (∀ d, t.causeActive d = true ↔ s.causeActive d = true ∧ d ≠ c) ∧ t.AllNoticed .cutbackChange ∧
      t.cut = { s.cut with live := t.cut.live } ∧ State.NoticesWithin [.cutbackChange] s t ∧
      Changes [.cutback, .ports] s t ∧ ∀ p, PortChanges [.notices] s t p)

/-- R44: the headline, and what every response frame carries beside its answer. -/
def Obligations.HeadlineShowsLowestCause : Prop :=
  (∀ live : CauseSet, (∀ c, CauseSet.has live c = false) → headline live = 31#5) ∧
  (∀ (live : CauseSet) (c : Cause), CauseSet.has live c = true →
    (∀ d, CauseSet.has live d = true → c.code ≤ d.code) → headline live = BitVec.ofNat 5 c.code) ∧
  (∀ (i : Instr) (p : Port) (s : State), i.port = some p → s.running = true → ∃ t, exec i s = .next t ∧
    (t.ports.get p).response.headline = headline t.cut.live ∧
    (t.ports.get p).response.runState = t.rc.runState ∧
    (t.ports.get p).response.attention = t.attention p) ∧
  ∀ (p : Port) (s : State), ∃ t, exec (.poll p) s = .next t ∧ t.cut = s.cut

/-! ### Frames -/

/-- POLL and the answers HOLD and BADFRAME (R180, R181, R183). The payload 0 of the answer to a bad frame is the MODEL'S CHOICE
(entry 38). -/
def Obligations.PollHoldAndBadFrame : Prop :=
  (∀ (p : Port) (s : State), s.running = true → ∃ t, exec (.poll p) s = .next t ∧
    Answered s t p 0#4 .ok 0#16 ∧ NoEffect s t p) ∧
  (∀ (i : Instr) (p : Port) (command : BitVec 4) (s : State), heldFrame i = some (p, command) →
    s.running = true → s.rc.runState = .selfCheck → ∃ t, exec i s = .next t ∧
    Answered s t p command .hold 0#16 ∧ NoEffect s t p) ∧
  (∀ (p : Port) (echoed : BitVec 4) (s : State), s.running = true →
    (∃ t, exec (.badframe p echoed) s = .next t ∧ Answered s t p echoed .badframe 0#16 ∧ NoEffect s t p) ∧
    ∃ t, exec (.brokenExchange p) s = .next t ∧ Answered s t p 0#4 .badframe 0#16 ∧ NoEffect s t p) ∧
  (∀ (i : Instr) (p : Port) (s : State), i.port = some p → s.running = true → ∃ t, exec i s = .next t ∧
    ((t.ports.get p).response.result = .hold → (t.ports.get p).cursors = (s.ports.get p).cursors ∧
      (s.rc.runState = .selfCheck ∨
        (∃ advance, IsRead i p advance) ∧ (s.ports.get p).cursors.readAddress = 0x140#10)))

/-- A CURSOR frame sets the joined cursor, or the one that payload bit 0 names; a move of the write cursor discards an
assembly (R26, R184). -/
def Obligations.CursorFrameMovesCursor : Prop :=
  ∀ (p : Port) (a : Address) (w : Word) (s : State), s.Listening → ∃ t, exec (.cursor p a w) s = .next t ∧
    Answered s t p 1#4 .ok (a.setWidth 16) ∧
    (∀ b, (s.ports.get p).cursors = .joined b →
      (t.ports.get p).cursors = .joined a ∧ (t.ports.get p).assembly = none) ∧
    (∀ b c, (s.ports.get p).cursors = .split b c → w.getLsbD 0 = true →
      (t.ports.get p).cursors = .split b a ∧ (t.ports.get p).assembly = none) ∧
    (∀ b c, (s.ports.get p).cursors = .split b c → w.getLsbD 0 = false →
      (t.ports.get p).cursors = .split a c ∧ (t.ports.get p).assembly = (s.ports.get p).assembly) ∧
    OnlyPort [.cursors, .assembly, .frame] s t p

/-- R186: CURSOR_MODE. -/
def Obligations.CursorModeSwitches : Prop :=
  (∀ (p : Port) (operand : BitVec 5), requestRow p 13#5 operand = some (.cursorMode p operand)) ∧
  (∀ (p : Port) (s : State), s.Listening →
    (∃ t, exec (.cursorMode p 0#5) s = .next t ∧ Answered s t p 4#4 .ok 0#16 ∧
      OnlyPort [.cursors, .frame] s t p ∧
      (∀ a, (s.ports.get p).cursors = .joined a → (t.ports.get p).cursors = .joined a) ∧
      (∀ r w, (s.ports.get p).cursors = .split r w → (t.ports.get p).cursors = .joined w)) ∧
    (∃ t, exec (.cursorMode p 1#5) s = .next t ∧ Answered s t p 4#4 .ok 1#16 ∧
      OnlyPort [.cursors, .frame] s t p ∧
      (∀ a, (s.ports.get p).cursors = .joined a → (t.ports.get p).cursors = .split a a) ∧
      (∀ r w, (s.ports.get p).cursors = .split r w → (t.ports.get p).cursors = .split r w)) ∧
    ∀ operand : BitVec 5, 1 < operand.toNat → ∃ t, exec (.cursorMode p operand) s = .next t ∧
      Answered s t p 4#4 .value 0#16 ∧ NoEffect s t p)

/-- The cursor a READ or WRITE used advances when the advance bit is set and the answer is OK, and from 1023 to 0; no other
frame but CURSOR and CURSOR_MODE changes a cursor (R184, R185). -/
def Obligations.CursorAdvancesAfterOk : Prop :=
  (∀ (i : Instr) (p : Port) (advance : Bool) (s : State), IsRead i p advance → s.Listening →
    ∃ t, exec i s = .next t ∧
      (advance = true → (t.ports.get p).response.result = .ok →
        (∀ a, (s.ports.get p).cursors = .joined a → (t.ports.get p).cursors = .joined (a + 1#10)) ∧
        ∀ r w, (s.ports.get p).cursors = .split r w → (t.ports.get p).cursors = .split (r + 1#10) w) ∧
      (advance = false ∨ (t.ports.get p).response.result ≠ .ok →
        (t.ports.get p).cursors = (s.ports.get p).cursors)) ∧
  (∀ (i : Instr) (p : Port) (advance : Bool) (word : Word) (s : State), IsWrite i p advance word →
    s.Listening → ∃ t, exec i s = .next t ∧
      (advance = true → (t.ports.get p).response.result = .ok →
        (∀ a, (s.ports.get p).cursors = .joined a → (t.ports.get p).cursors = .joined (a + 1#10)) ∧
        ∀ r w, (s.ports.get p).cursors = .split r w → (t.ports.get p).cursors = .split r (w + 1#10)) ∧
      (advance = false ∨ (t.ports.get p).response.result ≠ .ok →
        (t.ports.get p).cursors = (s.ports.get p).cursors)) ∧
  (1023#10 + 1#10 = 0#10) ∧
  ∀ (i : Instr) (p : Port) (s : State), i.port = some p → leavesCursors i = true → s.running = true →
    ∃ t, exec i s = .next t ∧ (t.ports.get p).cursors = (s.ports.get p).cursors

/-- A capture takes the whole record into the holding buffer and answers from it; the counter, latch, notice and wear status
records have their side effect on the reading port alone (R58, R127, R143, R188, R191). -/
def Obligations.CaptureTakesRecord : Prop :=
  ∀ (i : Instr) (p : Port) (advance : Bool) (r : RecordId) (s : State), IsRead i p advance → s.Listening →
    recordAt (s.ports.get p).cursors.readAddress.toNat = some r →
    (s.ports.get p).cursors.readAddress.toNat = r.base ∨ (∀ ws, (s.ports.get p).holding ≠ some ⟨r, ws⟩) →
    ∃ t, exec i s = .next t ∧
      Answered s t p 2#4 .ok
        ((s.recordWords p r).getD ((s.ports.get p).cursors.readAddress.toNat - r.base) 0#16) ∧
      (s.recordWords p r).length = r.length ∧
      (t.ports.get p).holding = some ⟨r, s.recordWords p r⟩ ∧
      (t.ports.get p).counters = (if r = .counters then .zero else (s.ports.get p).counters) ∧
      (t.ports.get p).latch = (if r = .latch then s.cut.live else (s.ports.get p).latch) ∧
      (t.ports.get p).notices = (if r = .notice then 0#13 else (s.ports.get p).notices) ∧
      (t.ports.get p).missed = (if r = .notice then 0#7 else (s.ports.get p).missed) ∧
      (r = .notice → t.attention p = false) ∧
      (∀ item, (t.ports.get p).codes.get item =
        if r = .wearStatus then s.wearStatus item else (s.ports.get p).codes.get item) ∧
      OnlyPort [.cursors, .holding, .frame, .notices, .missed, .latch, .counters, .codes] s t p

/-- A READ that captures nothing: a word the holding buffer has, a word read as it stands, an address that holds no word
(R128, R187, R188). -/
def Obligations.ReadWithoutCapture : Prop :=
  ∀ (i : Instr) (p : Port) (advance : Bool) (s : State), IsRead i p advance → s.Listening →
    let a := (s.ports.get p).cursors.readAddress.toNat
    (∀ r ws, recordAt a = some r → a ≠ r.base → (s.ports.get p).holding = some ⟨r, ws⟩ →
      ∃ t, exec i s = .next t ∧ Answered s t p 2#4 .ok (ws.getD (a - r.base) 0#16) ∧
        OnlyPort [.cursors, .frame] s t p) ∧
    (∀ w, recordAt a = none → a ≠ 0x140 → s.plainWord p a = some w →
      ∃ t, exec i s = .next t ∧ Answered s t p 2#4 .ok w ∧ OnlyPort [.cursors, .frame] s t p) ∧
    (recordAt a = none → a ≠ 0x140 → s.plainWord p a = none →
      ∃ t, exec i s = .next t ∧ Answered s t p 2#4 .access 0#16 ∧ NoEffect s t p) ∧
    ((0x0B ≤ a ∧ a < 0x10) ∨ (0x38 ≤ a ∧ a < 0x40) ∨ (0xAB ≤ a ∧ a < 0xC0) ∨
        (0xD4 ≤ a ∧ a < 0x100) ∨ (0x110 ≤ a ∧ a < 0x140) ∨ (0x141 ≤ a ∧ a < 0x200) →
      ∃ t, exec i s = .next t ∧ Answered s t p 2#4 .access 0#16 ∧ NoEffect s t p)

/-- R177: READs of the dump stream. -/
def Obligations.DumpStreamAnswers : Prop :=
  (∀ (i : Instr) (p : Port) (advance : Bool) (s : State), IsRead i p advance → s.Listening →
    (s.ports.get p).cursors.readAddress = 0x140#10 →
    let d := (s.ports.get p).dump
    (∀ w rest, d.queue = w :: rest → ∃ t, exec i s = .next t ∧ Answered s t p 2#4 .ok w ∧
      OnlyPort [.cursors, .frame, .dump] s t p ∧
      (∀ x, d.status = .streaming → rest.length + 10 ≤ 16 → d.next ≤ d.last → d.next < s.rcd.next →
        s.rcd.sampleNumber d.next = some x →
        (t.ports.get p).dump = { d with
          queue := rest ++ x.words, next := d.next + 1
          status := if d.next = d.last then .ended else .streaming
          reason := if d.next = d.last then some .done else d.reason }) ∧
      (d.status ≠ .streaming ∨ 6 < rest.length ∨ d.last < d.next ∨ s.rcd.next ≤ d.next →
        (t.ports.get p).dump = { d with queue := rest })) ∧
    (d.queue = [] → ∃ t, exec i s = .next t ∧ NoEffect s t p ∧
      (d.status = .streaming → Answered s t p 2#4 .hold 0#16) ∧
      (d.status = .ended → d.reason = some .done → Answered s t p 2#4 .end_ 1#16) ∧
      (d.status = .ended → d.reason = some .lost → Answered s t p 2#4 .end_ 2#16) ∧
      (d.status = .ended → d.reason = some .cancelled → Answered s t p 2#4 .end_ 3#16) ∧
      (d.status = .idle → Answered s t p 2#4 .end_ 0#16))) ∧
  (∀ (i : Instr) (p : Port) (advance : Bool) (word : Word) (s : State), IsWrite i p advance word →
    s.Listening → (s.ports.get p).cursors.writeAddress = 0x140#10 → ∃ t, exec i s = .next t ∧
    Answered s t p 3#4 .access 0#16 ∧ OnlyPort [.assembly, .frame] s t p) ∧
  (∀ (i : Instr) (p : Port) (advance : Bool) (s : State), IsRead i p advance → s.running = true →
    s.rc.runState = .selfCheck → ∃ t, exec i s = .next t ∧ Answered s t p 2#4 .hold 0#16 ∧ NoEffect s t p) ∧
  ∀ (x : Recorder) (k : Nat), (∀ y, x.sampleNumber k = some y → y ∈ x.ring ∧ y.number = k) ∧
    (x.sampleNumber k = none → ∀ y ∈ x.ring, y.number ≠ k)

/-- R199: the identification words; and the role binding table that the binding record shows (R1 to R4). -/
def Obligations.IdentificationWordsRead : Prop :=
  (∀ (straps : PerPort (BitVec 3)) (p : Port),
    (∀ r : Role, boundRole straps p = some r ↔ straps.get p = r.strap ∧ ∀ q, q ≠ p → straps.get q ≠ r.strap) ∧
    (strapInvalid straps p = true ↔ straps.get p = 6#3 ∨ straps.get p = 7#3) ∧
    (strapDuplicate straps p = true ↔ ∃ (r : Role) (q : Port), q ≠ p ∧ straps.get p = r.strap ∧ straps.get q = r.strap) ∧
    (bindingComplete straps = true ↔ ∀ r, ∃ q, boundRole straps q = some r)) ∧
  (∀ (s : State) (p : Port), s.roleOf p = boundRole s.rc.straps p) ∧
  ([Role.vehicle, .genset, .storage, .traction, .brake].map Role.strap = [1#3, 2#3, 3#3, 4#3, 5#3]) ∧
  ∀ (i : Instr) (p : Port) (advance : Bool) (s : State), IsRead i p advance →
    let a := (s.ports.get p).cursors.readAddress.toNat
    (s.Listening →
      (a = 0 → ∃ t, exec i s = .next t ∧ Answered s t p 2#4 .ok 0x4D50#16) ∧
      (a = 1 → ∃ t, exec i s = .next t ∧ Answered s t p 2#4 .ok 0x0208#16) ∧
      (a = 2 → ∃ t, exec i s = .next t ∧ Answered s t p 2#4 .ok 0x0001#16) ∧
      (a = 3 → ∃ t, exec i s = .next t ∧ Answered s t p 2#4 .ok 0x0001#16) ∧
      (∀ q : Port, a = 4 + q.number → ∃ t w, exec i s = .next t ∧ Answered s t p 2#4 .ok w ∧
        w.extractLsb' 0 3 = s.rc.straps.get q ∧
        w.extractLsb' 3 3 = ((s.roleOf q).map Role.strap).getD 0#3 ∧
        w.getLsbD 6 = strapInvalid s.rc.straps q ∧ w.getLsbD 7 = strapDuplicate s.rc.straps q) ∧
      (a = 9 → ∃ t w, exec i s = .next t ∧ Answered s t p 2#4 .ok w ∧
        w.getLsbD 0 = bindingComplete s.rc.straps ∧ w.getLsbD 1 = s.drivesHold ∧
        (w.extractLsb' 4 3).toNat = (s.rc.claim.map Port.number).getD 7) ∧
      (a = 10 → ∃ t w, exec i s = .next t ∧ Answered s t p 2#4 .ok w ∧ w.getLsbD 15 = s.rc.checkDone ∧
        w.getLsbD 14 = s.rc.checkFail ∧ w.extractLsb' 0 2 = s.rc.checkStep) ∧
      (11 ≤ a ∧ a ≤ 15 → ∃ t, exec i s = .next t ∧ Answered s t p 2#4 .access 0#16)) ∧
    (s.running = true → s.rc.runState = .selfCheck → ∃ t, exec i s = .next t ∧
      Answered s t p 2#4 .hold 0#16)

/-- A response frame has even parity and its fields at the bits of R194 (R181, R182); the words of report and settings
regions show the held fields and the settings (R16, R23, R198); the packed words of the records hold their fields at the
bits of R196 and R197 (R58, R79, R80, R81, R94, R121, R127, R143, R147, R150, R173, R178, R191), with the codes of R43, R87,
R166, R182, R190 and R193 and the record map of R195. That 0CFh reads 0 is the MODEL'S CHOICE (entry 18). -/
def Obligations.LayoutsShowFields : Prop :=
  (∀ r : Response, bitParity r.frame = false ∧ r.frame.extractLsb' 28 4 = r.command ∧
    r.frame.extractLsb' 25 3 = r.result.code ∧ r.frame.getLsbD 24 = r.attention ∧
    r.frame.extractLsb' 22 2 = r.runState.code ∧ r.frame.extractLsb' 17 5 = r.headline ∧
    r.frame.extractLsb' 1 16 = r.payload) ∧
  (∀ x : Int, -32768 ≤ x → x ≤ 32767 → (wordOf x).toInt = x) ∧ (∀ n : Nat, n ≤ 65535 → (wordOfNat n).toNat = n) ∧
  ([RunState.selfCheck, .halted, .standby, .active].map RunState.code = [0#2, 1#2, 2#2, 3#2] ∧
    [SplitMode.coast, .drive, .braking].map SplitMode.code = [0#2, 1#2, 2#2] ∧
    [some Direction.neutral, some .forward, some .reverse, none].map pendingCode = [0#2, 1#2, 2#2, 3#2] ∧
    [Direction.neutral, .forward, .reverse].map Direction.code = [0#2, 1#2, 2#2] ∧
    [DoorState.closed, .opened, .unknown].map DoorState.code = [0, 1, 2] ∧
    [GensetState.off, .cranking, .warmup, .ready, .cooldown, .fault].map GensetState.code = [0, 1, 2, 3, 4, 5] ∧
    [ManagerState.off, .startRequested, .run, .absorb, .stopRequested].map ManagerState.code =
      [0#3, 1#3, 2#3, 3#3, 4#3] ∧
    [SamplingLevel.run, .rest1, .rest2].map SamplingLevel.code = [0#2, 1#2, 2#2] ∧
    [RecorderState.stopped, .recording, .frozen].map RecorderState.code = [0#2, 1#2, 2#2] ∧
    [DescriptorState.free, .collecting, .complete, .overwritten].map DescriptorState.code = [0#2, 1#2, 2#2, 3#2] ∧
    [ThermalLevel.normal, .warm, .hot, .critical].map ThermalLevel.code = [0, 1, 2, 3] ∧
    [WearCode.limit, .stale, .warn2, .warn1, .ok, .notEvaluated].map WearCode.code = [1, 2, 3, 4, 5, 6]) ∧
  ([Role.vehicle, .genset, .storage, .traction, .brake].map Role.index = [0, 1, 2, 3, 4] ∧
    [Role.vehicle, .genset, .storage, .traction, .brake].map linkCause =
      [.linkVehicle, .linkGenset, .linkStorage, .linkTraction, .linkBrake] ∧
    (List.range 5).map itemOfNumber =
      [some .liningFront, some .liningMid, some .liningRear, some .battery, some .gensetStarts] ∧
    (∀ k, 5 ≤ k → itemOfNumber k = none) ∧
    [Cause.holdLine, .selfCheckFail, .linkTraction, .linkBrake, .linkStorage, .linkVehicle, .linkGenset, .slip,
      .doorInterlock, .liningCritical, .gensetStartFail, .zoneBreach, .wearStoreFault].map Cause.code = List.range 13 ∧
    [NoticeKind.cutbackChange, .wearLevel, .thermalLevel, .snapshotComplete, .snapshotOverwritten, .triggerMissed,
      .checkpointDone, .storeFault, .storeEmpty, .runStateChange, .gensetEvent, .settingsApplied,
      .zoneBreach].map NoticeKind.code = List.range 13 ∧
    [TriggerCause.harshBrake, .slipCut, .cutback, .holdLine, .wearLevel, .gensetFail, .manual].map TriggerCause.code =
      List.range 7) ∧
  ([Result.ok, .hold, .end_, .badframe, .access, .state, .claimed, .value].map Result.code =
      [0#3, 1#3, 2#3, 3#3, 4#3, 5#3, 6#3, 7#3] ∧
    [RegenSource.notActive, .hardCause, .notBraking, .notForward, .slip, .fade, .power, .generator].map RegenSource.code =
      [0#3, 1#3, 2#3, 3#3, 4#3, 5#3, 6#3, 7#3] ∧
    (∀ e, [SlipTimer.idle, .running e, .expired].map SlipTimer.code = [0#2, 1#2, 2#2]) ∧
    [StorePhase.idle, .writing, .erasing].map StorePhase.code = [0#2, 1#2, 2#2] ∧
    [DumpStatus.idle, .streaming, .ended].map DumpStatus.code = [0#2, 1#2, 2#2]) ∧
  (∀ x ∈ recordTable, x.1.base = x.2.1 ∧ x.1.length = x.2.2) ∧
  (∀ (a : Nat) (r : RecordId), recordAt a = some r ↔ r.base ≤ a ∧ a < r.base + r.length) ∧
  ∀ (p : Port) (s : State),
    (let x := s.env
     (List.range 6).map (fun k => s.plainWord p (0x10 + k)) =
        [some (wordOf x.vehicle.tDrv), some (wordOf x.vehicle.pAux), some (x.vehicle.direction.code.setWidth 16),
          some (wordOfNat x.vehicle.door.code), some (if x.vehicle.zone = true then 1#16 else 0#16),
          some (wordOf x.vehicle.ambient)] ∧
      (List.range 6).map (fun k => s.plainWord p (0x18 + k)) =
        [some (wordOfNat x.genset.state.code), some (wordOf x.genset.pGs), some (wordOf x.genset.pGsAvail),
          some (wordOf x.genset.pAbsMax), none, none] ∧
      (List.range 6).map (fun k => s.plainWord p (0x20 + k)) =
        [some (wordOf x.storage.soc), some (wordOf x.storage.pDisRep), some (wordOf x.storage.pChgRep),
          some (wordOf x.storage.pBat), some (wordOf x.storage.temperature), none] ∧
      (List.range 6).map (fun k => s.plainWord p (0x28 + k)) =
        [some (wordOf x.traction.n), some (wordOf x.traction.tMotMax), some (wordOf x.traction.tGenMax), none, none,
          none] ∧
      (List.range 6).map (fun k => s.plainWord p (0x30 + k)) =
        [some (wordOf x.brake.v), some (wordOf x.brake.tRr), some (if x.brake.slip = true then 1#16 else 0#16),
          some (wordOf x.brake.pfFront), some (wordOf x.brake.pfMid), some (wordOf x.brake.pfRear)]) ∧
    (∀ o, o < 0x100 →
      (∀ k, settingAt o = some (.one k) → s.plainWord p (0x200 + o) = some (wordOfNat (s.rc.staged.get k)) ∧
        s.plainWord p (0x300 + o) = some (wordOfNat (s.rc.applied.get k))) ∧
      (∀ k, settingAt o = some (.high k) →
        (s.rc.staged.getWide k ≤ 4294967295 →
          TwoWords (s.plainWord p (0x200 + o)) (s.plainWord p (0x201 + o)) (s.rc.staged.getWide k)) ∧
        (s.rc.applied.getWide k ≤ 4294967295 →
          TwoWords (s.plainWord p (0x300 + o)) (s.plainWord p (0x301 + o)) (s.rc.applied.getWide k))) ∧
      (settingAt o = none → s.plainWord p (0x200 + o) = none ∧ s.plainWord p (0x300 + o) = none)) ∧
    (∃ w : Word, (s.recordWords p .status).head? = some w ∧ w.extractLsb' 14 2 = s.rc.runState.code ∧
      w.extractLsb' 12 2 = s.split.mode.code ∧ w.extractLsb' 10 2 = s.split.dir.code ∧
      w.extractLsb' 8 2 = pendingCode s.split.pendingDir ∧ w.extractLsb' 0 8 = 0#8) ∧
    ((s.recordWords p .status).tail.take 9 =
      [wordOf s.split.tMc, wordOf s.split.q, wordOf s.split.lDrive, wordOf s.split.lRegen, wordOf s.split.hDrive,
        wordOf s.split.hRegen, wordOf s.split.pDisEff, wordOf s.split.pChgEff, s.cut.live.setWidth 16]) ∧
    (∃ w : Word, (s.recordWords p .status)[10]? = some w ∧ (∀ r : Role, w.getLsbD r.index = s.stale r) ∧
      w.extractLsb' 5 11 = 0#11) ∧
    ((s.recordWords p .status)[11]? = some s.split.evalCount) ∧
    ((s.recordWords p .traction)[0]? = some (wordOf (if s.split.dir = .reverse then -s.split.tMc else s.split.tMc))) ∧
    ((s.recordWords p .traction)[1]? = some (s.split.dir.code.setWidth 16)) ∧
    (∃ w : Word, (s.recordWords p .traction)[2]? = some w ∧ w.getLsbD 0 = s.split.valid) ∧
    (s.recordWords p .storage =
      [wordOf s.split.pDisEff, wordOf s.split.pChgEff, wordOfNat s.wear.items.battery.level]) ∧
    ((s.recordWords p .brake).take 2 = [wordOf s.split.grant, wordOf s.split.friction]) ∧
    (∃ w : Word, (s.recordWords p .brake)[2]? = some w ∧ w.extractLsb' 13 3 = s.split.source.code ∧
      (0 ≤ s.split.lRegen → s.split.lRegen ≤ 3000 → ((w.extractLsb' 0 12).toNat : Int) = s.split.lRegen)) ∧
    (∃ w : Word, (s.recordWords p .brake)[3]? = some w ∧ w.getLsbD 15 = s.causeActive .slip ∧
      w.extractLsb' 0 2 = s.cut.slipTimer.code) ∧
    ShowsThermal s (s.recordWords p .brake)[4]? ∧
    ((s.recordWords p .brake)[5]? = some s.split.evalCount) ∧
    (∃ w : Word, (s.recordWords p .genset)[0]? = some w ∧
      w.getLsbD 15 = decide (s.gen.mgr = .startRequested ∨ s.gen.mgr = .run ∨ s.gen.mgr = .absorb) ∧
      w.extractLsb' 0 3 = s.gen.mgr.code) ∧
    ((s.recordWords p .genset).tail.take 2 = [wordOf s.gen.setpoint, wordOf s.gen.dAvg]) ∧
    (∃ w : Word, (s.recordWords p .genset)[3]? = some w ∧ w.getLsbD 15 = s.gen.inhibit ∧
      w.extractLsb' 0 4 = BitVec.ofNat 4 s.gen.failCount) ∧
    ((s.recordWords p .genset)[4]? = some s.split.evalCount) ∧
    (let c := (s.ports.get p).counters
     (∀ (k : Nat) (f : Flow), [c.motor, c.aux, c.gs, c.bat, c.fric][k]? = some f →
       ∃ h l : Word, (s.recordWords p .counters)[2 * k]? = some h ∧ (s.recordWords p .counters)[2 * k + 1]? = some l ∧
         h ++ l = BitVec.ofInt 32 f.joules) ∧
     ∃ w : Word, (s.recordWords p .counters)[10]? = some w ∧
       w.getLsbD 0 = c.motor.saturated ∧ w.getLsbD 1 = c.aux.saturated ∧ w.getLsbD 2 = c.gs.saturated ∧
       w.getLsbD 3 = c.bat.saturated ∧ w.getLsbD 4 = c.fric.saturated) ∧
    (s.recordWords p .latch = [(s.ports.get p).latch.setWidth 16, s.cut.live.setWidth 16]) ∧
    (s.recordWords p .notice = [(s.ports.get p).notices.setWidth 16, (s.ports.get p).missed.setWidth 16]) ∧
    (∀ (k : Nat) (item : WearItem), itemOfNumber k = some item →
      ∃ v w : Word, s.recordWords p .wearStatus = [v, w] ∧
        (v.extractLsb' (3 * k) 3).toNat = ((s.ports.get p).codes.get item).code ∧
        (w.extractLsb' (3 * k) 3).toNat = (s.wearStatus item).code) ∧
    (let d := (s.ports.get p).dump
     (∃ w : Word, (s.recordWords p .dumpContext)[0]? = some w ∧ w.extractLsb' 14 2 = d.status.code ∧
       w.extractLsb' 12 2 = (match d.reason with
         | none => 0#2
         | some .done => 1#2
         | some .lost => 2#2
         | some .cancelled => 3#2) ∧
       (∀ id, d.source = .descriptor id → w.getLsbD 11 = false ∧ w.extractLsb' 0 2 = id) ∧
       (∀ bits, d.source = .range bits → w.getLsbD 11 = true)) ∧
     (d.next ≤ 4294967295 →
       TwoWords (s.recordWords p .dumpContext)[1]? (s.recordWords p .dumpContext)[2]? d.next) ∧
     (d.last ≤ 4294967295 →
       TwoWords (s.recordWords p .dumpContext)[3]? (s.recordWords p .dumpContext)[4]? d.last) ∧
     (s.recordWords p .dumpContext)[5]? = some (wordOfNat d.queue.length)) ∧
    (let d := (s.ports.get p).dumpRange
     (d.first ≤ 4294967295 → TwoWords (s.plainWord p 0xA8) (s.plainWord p 0xA9) d.first) ∧
     s.plainWord p 0xAA = some (wordOfNat d.count)) ∧
    (∀ r : Role,
      (∃ w : Word, s.plainWord p (0x16 + 8 * r.index) = some w ∧ w.getLsbD 15 = (s.env.book.get r).received ∧
        w.getLsbD 14 = s.stale r ∧ w.getLsbD 13 = (s.env.book.get r).clamped ∧
        w.extractLsb' 0 6 = (s.env.book.get r).clampedSet) ∧
      ((s.env.book.get r).commitAt = none → s.plainWord p (0x17 + 8 * r.index) = some 0xFFFF#16) ∧
      ∀ c, (s.env.book.get r).commitAt = some c →
        s.plainWord p (0x17 + 8 * r.index) = some (wordOfNat (min 65535 (s.now - c)))) ∧
    (∀ (k : Nat) (item : WearItem), itemOfNumber k = some item →
      ((s.wear.items.get item).total ≤ 4294967295 →
        TwoWords (s.plainWord p (0xC0 + 2 * k)) (s.plainWord p (0xC1 + 2 * k)) (s.wear.items.get item).total) ∧
      ∃ w : Word, s.plainWord p 0xCA = some w ∧
        ((s.wear.items.get item).level ≤ 3 → (w.extractLsb' (2 * k) 2).toNat = (s.wear.items.get item).level)) ∧
    (s.plainWord p 0xCB = some (wordOf (s.wear.lining.front.fine.tdiv 256)) ∧
      s.plainWord p 0xCC = some (wordOf (s.wear.lining.middle.fine.tdiv 256)) ∧
      s.plainWord p 0xCD = some (wordOf (s.wear.lining.rear.fine.tdiv 256))) ∧
    ShowsThermal s (s.plainWord p 0xCE) ∧ s.plainWord p 0xCF = some 0#16 ∧
    (∃ w : Word, s.plainWord p 0xD0 = some w ∧ w.extractLsb' 0 2 = s.store.phase.code ∧
      w.getLsbD 4 = s.store.fault ∧ w.getLsbD 5 = s.store.pendingFlag ∧
      w.getLsbD 8 = decide (s.store.active = .seg1)) ∧
    s.plainWord p 0xD1 = some (wordOfNat s.store.pos) ∧
    (s.store.lastVerified ≤ 4294967295 → TwoWords (s.plainWord p 0xD2) (s.plainWord p 0xD3) s.store.lastVerified) ∧
    (s.rcd.newest ≤ 4294967295 →
      TwoWords (s.recordWords p .snapshots)[0]? (s.recordWords p .snapshots)[1]? s.rcd.newest) ∧
    (∃ w : Word, (s.recordWords p .snapshots)[2]? = some w ∧ w.extractLsb' 14 2 = s.rcd.state.code ∧
      w.extractLsb' 12 2 = s.rcd.level.code ∧ w.getLsbD 11 = s.rcd.empty) ∧
    (∀ id : BitVec 2, let d := s.rcd.table.get id
      (∃ w : Word, (s.recordWords p .snapshots)[3]? = some w ∧ w.extractLsb' (2 * id.toNat) 2 = d.state.code) ∧
      (∃ w : Word, (s.recordWords p .snapshots)[4 + 3 * id.toNat]? = some w ∧
        (w.extractLsb' 13 3).toNat = d.cause.code ∧
        (w.extractLsb' 0 13).toNat = min 8191 (s.rcd.newest - d.trigger)) ∧
      (∃ w : Word, (s.recordWords p .snapshots)[5 + 3 * id.toNat]? = some w ∧
        (d.trigger - d.first ≤ 4095 → (w.extractLsb' 4 12).toNat = d.trigger - d.first) ∧
        (d.retriggers ≤ 255 → (w.extractLsb' 0 4).toNat = d.retriggers / 16)) ∧
      ∃ w : Word, (s.recordWords p .snapshots)[6 + 3 * id.toNat]? = some w ∧
        (d.last - d.trigger ≤ 4095 → (w.extractLsb' 4 12).toNat = d.last - d.trigger) ∧
        (w.extractLsb' 0 4).toNat = d.retriggers % 16) ∧
    ∀ x : Sample, x.words.length = 10 ∧ (x.number ≤ 4294967295 → TwoWords x.words[0]? x.words[1]? x.number) ∧
      (x.words.drop 2).take 6 = [wordOf x.v, wordOf x.n, wordOf x.tMc, wordOf x.tRr, wordOf x.pGs, wordOf x.soc] ∧
      x.words[8]? = some (x.causes.setWidth 16) ∧
      ∃ w : Word, x.words[9]? = some w ∧ w.extractLsb' 14 2 = x.runState.code ∧ w.extractLsb' 12 2 = x.mode.code ∧
        w.extractLsb' 9 3 = x.mgr.code ∧ w.extractLsb' 7 2 = x.dir.code ∧ w.extractLsb' 5 2 = x.level.code

/-- Parity and bad frames (R181; the payload 0 of BADFRAME: entry 38, MODEL'S CHOICE), and reading back the frame a controller
sends for a command gives the command, every operand kept, when the READs and
WRITEs are the rows that the cursors say (R189, R194; entries 3 and 4). -/
def Obligations.FrameRoundTrip : Prop :=
  (∀ (i : Instr) (p : Port) (f : Frame) (readAt writeAt : Address), encodeFrame i = some f → i.port = some p →
    (∀ advance, IsRead i p advance → i = readRow p readAt advance) →
    (∀ advance word, IsWrite i p advance word → i = writeRow p writeAt advance word) →
    decodeFrame p readAt writeAt f = i ∧
      ((∀ echoed, i ≠ .badframe p echoed) → bitParity f = false)) ∧
  (∀ (p : Port) (f : Frame) (readAt writeAt : Address),
    bitParity f = true ∨ 4 < f.command.toNat ∨ f.command = 4#4 ∧ 13 < f.requestCode.toNat →
    decodeFrame p readAt writeAt f = .badframe p f.command) ∧
  (∀ (p : Port) (echoed : BitVec 4) (s : State), s.running = true → ∃ t, exec (.badframe p echoed) s = .next t ∧
    Answered s t p echoed .badframe 0#16 ∧ NoEffect s t p) ∧
  ∀ r : Response, bitParity r.frame = false

/-! ### Reports -/

/-- A word of a report that does not commit one (R24 to R27): added to the assembly and echoed, or refused with the assembly
discarded, the envelope untouched either way; where the report regions lie (R21) and which enumeration field of a report is the
first outside its codes (R22, R27). -/
def Obligations.ReportWordAssembledOrRefused : Prop :=
  ([Role.vehicle, .genset, .storage, .traction, .brake].map reportLength = [6, 4, 5, 3, 6]) ∧
  (∀ (a : Nat) (r : Role) (k : Nat), reportWordAt a = some (r, k) ↔ a = 0x10 + 8 * r.index + k ∧ k < 8) ∧
  (∀ (r : Role) (words : List Word), words.length = reportLength r →
    (firstOutside r words = none ↔ ∀ k, ¬ OutsideCodes r words k) ∧
    ∀ k, firstOutside r words = some k ↔ OutsideCodes r words k ∧ ∀ j, j < k → ¬ OutsideCodes r words j) ∧
  ∀ (i : Instr) (p : Port) (advance : Bool) (w : Word) (r : Role) (k : Nat) (s : State),
    IsWrite i p advance w → s.Listening →
    reportWordAt (s.ports.get p).cursors.writeAddress.toNat = some (r, k) →
    (s.roleOf p ≠ some r ∨ reportLength r ≤ k → ∃ t, exec i s = .next t ∧ Answered s t p 3#4 .access 0#16 ∧
      (t.ports.get p).assembly = none ∧ OnlyPort [.assembly, .frame] s t p) ∧
    (s.roleOf p = some r → k < reportLength r →
      (k = 0 → ∃ t, exec i s = .next t ∧ Answered s t p 3#4 .ok w ∧
        (t.ports.get p).assembly = some ⟨.report r, [w]⟩ ∧ OnlyPort [.cursors, .assembly, .frame] s t p) ∧
      (∀ ws, 0 < k → k + 1 < reportLength r → (s.ports.get p).assembly = some ⟨.report r, ws⟩ → ws.length = k →
        ∃ t, exec i s = .next t ∧ Answered s t p 3#4 .ok w ∧
          (t.ports.get p).assembly = some ⟨.report r, ws ++ [w]⟩ ∧
          OnlyPort [.cursors, .assembly, .frame] s t p) ∧
      (∀ ws, 0 < k → (s.ports.get p).assembly = some ⟨.report r, ws⟩ → ws.length ≠ k →
        ∃ t, exec i s = .next t ∧ Answered s t p 3#4 .state (wordOfNat ws.length) ∧
          (t.ports.get p).assembly = none ∧ OnlyPort [.assembly, .frame] s t p) ∧
      (0 < k → (∀ ws, (s.ports.get p).assembly ≠ some ⟨.report r, ws⟩) →
        ∃ t, exec i s = .next t ∧ Answered s t p 3#4 .state 0#16 ∧
          (t.ports.get p).assembly = none ∧ OnlyPort [.assembly, .frame] s t p) ∧
      (∀ ws j, k + 1 = reportLength r → (s.ports.get p).assembly = some ⟨.report r, ws⟩ → ws.length = k →
        firstOutside r (ws ++ [w]) = some j →
        ∃ t, exec i s = .next t ∧ Answered s t p 3#4 .value (wordOfNat j) ∧
          (t.ports.get p).assembly = none ∧ OnlyPort [.assembly, .frame] s t p))

/-- A commit (R20, R28, R32): the held report, the entry's flags, the commit time and the deadline; the other roles' entries
stand; LINK_<role> ends with staleness; the answer is the clamped-field set. How the words of a report are read, field by field:
signed and clamped with a bit of the set for each field that clamping changes, or as a code (R22, R28). -/
def Obligations.ReportCommitted : Prop :=
  (∀ (r : Role) (words : List Word), words.length = reportLength r →
    (∀ k lo hi w, (r, k, lo, hi) ∈ numericFields → words[k]? = some w →
      (w.toInt < lo → (reportValues r words)[k]? = some lo) ∧
      (hi < w.toInt → (reportValues r words)[k]? = some hi) ∧
      (lo ≤ w.toInt → w.toInt ≤ hi → (reportValues r words)[k]? = some w.toInt) ∧
      ((clampedSet r words).getLsbD k = true ↔ w.toInt < lo ∨ hi < w.toInt)) ∧
    (∀ k last w, (r, k, last) ∈ enumerationFields → words[k]? = some w →
      (reportValues r words)[k]? = some (w.toNat : Int) ∧ (clampedSet r words).getLsbD k = false) ∧
    ∀ k, reportLength r ≤ k → (clampedSet r words).getLsbD k = false) ∧
  (∀ (e : Envelope) (x0 x1 x2 x3 x4 : Int),
    (∀ d ∈ [((0 : Int), Direction.neutral), (1, .forward), (2, .reverse)],
      ∀ o ∈ [((0 : Int), DoorState.closed), (1, .opened), (2, .unknown)], ∀ z ∈ [((0 : Int), false), (1, true)],
      e.withReport .vehicle [x0, x1, d.1, o.1, z.1, x2] = { e with vehicle := ⟨x0, x1, d.2, o.2, z.2, x2⟩ }) ∧
    (∀ g ∈ [((0 : Int), GensetState.off), (1, .cranking), (2, .warmup), (3, .ready), (4, .cooldown), (5, .fault)],
      e.withReport .genset [g.1, x0, x1, x2] = { e with genset := ⟨g.2, x0, x1, x2⟩ }) ∧
    e.withReport .storage [x0, x1, x2, x3, x4] = { e with storage := ⟨x0, x1, x2, x3, x4⟩ } ∧
    e.withReport .traction [x0, x1, x2] = { e with traction := ⟨x0, x1, x2⟩ } ∧
    ∀ b ∈ [((0 : Int), false), (1, true)],
      e.withReport .brake [x0, x1, b.1, x2, x3, x4] = { e with brake := ⟨x0, x1, b.2, x2, x3, x4⟩ }) ∧
  ∀ (i : Instr) (p : Port) (advance : Bool) (w : Word) (r : Role) (ws : List Word) (s : State),
    IsWrite i p advance w → s.Completing p r ws w → ∃ t, exec i s = .next t ∧
      Answered s t p 3#4 .ok ((clampedSet r (ws ++ [w])).setWidth 16) ∧ (t.ports.get p).assembly = none ∧
      { t.env with book := s.env.book } = s.env.withReport r (reportValues r (ws ++ [w])) ∧
      t.env.book.get r =
        { received := true, stale := false, clamped := clampedSet r (ws ++ [w]) != 0#6
          clampedSet := clampedSet r (ws ++ [w]), commitAt := some s.now
          deadline := if s.rc.runState = .halted then none else some (s.now + s.rc.applied.deadline.get r) } ∧
      (∀ q, q ≠ r → t.env.book.get q = s.env.book.get q) ∧
      (∀ q, t.causeActive (linkCause q) = (s.causeActive (linkCause q) && !(decide (q = r) && s.stale r))) ∧
      (∀ q, q ≠ p → PortChanges [.notices, .missed, .latch, .counters, .codes] s t q) ∧
      PortChanges [.cursors, .assembly, .frame, .notices, .missed, .latch, .counters, .codes] s t p ∧
      Changes [.envelope, .cutback, .genset, .wear, .store, .recorder, .ports] s t ∧
      (r = .traction → Changes [.envelope, .cutback, .ports] s t) ∧
      (r = .vehicle → Changes [.envelope, .cutback, .genset, .recorder, .ports] s t) ∧
      (r = .storage ∨ r = .genset → Changes [.envelope, .cutback, .wear, .store, .recorder, .ports] s t) ∧
      (r = .brake → Changes [.envelope, .cutback, .wear, .store, .recorder, .ports] s t)

/-- What a commit brings at once outside wear: DOOR_INTERLOCK and the zone rule (R50, R116, R117), SLIP with its hold timer
(R51, R52), friction energy at every port (R124, R125), and at the recorder the triggers it fires (R45, R139, R166) and the
return of the sampling level (R165); a raise of ZONE_BREACH with its own notice (R49). The order of the triggers of one
BRAKE commit is the MODEL'S CHOICE (entry 16). -/
def Obligations.CommitSettlesCauses : Prop :=
  ∀ (i : Instr) (p : Port) (advance : Bool) (w : Word) (r : Role) (ws : List Word) (s : State),
    IsWrite i p advance w → s.Completing p r ws w → ∃ t, exec i s = .next t ∧
      (r = .vehicle → (t.causeActive .doorInterlock = true ↔ t.env.vehicle.door ≠ .closed) ∧
        (t.env.vehicle.zone = false → t.causeActive .zoneBreach = false ∧ t.gen = s.gen) ∧
        (t.env.vehicle.zone = true → s.gen.mgr = .off ∨ s.gen.mgr = .stopRequested → t.gen = s.gen ∧
          t.causeActive .zoneBreach = s.causeActive .zoneBreach) ∧
        (t.env.vehicle.zone = true → s.gen.mgr = .startRequested ∨ s.gen.mgr = .run ∨ s.gen.mgr = .absorb →
          ((s.rc.applied.socReserve : Int) + 500 < s.env.storage.soc →
            t.gen = { s.gen with
              mgr := t.gen.mgr, setpoint := 0, start := none, absExit := none, minRun := none, minOff := t.gen.minOff } ∧
            (s.env.genset.state ≠ .off → t.gen.mgr = .stopRequested ∧ t.gen.minOff = s.gen.minOff ∧
              t.causeActive .zoneBreach = s.causeActive .zoneBreach) ∧
            (s.env.genset.state = .off → t.gen.mgr = .off ∧ t.causeActive .zoneBreach = false ∧
              t.gen.minOff = some (s.now + s.rc.applied.tMinOff * 1000))) ∧
          (s.env.storage.soc ≤ (s.rc.applied.socReserve : Int) + 500 →
            t.causeActive .zoneBreach = true ∧
            (s.gen.mgr = .absorb → t.gen = { s.gen with mgr := .run, setpoint := 0, absExit := none }) ∧
            (s.gen.mgr ≠ .absorb → t.gen = s.gen)))) ∧
      (r ≠ .vehicle → t.causeActive .doorInterlock = s.causeActive .doorInterlock ∧
        t.causeActive .zoneBreach = s.causeActive .zoneBreach) ∧
      s.ZoneNoticed t ∧ s.CausesTold t ∧
      (∀ c, c = .holdLine ∨ c = .selfCheckFail ∨ c = .gensetStartFail → t.causeActive c = s.causeActive c) ∧
      t.cut = { s.cut with live := t.cut.live, slipTimer := t.cut.slipTimer } ∧
      (r = .vehicle → State.NoticesWithin [.cutbackChange, .zoneBreach] s t ∧ s.MarkedAs t) ∧
      (r = .traction → State.NoticesWithin [.cutbackChange] s t ∧ s.MarkedAs t) ∧
      (r = .storage ∨ r = .genset →
        State.NoticesWithin [.cutbackChange, .wearLevel, .storeFault, .snapshotComplete, .triggerMissed] s t) ∧
      (r = .brake → State.NoticesWithin
        [.cutbackChange, .wearLevel, .thermalLevel, .storeFault, .snapshotComplete, .triggerMissed] s t) ∧
      (r = .brake →
        (t.env.brake.slip = true → t.causeActive .slip = true ∧
          t.cut.slipTimer = .running (s.now + s.rc.applied.tSlipHold)) ∧
        (t.env.brake.slip = false → s.cut.slipTimer = .expired →
          t.causeActive .slip = false ∧ (s.causeActive .slip = true → t.cut.slipTimer = .idle)) ∧
        (t.env.brake.slip = false → s.cut.slipTimer ≠ .expired →
          t.causeActive .slip = s.causeActive .slip ∧ t.cut.slipTimer = s.cut.slipTimer) ∧
        ∀ q, (t.ports.get q).counters = { (s.ports.get q).counters with
          fric := (s.ports.get q).counters.fric.add
            (((t.env.brake.pfFront + t.env.brake.pfMid + t.env.brake.pfRear) * s.deltaT .brake).tdiv 10) }) ∧
      (r ≠ .brake → t.causeActive .slip = s.causeActive .slip ∧ t.cut.slipTimer = s.cut.slipTimer ∧
        ∀ q, (t.ports.get q).counters = (s.ports.get q).counters) ∧
      (r = .vehicle → (0 < t.env.vehicle.tDrv → t.rcd = s.rcd.returned s.now) ∧
        (t.env.vehicle.tDrv ≤ 0 → t.rcd = s.rcd)) ∧
      (r = .traction → t.rcd = s.rcd) ∧
      ∀ slipped risen harsh : Bool,
        (slipped = true ↔ t.env.brake.slip = true ∧ s.causeActive .slip = false) →
        (risen = true ↔ s.LevelRises t) →
        (harsh = true ↔
          s.env.brake.tRr < s.rc.applied.tHarsh ∧ (s.rc.applied.tHarsh : Int) ≤ t.env.brake.tRr) →
        (r = .storage ∨ r = .genset → (s.fired (if risen then [.wearLevel] else [])).RecordedAs t) ∧
        (r = .brake →
          let u := s.fired ((if slipped then [TriggerCause.slipCut] else []) ++
            (if risen then [TriggerCause.wearLevel] else []) ++ (if harsh then [TriggerCause.harshBrake] else []))
          u.MarkedAs t ∧ (0 < t.env.brake.v ∨ 0 < t.env.brake.tRr → t.rcd = u.rcd.returned s.now) ∧
          (t.env.brake.v ≤ 0 → t.env.brake.tRr ≤ 0 → t.rcd = u.rcd))

/-- The wear of a commit (R120, R130, R132, R135 to R139, R142): linings at BRAKE, the battery at STORAGE, starts at GENSET;
every level is settled against the applied thresholds, and a rise or a fall has its consequences. Δt is that of R40, the
wear factors those of R135, thermal levels settle as R132 gives. -/
def Obligations.CommitAddsWear : Prop :=
  ([ThermalLevel.normal, .warm, .hot, .critical].map ThermalLevel.wearFactor = [1, 2, 4, 8]) ∧
  (∀ (x : ThermalLevel) (theta : Int),
    let rising := ([300, 450, 600].filter fun y : Int => decide (y ≤ theta)).length
    let holding := ([280, 430, 580].filter fun y : Int => decide (y ≤ theta)).length
    (settledLevel x theta).code =
      if x.code < rising then rising else if holding < x.code then holding else x.code) ∧
  (∀ x : PerGroup Lining, isCritical x = true ↔
    x.front.level = .critical ∨ x.middle.level = .critical ∨ x.rear.level = .critical) ∧
  (∀ (r : Role) (s : State),
    ((s.env.book.get r).commitAt = none → s.deltaT r = 0) ∧ (s.stale r = true → s.deltaT r = 0) ∧
    ∀ c, (s.env.book.get r).commitAt = some c → s.stale r = false →
      s.deltaT r = min (max (s.now - c) 1) (s.rc.applied.deadline.get r)) ∧
  ∀ (i : Instr) (p : Port) (advance : Bool) (w : Word) (r : Role) (ws : List Word) (s : State),
    IsWrite i p advance w → s.Completing p r ws w → ∃ t, exec i s = .next t ∧
      (let worn (item : WearItem) (unit energy : Nat) : Prop :=
        (t.wear.items.get item).residual = ((s.wear.items.get item).residual + energy) % unit ∧
        (t.wear.items.get item).total =
          min 4294967295 ((s.wear.items.get item).total + ((s.wear.items.get item).residual + energy) / unit) ∧
        (t.wear.items.get item).evaluated = true
      let kept (item : WearItem) : Prop :=
        (t.wear.items.get item).residual = (s.wear.items.get item).residual ∧
        (t.wear.items.get item).total = (s.wear.items.get item).total ∧
        (t.wear.items.get item).evaluated = (s.wear.items.get item).evaluated
      let heated (x y : Lining) (pf : Int) : Prop :=
        y.fine = max 0 (min (x.fine + (((pf * s.deltaT .brake).tdiv 10) * 256).tdiv s.rc.applied.cHeat -
          ((x.fine - s.env.vehicle.ambient * 256) * s.deltaT .brake).tdiv s.rc.applied.tau) 230400) ∧
        y.level = settledLevel x.level (y.fine.tdiv 256)
      let b := t.env.brake
      (r = .brake →
        worn .liningFront 1000 (((b.pfFront * s.deltaT .brake).tdiv 10).toNat * s.wear.lining.front.level.wearFactor) ∧
        worn .liningMid 1000 (((b.pfMid * s.deltaT .brake).tdiv 10).toNat * s.wear.lining.middle.level.wearFactor) ∧
        worn .liningRear 1000 (((b.pfRear * s.deltaT .brake).tdiv 10).toNat * s.wear.lining.rear.level.wearFactor) ∧
        kept .battery ∧ kept .gensetStarts ∧
        heated s.wear.lining.front t.wear.lining.front b.pfFront ∧
        heated s.wear.lining.middle t.wear.lining.middle b.pfMid ∧
        heated s.wear.lining.rear t.wear.lining.rear b.pfRear ∧
        (t.wear.lining.map Lining.level ≠ s.wear.lining.map Lining.level →
          t.AllNoticed .thermalLevel ∧ t.causeActive .liningCritical = isCritical t.wear.lining) ∧
        (t.wear.lining.map Lining.level = s.wear.lining.map Lining.level →
          t.causeActive .liningCritical = s.causeActive .liningCritical ∧
          ∀ q, (t.ports.get q).hasNotice .thermalLevel = (s.ports.get q).hasNotice .thermalLevel)) ∧
      (r = .storage →
        worn .battery 1000000 (t.env.storage.pBat.natAbs * s.deltaT .storage / 10 *
          ((if t.env.storage.temperature < 0 ∨ 45 < t.env.storage.temperature then 2 else 1) *
            (if t.env.storage.pBat < 0 ∧ (s.rc.applied.socHiTaper : Int) < t.env.storage.soc then 2 else 1))) ∧
        kept .liningFront ∧ kept .liningMid ∧ kept .liningRear ∧ kept .gensetStarts ∧
        t.wear.lining = s.wear.lining) ∧
      (r = .genset →
        (t.wear.items.get .gensetStarts).total =
          (if s.env.genset.state = .off ∧ t.env.genset.state = .cranking then
            min 4294967295 ((s.wear.items.get .gensetStarts).total + 1)
          else (s.wear.items.get .gensetStarts).total) ∧
        (t.wear.items.get .gensetStarts).evaluated = true ∧
        (t.wear.items.get .gensetStarts).residual = (s.wear.items.get .gensetStarts).residual ∧
        kept .liningFront ∧ kept .liningMid ∧ kept .liningRear ∧ kept .battery ∧
        t.wear.lining = s.wear.lining) ∧
      (r = .vehicle ∨ r = .traction → t.wear = s.wear ∧ t.store = s.store) ∧
      (r ≠ .brake → t.causeActive .liningCritical = s.causeActive .liningCritical) ∧
      (r = .brake ∨ r = .storage ∨ r = .genset → s.LevelsTold t) ∧ s.FaultTold t ∧
      (r = .brake ∨ r = .storage ∨ r = .genset → ∀ item, (t.wear.items.get item).level =
        levelOf (s.rc.applied.thresholds.get item) (t.wear.items.get item).total) ∧
      s.CodesWorsened t)

/-! ### Settings and the dump-range record -/

/-- A staged write that is taken (R16, R17, R31, R198): one word stored at once and clamped, a first word held, a pair stored
as a whole; the port has the staging claim; what clamping stores below, inside and above each range of R198; which setting each
offset holds, what storing it changes, and its default (R138, R198).
That a second word without its first discards the assembly is read from R26 (entry 31, DEDUCED). -/
def Obligations.StagedSettingStored : Prop :=
  (∀ (i : Instr) (p : Port) (advance : Bool) (w : Word) (x : SettingWord) (s : State),
    IsWrite i p advance w → s.Listening →
    0x200 ≤ (s.ports.get p).cursors.writeAddress.toNat → (s.ports.get p).cursors.writeAddress.toNat < 0x300 →
    settingAt ((s.ports.get p).cursors.writeAddress.toNat - 0x200) = some x →
    s.roleOf p ≠ none ∨ s.rc.runState = .halted → s.rc.claim = none ∨ s.rc.claim = some p →
    (∀ k, x = .one k → ∃ t, exec i s = .next t ∧
      Answered s t p 3#4 .ok (wordOfNat (k.clamped w.toNat)) ∧ (t.ports.get p).assembly = none ∧
      t.rc = { s.rc with claim := some p, staged := s.rc.staged.set k (k.clamped w.toNat) } ∧
      Changes [.runControl, .ports] s t ∧ OtherPortsSame s t p ∧
      PortChanges [.cursors, .assembly, .frame] s t p) ∧
    (∀ k, x = .high k → ∃ t, exec i s = .next t ∧ Answered s t p 3#4 .ok w ∧
      (t.ports.get p).assembly = some ⟨.setting k, [w]⟩ ∧ t.rc = { s.rc with claim := some p } ∧
      Changes [.runControl, .ports] s t ∧ OtherPortsSame s t p ∧
      PortChanges [.cursors, .assembly, .frame] s t p) ∧
    (∀ k h, x = .low k → (s.ports.get p).assembly = some ⟨.setting k, [h]⟩ →
      let v := k.clamped (h.toNat * 65536 + w.toNat)
      ∃ t, exec i s = .next t ∧ Answered s t p 3#4 .ok (BitVec.ofNat 16 v) ∧ (t.ports.get p).assembly = none ∧
        t.rc = { s.rc with claim := some p, staged := s.rc.staged.setWide k v } ∧
        Changes [.runControl, .ports] s t ∧ OtherPortsSame s t p ∧
        PortChanges [.cursors, .assembly, .frame] s t p) ∧
    (∀ k, x = .low k → (∀ h, (s.ports.get p).assembly ≠ some ⟨.setting k, [h]⟩) →
      ∃ t, exec i s = .next t ∧ Answered s t p 3#4 .state 0#16 ∧ (t.ports.get p).assembly = none ∧
        OnlyPort [.assembly, .frame] s t p)) ∧
  (∀ (k : SettingId) (n : Nat), k.range.1 ≤ k.clamped n ∧ k.clamped n ≤ k.range.2) ∧
  (∀ (k : SettingId) (n : Nat), (∀ r, k ≠ .deadline r) → k.range.1 ≤ n → n ≤ k.range.2 → k.clamped n = n) ∧
  (∀ (k : SettingId) (n : Nat), (n < k.range.1 → k.clamped n = k.range.1) ∧ (k.range.2 < n → k.clamped n = k.range.2)) ∧
  (∀ (r : Role) (n : Nat), 10 ≤ n → n ≤ 250 → (SettingId.deadline r).clamped n = n / 10 * 10) ∧
  (∀ n : Nat, WideSetting.tau.clamped n = if n < 10000 then 10000 else if 3600000 < n then 3600000 else n) ∧
  (∀ k ∈ [SettingId.socMin, .socReserve, .socLowTaper, .socStart, .socTarget, .socStop, .socHiTaper, .socMax],
    k.range = (0, 10000)) ∧
  (∀ k ∈ [SettingId.vFadeLo, .vFadeHi], k.range = (0, 1000)) ∧ SettingId.nFloor.range = (100, 1000) ∧
  SettingId.tRevCap.range = (0, 3000) ∧ (∀ k ∈ [SettingId.a0, .a1, .a2, .a3], k.range = (0, 1024)) ∧
  (∀ k ∈ [SettingId.upDrive, .downDrive, .upRegen, .downRegen], k.range = (1, 500)) ∧
  (∀ r, (SettingId.deadline r).range = (10, 250)) ∧ (∀ k ∈ [SettingId.pDisFb, .pChgFb], k.range = (0, 4000)) ∧
  SettingId.tSlipHold.range = (50, 2000) ∧ (∀ k ∈ [SettingId.tMinRun, .tMinOff], k.range = (0, 600)) ∧
  SettingId.tStart.range = (5, 60) ∧ SettingId.tAbsExit.range = (1, 30) ∧ SettingId.nStartFail.range = (1, 15) ∧
  SettingId.kSoc.range = (0, 200) ∧ SettingId.pGsMinRun.range = (0, 2500) ∧ SettingId.cHeat.range = (1000, 60000) ∧
  SettingId.tCheckpoint.range = (60, 3600) ∧ SettingId.tHarsh.range = (0, 3000) ∧
  (∀ c, (SettingId.pre c).range = (0, 8191) ∧ (SettingId.post c).range = (0, 8191)) ∧
  (∀ (item : WearItem) (j : Fin 3) (n : Nat), (WideSetting.threshold item j).clamped n = min n 4294967295) ∧
  (∀ x ∈ settingTable, settingAt x.1 = some (.one x.2.1) ∧ Settings.defaults.get x.2.1 = x.2.2) ∧
  (settingAt 0x24 = some (.high .tau) ∧ settingAt 0x25 = some (.low .tau) ∧ Settings.defaults.tau = 240000) ∧
  (∀ (k : Nat) (item : WearItem) (j : Fin 3), itemOfNumber k = some item →
    settingAt (0x40 + 6 * k + 2 * j.val) = some (.high (.threshold item j)) ∧
    settingAt (0x41 + 6 * k + 2 * j.val) = some (.low (.threshold item j))) ∧
  (∀ o, 0x36 ≤ o → o < 0x40 ∨ 0x5E ≤ o → settingAt o = none) ∧
  (∀ item ∈ [WearItem.liningFront, .liningMid, .liningRear],
    Settings.defaults.thresholds.get item = ⟨6000000, 8000000, 9500000⟩) ∧
  (Settings.defaults.thresholds.get .battery = ⟨5000000, 7000000, 8500000⟩ ∧
    Settings.defaults.thresholds.get .gensetStarts = ⟨60000, 90000, 120000⟩) ∧
  (∀ a : Settings,
    [SettingId.socMin, .socReserve, .socLowTaper, .socStart, .socTarget, .socStop, .socHiTaper, .socMax].map a.get =
      [a.socMin, a.socReserve, a.socLowTaper, a.socStart, a.socTarget, a.socStop, a.socHiTaper, a.socMax] ∧
    [SettingId.vFadeLo, .vFadeHi, .nFloor, .tRevCap, .a0, .a1, .a2, .a3].map a.get =
      [a.vFadeLo, a.vFadeHi, a.nFloor, a.tRevCap, a.ageing.a0, a.ageing.a1, a.ageing.a2, a.ageing.a3] ∧
    [SettingId.upDrive, .downDrive, .upRegen, .downRegen, .pDisFb, .pChgFb, .tSlipHold, .tMinRun].map a.get =
      [a.upDrive, a.downDrive, a.upRegen, a.downRegen, a.pDisFb, a.pChgFb, a.tSlipHold, a.tMinRun] ∧
    [SettingId.tMinOff, .tStart, .tAbsExit, .nStartFail, .kSoc, .pGsMinRun, .cHeat, .tCheckpoint, .tHarsh].map a.get =
      [a.tMinOff, a.tStart, a.tAbsExit, a.nStartFail, a.kSoc, a.pGsMinRun, a.cHeat, a.tCheckpoint, a.tHarsh] ∧
    (∀ r, a.get (.deadline r) = a.deadline.get r) ∧
    (∀ c, a.get (.pre c) = a.pre.get c ∧ a.get (.post c) = a.post.get c) ∧
    a.getWide .tau = a.tau ∧
    ∀ item, [a.getWide (.threshold item 0), a.getWide (.threshold item 1), a.getWide (.threshold item 2)] =
      [(a.thresholds.get item).t1, (a.thresholds.get item).t2, (a.thresholds.get item).t3]) ∧
  ∀ (a : Settings) (n : Nat),
    (∀ k, (a.set k n).get k = n ∧ (∀ j, j ≠ k → (a.set k n).get j = a.get j) ∧ ∀ y, (a.set k n).getWide y = a.getWide y) ∧
    ∀ k, (a.setWide k n).getWide k = n ∧ (∀ j, j ≠ k → (a.setWide k n).getWide j = a.getWide j) ∧
      ∀ y, (a.setWide k n).get y = a.get y

/-- A WRITE refused: in the order of R17 in the staged region, and ACCESS wherever nothing may be written (R26, R187); it takes
no claim and discards any assembly (for CLAIMED and ACCESS there read from R26: entry 31, DEDUCED). The payload 0 of CLAIMED and
of an unbound port's ACCESS is the MODEL'S CHOICE (entry 38). -/
def Obligations.WriteRefusedElsewhere : Prop :=
  ∀ (i : Instr) (p : Port) (advance : Bool) (w : Word) (s : State), IsWrite i p advance w → s.Listening →
    let a := (s.ports.get p).cursors.writeAddress.toNat
    (a < 0x10 ∨ 0x38 ≤ a ∧ a < 0xA8 ∨ 0xAB ≤ a ∧ a < 0x200 ∨ 0x300 ≤ a ∨
        0x200 ≤ a ∧ a < 0x300 ∧ settingAt (a - 0x200) = none ∨
        0x200 ≤ a ∧ a < 0x300 ∧ s.roleOf p = none ∧ s.rc.runState ≠ .halted →
      ∃ t, exec i s = .next t ∧ Answered s t p 3#4 .access 0#16 ∧ (t.ports.get p).assembly = none ∧
        OnlyPort [.assembly, .frame] s t p) ∧
    (∀ q, 0x200 ≤ a → a < 0x300 → settingAt (a - 0x200) ≠ none → s.roleOf p ≠ none ∨ s.rc.runState = .halted →
      s.rc.claim = some q → q ≠ p →
      ∃ t, exec i s = .next t ∧ Answered s t p 3#4 .claimed 0#16 ∧ (t.ports.get p).assembly = none ∧
        OnlyPort [.assembly, .frame] s t p)

/-- The dump-range record is assembled word by word and stored whole, its count clamped (R175, R187). -/
def Obligations.DumpRangeRecordStored : Prop :=
  ∀ (i : Instr) (p : Port) (advance : Bool) (w : Word) (s : State), IsWrite i p advance w → s.Listening →
    let a := (s.ports.get p).cursors.writeAddress.toNat
    (a = 0xA8 → ∃ t, exec i s = .next t ∧ Answered s t p 3#4 .ok w ∧
      (t.ports.get p).assembly = some ⟨.dumpRange, [w]⟩ ∧ OnlyPort [.cursors, .assembly, .frame] s t p) ∧
    (∀ h, a = 0xA9 → (s.ports.get p).assembly = some ⟨.dumpRange, [h]⟩ →
      ∃ t, exec i s = .next t ∧ Answered s t p 3#4 .ok w ∧
        (t.ports.get p).assembly = some ⟨.dumpRange, [h, w]⟩ ∧ OnlyPort [.cursors, .assembly, .frame] s t p) ∧
    (∀ h l, a = 0xAA → (s.ports.get p).assembly = some ⟨.dumpRange, [h, l]⟩ →
      let count := max 1 (min w.toNat 8192)
      ∃ t, exec i s = .next t ∧ Answered s t p 3#4 .ok (BitVec.ofNat 16 count) ∧ (t.ports.get p).assembly = none ∧
        (t.ports.get p).dumpRange = ⟨h.toNat * 65536 + l.toNat, count⟩ ∧
        OnlyPort [.cursors, .assembly, .frame, .dumpRange] s t p) ∧
    (a = 0xA9 ∨ a = 0xAA →
      (∀ ws, (s.ports.get p).assembly = some ⟨.dumpRange, ws⟩ → ws.length ≠ a - 0xA8 →
        ∃ t, exec i s = .next t ∧ Answered s t p 3#4 .state (wordOfNat ws.length) ∧
          (t.ports.get p).assembly = none ∧ OnlyPort [.assembly, .frame] s t p) ∧
      ((∀ ws, (s.ports.get p).assembly ≠ some ⟨.dumpRange, ws⟩) →
        ∃ t, exec i s = .next t ∧ Answered s t p 3#4 .state 0#16 ∧
          (t.ports.get p).assembly = none ∧ OnlyPort [.assembly, .frame] s t p))

/-! ### Requests -/

/-- RUN_STANDBY taken, from HALTED with complete binding (R5, R8, R19, R31, R59, R162, R163) and from ACTIVE when the bus is not
moving (R10, R78; GENSET_START_FAIL: entry 13); in STANDBY it changes nothing (R6). -/
def Obligations.RunStandbyTaken : Prop :=
  ∀ (p : Port) (s : State), s.running = true → s.roleOf p = some .vehicle →
    (s.rc.runState = .halted → bindingComplete s.rc.straps = true → ∃ t, exec (.runStandby p) s = .next t ∧
      Answered s t p 4#4 .ok 0#16 ∧ t.rc.runState = .standby ∧
      (∀ r, t.env.book.get r =
        { s.env.book.get r with deadline := some (s.now + 4 * s.rc.applied.deadline.get r) }) ∧
      { t.env with book := s.env.book } = s.env ∧
      t.split = { s.split with evalDue := some (s.now + 10) } ∧ t.cut = { s.cut with live := t.cut.live } ∧
      (∀ c, t.causeActive c = (s.causeActive c && decide (c ≠ .gensetStartFail))) ∧
      t.AllNoticed .runStateChange ∧ s.CausesTold t ∧
      State.NoticesWithin [.runStateChange, .cutbackChange] s t ∧ PortsChange [.assembly, .notices] s t p ∧
      (s.rcd.table.frozen = false → s.rcd.state ≠ .recording →
        t.rcd = { s.rcd with state := .recording, level := .run, still := none, due := some (s.now + 20) }) ∧
      (s.rcd.table.frozen = true → s.RecorderSettled → t.rcd = s.rcd) ∧
      s.ClaimDropped (fun q => s.roleOf q = none) t ∧
      t.rc = { s.rc with runState := .standby, claim := t.rc.claim, staged := t.rc.staged } ∧
      Changes [.runControl, .envelope, .cutback, .split, .recorder, .ports] s t) ∧
    (s.rc.runState = .active → s.stale .brake = true ∨ s.env.brake.v < 10 → ∃ t, exec (.runStandby p) s = .next t ∧
      Answered s t p 4#4 .ok 0#16 ∧ t.rc = { s.rc with runState := .standby } ∧
      t.split = { s.split with
        tMc := 0, lDrive := 0, lRegen := 0, grant := 0, friction := s.takenTRr, source := .notActive } ∧
      t.gen = { s.gen with setpoint := 0 } ∧ t.store = { s.store with timer := none } ∧
      (∀ c, t.causeActive c = (s.causeActive c && decide (c ≠ .gensetStartFail))) ∧
      t.cut = { s.cut with live := t.cut.live } ∧ t.AllNoticed .runStateChange ∧ s.CausesTold t ∧
      State.NoticesWithin [.runStateChange, .cutbackChange] s t ∧ PortsChange [.notices] s t p ∧
      (s.RecorderSettled → t.rcd = s.rcd) ∧
      Changes [.runControl, .cutback, .split, .genset, .store, .recorder, .ports] s t) ∧
    (s.rc.runState = .standby → ∃ t, exec (.runStandby p) s = .next t ∧
      Answered s t p 4#4 .ok 0#16 ∧ NoEffect s t p)

/-- RUN_ACTIVE (R5, R6, R9, R104, R115, R117, R151): taken in STANDBY when nothing blocks it, refused with the first blocker
otherwise. -/
def Obligations.RunActiveTakenOrBlocked : Prop :=
  ∀ (p : Port) (s : State), s.running = true → s.roleOf p = some .vehicle →
    (s.rc.runState = .standby → (∀ c : Cause, c.code ≤ 6 → s.causeActive c = false) → s.split.dir = .neutral →
      ∃ t, exec (.runActive p) s = .next t ∧ Answered s t p 4#4 .ok 0#16 ∧
        t.rc = { s.rc with runState := .active } ∧ t.split = { s.split with tMc := 0 } ∧
        t.gen.mgr = .off ∧ t.gen.setpoint = 0 ∧ t.gen.dAvg = 0 ∧ t.gen.failCount = 0 ∧ t.gen.inhibit = false ∧
        t.gen.minRun = none ∧ t.gen.start = none ∧ t.gen.absExit = none ∧
        t.gen.minOff = (if s.gen.mgr = .off then s.gen.minOff
          else some (s.now + s.rc.applied.tMinOff * 1000)) ∧
        t.store = { s.store with timer := some (s.now + s.rc.applied.tCheckpoint * 1000) } ∧
        t.causeActive .zoneBreach = (s.causeActive .zoneBreach && decide (s.gen.mgr = .off)) ∧
        (∀ c, c ≠ .zoneBreach → t.causeActive c = s.causeActive c) ∧ t.cut = { s.cut with live := t.cut.live } ∧
        t.AllNoticed .runStateChange ∧ s.CausesTold t ∧ State.NoticesWithin [.runStateChange, .cutbackChange] s t ∧
        PortsChange [.notices] s t p ∧ (s.RecorderSettled → t.rcd = s.rcd) ∧
        Changes [.runControl, .cutback, .split, .genset, .store, .recorder, .ports] s t) ∧
    (∀ c : Cause, s.rc.runState = .standby → c.code ≤ 6 → s.causeActive c = true →
      (∀ d : Cause, s.causeActive d = true → c.code ≤ d.code) →
      ∃ t, exec (.runActive p) s = .next t ∧ Answered s t p 4#4 .state (wordOfNat c.code) ∧ NoEffect s t p) ∧
    (s.rc.runState = .standby → (∀ c : Cause, c.code ≤ 6 → s.causeActive c = false) → s.split.dir ≠ .neutral →
      ∃ t, exec (.runActive p) s = .next t ∧ Answered s t p 4#4 .state 31#16 ∧ NoEffect s t p) ∧
    (s.rc.runState = .active → ∃ t, exec (.runActive p) s = .next t ∧
      Answered s t p 4#4 .ok 0#16 ∧ NoEffect s t p) ∧
    (s.rc.runState = .halted → ∃ t, exec (.runActive p) s = .next t ∧
      Answered s t p 4#4 .state 30#16 ∧ NoEffect s t p)

/-- RUN_HALT (R6, R10, R11, R61, R78, R115, R117, R151, R162, R163): from STANDBY, and from ACTIVE when the bus is not
moving. -/
def Obligations.RunHaltTaken : Prop :=
  ∀ (p : Port) (s : State), s.running = true → s.roleOf p = some .vehicle →
    (s.rc.runState = .standby ∨ s.rc.runState = .active ∧ (s.stale .brake = true ∨ s.env.brake.v < 10) →
      ∃ t, exec (.runHalt p) s = .next t ∧ Answered s t p 4#4 .ok 0#16 ∧
        t.rc = { s.rc with runState := .halted, claim := t.rc.claim, staged := t.rc.staged } ∧
        s.ClaimDropped (fun q => s.roleOf q = none) t ∧
        (∀ r, t.env.book.get r = { s.env.book.get r with deadline := none }) ∧
        { t.env with book := s.env.book } = s.env ∧
        t.split = { s.split with
          tMc := 0, mode := .coast, pDisEff := 0, pChgEff := 0, hDrive := 0, hRegen := 0, lDrive := 0, lRegen := 0
          q := 0, grant := 0, friction := s.takenTRr, source := .notActive, valid := false, evalDue := none } ∧
        t.gen.mgr = .off ∧ t.gen.setpoint = 0 ∧ t.gen.dAvg = s.gen.dAvg ∧ t.gen.failCount = s.gen.failCount ∧
        t.gen.inhibit = s.gen.inhibit ∧ t.gen.minRun = none ∧ t.gen.start = none ∧ t.gen.absExit = none ∧
        t.gen.minOff = (if s.gen.mgr = .off then s.gen.minOff
          else some (s.now + s.rc.applied.tMinOff * 1000)) ∧
        Store.Requested
          { s.store with timer := if s.rc.runState = .active then none else s.store.timer } t.store s.totals s.now ∧
        t.causeActive .zoneBreach = (s.causeActive .zoneBreach && decide (s.gen.mgr = .off)) ∧ s.FaultTold t ∧
        (∀ c, c ≠ .zoneBreach → c ≠ .wearStoreFault → t.causeActive c = s.causeActive c) ∧
        t.cut = { s.cut with live := t.cut.live } ∧ t.AllNoticed .runStateChange ∧ s.CausesTold t ∧
        State.NoticesWithin [.runStateChange, .cutbackChange, .storeFault] s t ∧
        PortsChange [.assembly, .notices, .latch] s t p ∧
        (s.RecorderSettled → (s.rcd.table.frozen = true → t.rcd = s.rcd) ∧
          (s.rcd.table.frozen = false → t.rcd = { s.rcd with state := .stopped, due := none })) ∧
        Changes [.runControl, .envelope, .cutback, .split, .genset, .store, .recorder, .ports] s t) ∧
    (s.rc.runState = .halted → ∃ t, exec (.runHalt p) s = .next t ∧
      Answered s t p 4#4 .ok 0#16 ∧ NoEffect s t p)

/-- The refusals of the run-state requests and of SELF_CHECK (R6, R8, R10): another port than VEHICLE, a moving bus, a role
without a port, SELF_CHECK outside HALTED. The payload 0 of ACCESS is the MODEL'S CHOICE (entry 38). -/
def Obligations.RunRequestsRefused : Prop :=
  ∀ (p : Port) (s : State), s.Listening →
    (∀ i, i = .runStandby p ∨ i = .runActive p ∨ i = .runHalt p ∨ i = .selfCheck p →
      s.roleOf p ≠ some .vehicle → ∃ t, exec i s = .next t ∧
        Answered s t p 4#4 .access 0#16 ∧ NoEffect s t p) ∧
    (∀ i, i = .runStandby p ∨ i = .runHalt p → s.roleOf p = some .vehicle → s.rc.runState = .active →
      s.stale .brake = false → 10 ≤ s.env.brake.v → ∃ t, exec i s = .next t ∧
        Answered s t p 4#4 .state (wordOf s.env.brake.v) ∧ NoEffect s t p) ∧
    (∀ r : Role, s.roleOf p = some .vehicle → s.rc.runState = .halted → (∀ q, s.roleOf q ≠ some r) →
      (∀ r' : Role, r'.index < r.index → ∃ q, s.roleOf q = some r') →
      ∃ t, exec (.runStandby p) s = .next t ∧
        Answered s t p 4#4 .state (r.strap.setWidth 16) ∧ NoEffect s t p) ∧
    (s.roleOf p = some .vehicle → s.rc.runState = .standby ∨ s.rc.runState = .active →
      ∃ t, exec (.selfCheck p) s = .next t ∧ Answered s t p 4#4 .state 30#16 ∧ NoEffect s t p)

/-- SELF_CHECK taken in HALTED (R13, R15, R61, R93, R139, R178; entry 14): defaults, claim, dumps, buffers, counters, the
split engine stopped, and the self-check begun; what it keeps; the consequences of the levels formed against the default
thresholds. -/
def Obligations.SelfCheckTaken : Prop :=
  ∀ (p : Port) (s : State), s.running = true → s.roleOf p = some .vehicle → s.rc.runState = .halted →
    ∃ t, exec (.selfCheck p) s = .next t ∧ Answered s t p 4#4 .ok 0#16 ∧
      t.rc = { s.rc with
        runState := .selfCheck, staged := .defaults, applied := .defaults, claim := none, checkDone := false
        checkFail := false, checkStep := 0#2, checkEnd := some (s.now + 2), checkRequested := true } ∧
      t.drivesHold = true ∧
      (∀ item, t.wear.items.get item = { s.wear.items.get item with
        level := levelOf (Settings.defaults.thresholds.get item) (s.wear.items.get item).total }) ∧
      t.wear.lining = s.wear.lining ∧ s.LevelsTold t ∧ s.CodesWorsened t ∧
      (∀ r, t.env.book.get r = { s.env.book.get r with deadline := none }) ∧ { t.env with book := s.env.book } = s.env ∧
      t.split = { s.split with
        tMc := 0, mode := .coast, pDisEff := 0, pChgEff := 0, hDrive := 0, hRegen := 0, lDrive := 0, lRegen := 0
        q := 0, grant := 0, friction := s.takenTRr, source := .notActive, valid := false, evalDue := none } ∧
      t.rcd.ring = s.rcd.ring ∧ t.rcd.next = s.rcd.next ∧ t.rcd.empty = s.rcd.empty ∧
      (¬ s.LevelRises t → t.rcd.table = s.rcd.table) ∧
      (s.RecorderSettled → (¬ s.LevelRises t → s.RecordedAs t) ∧ (s.LevelRises t → (s.trigger .wearLevel).RecordedAs t)) ∧
      (∀ c, c ≠ .wearStoreFault → t.causeActive c = s.causeActive c) ∧ t.cut = { s.cut with live := t.cut.live } ∧
      s.CausesTold t ∧ t.AllNoticed .runStateChange ∧
      State.NoticesWithin
        [.runStateChange, .wearLevel, .cutbackChange, .storeFault, .snapshotComplete, .triggerMissed] s t ∧
      (∀ q, (t.ports.get q).dump = { (s.ports.get q).dump with status := .ended, reason := some .cancelled, queue := [] } ∧
        (t.ports.get q).holding = none ∧ (t.ports.get q).assembly = none ∧ (t.ports.get q).counters = .zero) ∧
      PortsChange [.assembly, .holding, .notices, .missed, .latch, .counters, .codes, .dump] s t p ∧
      Changes [.runControl, .envelope, .cutback, .split, .wear, .store, .recorder, .ports] s t

/-- A change of levels, by APPLY or otherwise (R138, R139, R142): the notice, and on a rise the checkpoint request and the
trigger; what the level of a total and the status of an item are (R138, R141). -/
def Obligations.LevelChangeHasConsequences : Prop :=
  (∀ (x : Thresholds) (n : Nat), levelOf x n = ([x.t1, x.t2, x.t3].filter fun y => decide (y ≤ n)).length) ∧
  (∀ (s : State) (item : WearItem),
    let x := s.wear.items.get item
    s.wearStatus item =
      if 3 ≤ x.level then .limit
      else if s.stale (match item with
        | .liningFront | .liningMid | .liningRear => .brake
        | .battery => .storage
        | .gensetStarts => .genset) = true then .stale
      else if x.level = 2 then .warn2
      else if x.level = 1 then .warn1
      else if x.evaluated = true then .ok
      else .notEvaluated) ∧
  ∀ s : State,
    let t := s.recomputeLevels
    (∀ item, t.wear.items.get item = { s.wear.items.get item with
      level := levelOf (s.rc.applied.thresholds.get item) (s.wear.items.get item).total }) ∧
    s.LevelsTold t ∧ (s.LevelRises t → (s.trigger .wearLevel).RecordedAs t) ∧
    (¬ s.LevelRises t → s.RecordedAs t ∧ t.cut = s.cut) ∧
    (¬ s.LevelRises t → ¬ t.LevelRises s → ∀ q, (t.ports.get q).notices = (s.ports.get q).notices) ∧
    t.cut = { s.cut with live := t.cut.live } ∧ (∀ c, c ≠ .wearStoreFault → t.causeActive c = s.causeActive c) ∧
    s.CausesTold t ∧ s.CodesWorsened t ∧
    State.NoticesWithin [.wearLevel, .cutbackChange, .storeFault, .snapshotComplete, .triggerMissed] s t ∧
    (∀ q, PortChanges [.notices, .missed, .latch, .codes] s t q) ∧ t.wear.lining = s.wear.lining ∧
    Changes [.wear, .store, .recorder, .cutback, .ports] s t

/-- APPLY and DISCARD: taken from the claimant, refused without a claim, against another port's claim, APPLY in ACTIVE and
with the first condition that fails, each condition under its index (R17, R18, R19), and what new levels bring (R139). The
payload 0 of CLAIMED and of the two OKs is the MODEL'S CHOICE (entry 38). -/
def Obligations.ApplyAndDiscard : Prop :=
  (∀ (p : Port) (s : State), s.running = true → s.rc.claim = some p →
    s.rc.runState = .halted ∨ s.rc.runState = .standby → (∀ k, s.rc.staged.Condition k) →
    ∃ t, exec (.apply p) s = .next t ∧ Answered s t p 4#4 .ok 0#16 ∧
      t.rc = { s.rc with applied := s.rc.staged, claim := none } ∧ t.AllNoticed .settingsApplied ∧
      (∀ item, t.wear.items.get item = { s.wear.items.get item with
        level := levelOf (s.rc.staged.thresholds.get item) (s.wear.items.get item).total }) ∧
      t.wear.lining = s.wear.lining ∧ s.LevelsTold t ∧ s.CodesWorsened t ∧
      (s.LevelRises t → ((s.setRc t.rc).trigger .wearLevel).RecordedAs t) ∧ (¬ s.LevelRises t → s.RecordedAs t) ∧
      (∀ c, c ≠ .wearStoreFault → t.causeActive c = s.causeActive c) ∧ t.cut = { s.cut with live := t.cut.live } ∧
      s.CausesTold t ∧ State.NoticesWithin
        [.settingsApplied, .wearLevel, .cutbackChange, .storeFault, .snapshotComplete, .triggerMissed] s t ∧
      (s.ports.get p).SettingWordDropped (t.ports.get p) ∧
      (∀ q, q ≠ p → (t.ports.get q).assembly = (s.ports.get q).assembly) ∧
      PortsChange [.assembly, .notices, .missed, .latch, .codes] s t p ∧
      Changes [.runControl, .cutback, .wear, .store, .recorder, .ports] s t) ∧
  (∀ (p : Port) (s : State), s.Listening → s.rc.claim = some p →
    ∃ t, exec (.discard p) s = .next t ∧ Answered s t p 4#4 .ok 0#16 ∧
      t.rc = { s.rc with staged := s.rc.applied, claim := none } ∧
      (s.ports.get p).SettingWordDropped (t.ports.get p) ∧
      Changes [.runControl, .ports] s t ∧ OtherPortsSame s t p ∧ PortChanges [.assembly, .frame] s t p) ∧
  (∀ (p : Port) (s : State), s.Listening →
    (∀ i, i = .apply p ∨ i = .discard p → s.rc.claim = none → ∃ t, exec i s = .next t ∧
      Answered s t p 4#4 .state 30#16 ∧ NoEffect s t p) ∧
    (∀ i q, i = .apply p ∨ i = .discard p → s.rc.claim = some q → q ≠ p → ∃ t, exec i s = .next t ∧
      Answered s t p 4#4 .claimed 0#16 ∧ NoEffect s t p) ∧
    (s.rc.claim = some p → s.rc.runState = .active → ∃ t, exec (.apply p) s = .next t ∧
      Answered s t p 4#4 .state 30#16 ∧ NoEffect s t p) ∧
    (∀ k, s.rc.claim = some p → s.rc.runState ≠ .active → ¬ s.rc.staged.Condition k →
      (∀ j, j < k → s.rc.staged.Condition j) →
      ∃ t, exec (.apply p) s = .next t ∧ Answered s t p 4#4 .value (wordOfNat k) ∧ NoEffect s t p)) ∧
  ∀ a : Settings, (a.consistent = true ↔ ∀ k, a.Condition k) ∧ a.conditions.length = 17 ∧
    ∀ k, k ≤ 16 → (a.conditions[k]? = some true ↔ a.Condition k)

/-- SAVE_WEAR (R152, R153, R154, R157). That it is answered OK with payload 0 when its checkpoint finds no sequence number
left, the store being in fault after it, is DEDUCED (entry 19). -/
def Obligations.SaveWearRequestsCheckpoint : Prop :=
  ∀ (p : Port) (s : State), s.Listening →
    (s.store.fault = true → ∃ t, exec (.saveWear p) s = .next t ∧
      Answered s t p 4#4 .state 12#16 ∧ NoEffect s t p) ∧
    (s.store.fault = false → s.store.phase ≠ .idle → ∃ t, exec (.saveWear p) s = .next t ∧
      Answered s t p 4#4 .ok 1#16 ∧
      t.store = { s.store with pendingFlag := true, waiting := s.store.waiting.set p true } ∧
      Changes [.store, .ports] s t ∧ OtherPortsSame s t p ∧ PortChanges [.frame] s t p) ∧
    (s.store.fault = false → s.store.phase = .idle → ∃ t, exec (.saveWear p) s = .next t ∧
      Answered s t p 4#4 .ok 0#16 ∧
      Store.Started { s.store with current := s.store.current.set p true } t.store s.totals s.now ∧
      s.FaultTold t ∧ (∀ c, c ≠ .wearStoreFault → t.causeActive c = s.causeActive c) ∧
      t.cut = { s.cut with live := t.cut.live } ∧ s.CausesTold t ∧
      State.NoticesWithin [.cutbackChange, .storeFault] s t ∧ PortsChange [.notices, .latch] s t p ∧
      (t.store.fault = false → Changes [.store, .ports] s t ∧ OtherPortsSame s t p ∧
        PortChanges [.frame] s t p) ∧
      Changes [.store, .cutback, .ports] s t)

/-- WEAR_RESET (R145), with what the fall of a level brings (R139, R142). MODEL'S CHOICE: the payload 0 of ACCESS (entry 38),
and VALUE 0 for an operand above 4 while WEAR_STORE_FAULT is active, where R145's STATE 12 would apply too (entry 41). -/
def Obligations.WearResetZeroesItem : Prop :=
  ∀ (p : Port) (n : BitVec 5) (s : State), s.Listening →
    (∀ item, s.roleOf p = some .vehicle → s.rc.runState = .halted → itemOfNumber n.toNat = some item →
      s.causeActive .wearStoreFault = false → ∃ t, exec (.wearReset p n) s = .next t ∧
        Answered s t p 4#4 .ok 0#16 ∧
        (t.wear.items.get item).total = 0 ∧ (t.wear.items.get item).residual = 0 ∧
        (t.wear.items.get item).evaluated = (s.wear.items.get item).evaluated ∧
        (∀ other, other ≠ item → (t.wear.items.get other).total = (s.wear.items.get other).total ∧
          (t.wear.items.get other).residual = (s.wear.items.get other).residual ∧
          (t.wear.items.get other).evaluated = (s.wear.items.get other).evaluated) ∧
        (∀ any, (t.wear.items.get any).level =
          levelOf (s.rc.applied.thresholds.get any) (t.wear.items.get any).total) ∧
        t.wear.lining = s.wear.lining ∧
        (s.LevelsMatch → Store.Requested s.store t.store t.totals s.now ∧ s.RecordedAs t) ∧
        s.LevelNoticed t ∧ s.CodesWorsened t ∧ s.FaultTold t ∧
        (∀ c, c ≠ .wearStoreFault → t.causeActive c = s.causeActive c) ∧ t.cut = { s.cut with live := t.cut.live } ∧
        s.CausesTold t ∧
        State.NoticesWithin [.wearLevel, .cutbackChange, .storeFault, .snapshotComplete, .triggerMissed] s t ∧
        PortsChange [.notices, .missed, .latch, .codes] s t p ∧
        Changes [.wear, .store, .recorder, .cutback, .ports] s t) ∧
    (s.roleOf p ≠ some .vehicle → ∃ t, exec (.wearReset p n) s = .next t ∧
      Answered s t p 4#4 .access 0#16 ∧ NoEffect s t p) ∧
    (s.roleOf p = some .vehicle → s.rc.runState = .standby ∨ s.rc.runState = .active →
      ∃ t, exec (.wearReset p n) s = .next t ∧ Answered s t p 4#4 .state 30#16 ∧ NoEffect s t p) ∧
    (s.roleOf p = some .vehicle → s.rc.runState = .halted → 4 < n.toNat →
      ∃ t, exec (.wearReset p n) s = .next t ∧ Answered s t p 4#4 .value 0#16 ∧ NoEffect s t p) ∧
    (s.roleOf p = some .vehicle → s.rc.runState = .halted → n.toNat ≤ 4 → s.causeActive .wearStoreFault = true →
      ∃ t, exec (.wearReset p n) s = .next t ∧ Answered s t p 4#4 .state 12#16 ∧ NoEffect s t p)

/-- A trigger of any cause at the recorder (R162, R165, R168, R169, R170), and what TRIGGER answers (R172). -/
def Obligations.TriggerHandled : Prop :=
  (∀ (c : TriggerCause) (s : State),
    let r := s.rcd.returned s.now
    let t := s.trigger c
    (∀ id, s.rcd.table.Collects c id →
      let d := s.rcd.table.get id
      t.rcd = { r with table := s.rcd.table.set id { d with retriggers := min 255 (d.retriggers + 1) } } ∧
        Changes [.recorder] s t) ∧
    ((∀ id, ¬ ((s.rcd.table.get id).state = .collecting ∧ (s.rcd.table.get id).cause = c)) →
      (s.rcd.state ≠ .recording ∨ s.rcd.empty = true → t.rcd = r ∧ Changes [.recorder] s t) ∧
      (s.rcd.state = .recording → s.rcd.empty = false →
        (∀ id, s.rcd.table.Takes id →
          let d : Descriptor :=
            { state := if s.rc.applied.post.get c = 0 then .complete else .collecting
              cause := c, trigger := s.rcd.next - 1
              first := max (s.rcd.next - 1 - 8191) (s.rcd.next - 1 - s.rc.applied.pre.get c)
              last := s.rcd.next - 1 + s.rc.applied.post.get c, retriggers := 0, freeze := decide (c = .holdLine) }
          let x := { r with table := s.rcd.table.set id d }
          (s.rc.applied.post.get c ≠ 0 → t.rcd = x ∧ Changes [.recorder] s t) ∧
          (s.rc.applied.post.get c = 0 → t.AllNoticed .snapshotComplete ∧
            (recorderState x.table s.rc.runState = .recording → t.rcd = x) ∧
            (recorderState x.table s.rc.runState ≠ .recording →
              t.rcd = { x with state := recorderState x.table s.rc.runState, due := none }) ∧
            State.NoticesWithin [.snapshotComplete] s t) ∧
          (∀ q, PortChanges [.notices] s t q) ∧ Changes [.recorder, .ports] s t) ∧
        ((∀ id, (s.rcd.table.get id).state = .collecting ∨ (s.rcd.table.get id).state = .complete) →
          t.rcd = r ∧ t.AllNoticed .triggerMissed ∧
          (∀ q (k : TriggerCause), (t.ports.get q).missed.getLsbD k.code =
            ((s.ports.get q).missed.getLsbD k.code || decide (k = c))) ∧
          State.NoticesWithin [.triggerMissed] s t ∧
          (∀ q, PortChanges [.notices, .missed] s t q) ∧ Changes [.recorder, .ports] s t)))) ∧
  ∀ (p : Port) (s : State), s.Listening → ∃ t, exec (.trigger p) s = .next t ∧
    t.rcd = (s.trigger .manual).rcd ∧ Changes [.recorder, .ports] s t ∧
    (∀ q, q ≠ p → t.ports.get q = (s.trigger .manual).ports.get q) ∧
    (t.ports.get p).notices = ((s.trigger .manual).ports.get p).notices ∧
    (t.ports.get p).missed = ((s.trigger .manual).ports.get p).missed ∧
    PortChanges [.frame, .notices, .missed] s t p ∧
    (∀ id, s.rcd.table.Collects .manual id → Answered s t p 4#4 .ok (id.setWidth 16)) ∧
    ((∀ id, ¬ ((s.rcd.table.get id).state = .collecting ∧ (s.rcd.table.get id).cause = .manual)) →
      (s.rcd.state ≠ .recording ∨ s.rcd.empty = true → Answered s t p 4#4 .ok 4#16) ∧
      (s.rcd.state = .recording → s.rcd.empty = false →
        (∀ id, s.rcd.table.Takes id → Answered s t p 4#4 .ok (id.setWidth 16)) ∧
        ((∀ id, (s.rcd.table.get id).state = .collecting ∨ (s.rcd.table.get id).state = .complete) →
          Answered s t p 4#4 .ok 5#16)))

/-- RELEASE (R162, R163, R172), and the recorder state that the three conditions of R162 fix. -/
def Obligations.ReleaseFreesDescriptor : Prop :=
  (∀ x : SnapshotTable, x.frozen = true ↔ ∃ id, (x.get id).state = .complete ∧ (x.get id).freeze = true) ∧
  (∀ (x : SnapshotTable) (r : RunState),
    (recorderState x r = .frozen ↔ ∃ id, (x.get id).state = .complete ∧ (x.get id).freeze = true) ∧
    (recorderState x r ≠ .frozen →
      (r = .selfCheck ∨ r = .halted → recorderState x r = .stopped) ∧
      (r = .standby ∨ r = .active → recorderState x r = .recording))) ∧
  ∀ (p : Port) (n : BitVec 5) (s : State), s.Listening →
    (3 < n.toNat → ∃ t, exec (.release p n) s = .next t ∧ Answered s t p 4#4 .value 0#16 ∧ NoEffect s t p) ∧
    (n.toNat ≤ 3 → ∃ t, exec (.release p n) s = .next t ∧ Answered s t p 4#4 .ok 0#16 ∧
      (let table := s.rcd.table.set (n.setWidth 2) { s.rcd.table.get (n.setWidth 2) with state := .free }
       let state := recorderState table s.rc.runState
       (state = s.rcd.state → t.rcd = { s.rcd with table := table }) ∧
       (state ≠ s.rcd.state → state = .recording → t.rcd = { s.rcd with
         table := table, state := .recording, level := .run, still := none, due := some (s.now + 20) }) ∧
       (state ≠ s.rcd.state → state ≠ .recording →
         t.rcd = { s.rcd with table := table, state := state, due := none })) ∧
      Changes [.recorder, .ports] s t ∧ OtherPortsSame s t p ∧ PortChanges [.frame] s t p)

/-- DUMP_SNAPSHOT, DUMP_RANGE and DUMP_CANCEL (R174, R175, R176, R178); the id bits beside a range are a free value
(entry 17). -/
def Obligations.DumpsBeginAndEnd : Prop :=
  (∀ (p : Port) (s : State), s.Listening →
    let d := (s.ports.get p).dump
    (d.status = .streaming ∨ d.status = .ended ∧ d.queue ≠ [] → ∃ t, exec (.dumpCancel p) s = .next t ∧
      Answered s t p 4#4 .ok 0#16 ∧
      (t.ports.get p).dump = { d with status := .ended, reason := some .cancelled, queue := [] } ∧
      OnlyPort [.frame, .dump] s t p) ∧
    (d.status = .idle ∨ d.status = .ended ∧ d.queue = [] → ∃ t, exec (.dumpCancel p) s = .next t ∧
      Answered s t p 4#4 .ok 0#16 ∧ NoEffect s t p)) ∧
  ∀ (p : Port) (n : BitVec 5) (s : State), s.Listening →
    let begun (t : State) (source : DumpSource) (first last : Nat) : Prop :=
      Answered s t p 4#4 .ok 0#16 ∧ OtherPortsSame s t p ∧ PortChanges [.frame, .dump] s t p ∧
      (t.ports.get p).dump.source = source ∧ (t.ports.get p).dump.last = last ∧
      (∀ x, first ≤ last → first < s.rcd.next → s.rcd.sampleNumber first = some x →
        (t.ports.get p).dump.queue = x.words ∧ (t.ports.get p).dump.next = first + 1 ∧
        (first < last → (t.ports.get p).dump.status = .streaming ∧ (t.ports.get p).dump.reason = none) ∧
        (first = last → (t.ports.get p).dump.status = .ended ∧ (t.ports.get p).dump.reason = some .done)) ∧
      (last < first ∨ s.rcd.next ≤ first → (t.ports.get p).dump.queue = [] ∧
        (t.ports.get p).dump.next = first ∧ (t.ports.get p).dump.status = .streaming ∧
        (t.ports.get p).dump.reason = none)
    (n.toNat ≤ 3 →
      (let d := s.rcd.table.get (n.setWidth 2)
      (d.state = .collecting ∨ d.state = .complete → ∃ t, exec (.dumpSnapshot p n) s = .next t ∧
        begun t (.descriptor (n.setWidth 2)) d.first d.last ∧ Changes [.ports] s t) ∧
      (d.state = .free → ∃ t, exec (.dumpSnapshot p n) s = .next t ∧
        Answered s t p 4#4 .state 0#16 ∧ NoEffect s t p) ∧
      (d.state = .overwritten → ∃ t, exec (.dumpSnapshot p n) s = .next t ∧
        Answered s t p 4#4 .state 3#16 ∧ NoEffect s t p))) ∧
    (3 < n.toNat → ∃ t, exec (.dumpSnapshot p n) s = .next t ∧
      Answered s t p 4#4 .value 0#16 ∧ NoEffect s t p) ∧
    (s.rcd.empty = true ∨ s.rcd.newest < (s.ports.get p).dumpRange.first → ∃ t, exec (.dumpRange p) s = .next t ∧
      Answered s t p 4#4 .value 1#16 ∧ NoEffect s t p) ∧
    (s.rcd.empty = false → (s.ports.get p).dumpRange.first ≤ s.rcd.newest →
      (s.ports.get p).dumpRange.first < s.rcd.newest - 8191 →
      ∃ t, exec (.dumpRange p) s = .next t ∧ Answered s t p 4#4 .value 2#16 ∧ NoEffect s t p) ∧
    (s.rcd.empty = false → (s.ports.get p).dumpRange.first ≤ s.rcd.newest →
      s.rcd.newest - 8191 ≤ (s.ports.get p).dumpRange.first →
      ∃ t idBits, exec (.dumpRange p) s = .next t ∧
        begun t (.range idBits) (s.ports.get p).dumpRange.first
          (min ((s.ports.get p).dumpRange.first + (s.ports.get p).dumpRange.count - 1) s.rcd.newest) ∧
        Changes [.free, .ports] s t)

/-! ### The evaluation -/

/-- R71: the ramp, from the standing torque toward the requested value, before the clamp. -/
def Obligations.EvaluationRampsTowardRequest : Prop :=
  (∀ (d : Nat) (s : State), s.running = true → s.rc.runState = .standby ∨ s.rc.runState = .active →
    s.split.evalDue = some d → ∃ t x, exec .evaluation s = .next t ∧
      t.split.tMc = max (min x t.split.lDrive) (-t.split.lRegen) ∧
      (0 ≤ s.split.tMc → s.split.tMc < t.split.q →
        x = s.split.tMc + min (t.split.q - s.split.tMc) s.rc.applied.upDrive) ∧
      (0 < s.split.tMc → t.split.q < s.split.tMc →
        x = s.split.tMc - min (s.split.tMc - max t.split.q 0) s.rc.applied.downDrive) ∧
      (s.split.tMc ≤ 0 → t.split.q < s.split.tMc →
        x = s.split.tMc - min (s.split.tMc - t.split.q) s.rc.applied.upRegen) ∧
      (s.split.tMc < 0 → s.split.tMc < t.split.q →
        x = s.split.tMc + min (min t.split.q 0 - s.split.tMc) s.rc.applied.downRegen) ∧
      (t.split.q = s.split.tMc → x = s.split.tMc) ∧
      min s.split.tMc t.split.q ≤ x ∧ x ≤ max s.split.tMc t.split.q) ∧
  Settings.defaults.upDrive = 30 ∧ Settings.defaults.downDrive = 60 ∧ Settings.defaults.upRegen = 60 ∧
    Settings.defaults.downRegen = 120

/-- The stages of an evaluation but for the ramp (R59, R62 to R70, R74, R75, R83 to R87): direction, battery limits, mode,
headroom, the two torque limits and what decided the second, request, grant, friction remainder. That the clock moves to the
time it was due, or stays when later, and the period counts on from there, is the MODEL'S CHOICE (entry 2). -/
def Obligations.EvaluationSettlesLimits : Prop :=
  ∀ (d : Nat) (s : State), s.running = true → s.rc.runState = .standby ∨ s.rc.runState = .active →
    s.split.evalDue = some d → ∃ t, exec .evaluation s = .next t ∧
      t.now = max s.now d ∧ t.split.evalDue = some (t.now + 10) ∧ t.split.evalCount = s.split.evalCount + 1#16 ∧
      t.split.valid = !s.causeActive .linkTraction ∧
      (s.env.vehicle.direction = s.split.dir → t.split.dir = s.split.dir ∧ t.split.pendingDir = none) ∧
      (s.env.vehicle.direction ≠ s.split.dir → s.split.tMc = 0 → s.env.brake.v < 5 →
        t.split.dir = s.env.vehicle.direction ∧ t.split.pendingDir = none) ∧
      (s.env.vehicle.direction ≠ s.split.dir → s.split.tMc ≠ 0 ∨ 5 ≤ s.env.brake.v →
        t.split.dir = s.split.dir ∧ t.split.pendingDir = some s.env.vehicle.direction) ∧
      (let a := s.rc.applied
       let age := a.ageing.at s.wear.items.battery.level
       let dis := ((if s.stale .storage then (a.pDisFb : Int) else s.env.storage.pDisRep) * age).tdiv 1024
       let chg := ((if s.stale .storage then (a.pChgFb : Int) else s.env.storage.pChgRep) * age).tdiv 1024
       let soc := s.env.storage.soc
       ([0, 1, 2, 3].map a.ageing.at = [a.ageing.a0, a.ageing.a1, a.ageing.a2, a.ageing.a3]) ∧
       (soc ≤ a.socMin → t.split.pDisEff = 0) ∧
       ((a.socMin : Int) < soc → soc < a.socLowTaper →
         t.split.pDisEff = (dis * (soc - a.socMin)).tdiv (a.socLowTaper - a.socMin)) ∧
       ((a.socMin : Int) < soc → (a.socLowTaper : Int) ≤ soc → t.split.pDisEff = dis) ∧
       ((a.socMax : Int) ≤ soc → t.split.pChgEff = 0) ∧
       (soc < a.socMax → (a.socHiTaper : Int) < soc →
         t.split.pChgEff = (chg * (a.socMax - soc)).tdiv (a.socMax - a.socHiTaper)) ∧
       (soc < a.socMax → soc ≤ a.socHiTaper → t.split.pChgEff = chg)) ∧
      t.split.mode = (if s.stale .brake = false ∧ 0 < s.env.brake.tRr then .braking
        else if 0 < s.env.vehicle.tDrv then .drive else .coast) ∧
      t.split.hDrive = max 0 (t.split.pDisEff +
        (if s.stale .genset then 0 else s.env.genset.pGs) - s.env.vehicle.pAux) ∧
      t.split.hRegen = max 0 (t.split.pChgEff + s.env.vehicle.pAux -
        (if s.stale .genset then s.env.genset.pGsAvail else s.env.genset.pGs)) ∧
      (let n := max (s.env.traction.n.natAbs : Int) s.rc.applied.nFloor
       let plDrive := min 3000 ((t.split.hDrive * 955).tdiv n)
       let plRegen := min 3000 ((t.split.hRegen * 955).tdiv n)
       let v := s.env.brake.v
       let fade := if (s.rc.applied.vFadeHi : Int) ≤ v then 3000 else if v ≤ s.rc.applied.vFadeLo then 0
         else (3000 * (v - s.rc.applied.vFadeLo)).tdiv (s.rc.applied.vFadeHi - s.rc.applied.vFadeLo)
       let least := min (min s.env.traction.tGenMax plRegen) fade
       let cap := match t.split.dir with
         | .forward => (3000 : Int)
         | .reverse => s.rc.applied.tRevCap
         | .neutral => 0
       t.split.lDrive = (if t.split.mode ≠ .drive ∨ s.hardActive = true ∨ s.rc.runState ≠ .active then 0
         else min (min s.env.traction.tMotMax plDrive) cap) ∧
       t.split.lRegen = (if s.rc.runState ≠ .active ∨ s.hardActive = true ∨ t.split.mode ≠ .braking ∨
           t.split.dir ≠ .forward ∨ s.causeActive .slip = true ∨ s.causeActive .linkBrake = true then 0
         else least) ∧
       (s.rc.runState ≠ .active → t.split.source = .notActive) ∧
       (s.rc.runState = .active → s.hardActive = true → t.split.source = .hardCause) ∧
       (s.rc.runState = .active → s.hardActive = false →
         (t.split.mode ≠ .braking ∨ s.causeActive .linkBrake = true → t.split.source = .notBraking) ∧
         (t.split.mode = .braking → s.causeActive .linkBrake = false →
           (t.split.dir ≠ .forward → t.split.source = .notForward) ∧
           (t.split.dir = .forward → s.causeActive .slip = true → t.split.source = .slip) ∧
           (t.split.dir = .forward → s.causeActive .slip = false →
             (t.split.lRegen = fade → t.split.source = .fade) ∧
             (t.split.lRegen ≠ fade → t.split.lRegen = plRegen → t.split.source = .power) ∧
             (t.split.lRegen ≠ fade → t.split.lRegen ≠ plRegen → t.split.source = .generator))))) ∧
      t.split.q = (match t.split.mode with
        | .drive => if s.causeActive .linkBrake = true ∨ s.causeActive .linkVehicle = true ∨
            s.causeActive .doorInterlock = true then 0 else s.env.vehicle.tDrv
        | .braking => -s.env.brake.tRr
        | .coast => 0) ∧
      t.split.grant = (if t.split.tMc < 0 then -t.split.tMc else 0) ∧
      t.split.friction = (if s.stale .brake then 0 else s.env.brake.tRr) - t.split.grant ∧
      Changes [.clock, .cutback, .split, .genset, .recorder, .ports] s t

/-- The genset manager's step (R105 to R118) in the evaluation: every state, timer, count, cause and notice, that of ZONE_BREACH
too (R49). -/
def Obligations.EvaluationStepsGensetManager : Prop :=
  ∀ (d : Nat) (s : State), s.running = true → s.rc.runState = .standby ∨ s.rc.runState = .active →
    s.split.evalDue = some d → ∃ t, exec .evaluation s = .next t ∧
      (let zoneStop := s.env.vehicle.zone = true ∧ (s.rc.applied.socReserve : Int) + 500 < s.env.storage.soc
       let stopped := s.env.genset.state = .off ∨ s.env.genset.state = .fault
       let warm := s.env.genset.state = .warmup ∨ s.env.genset.state = .ready
       let startEnded := s.gen.start = none ∨ ∃ e, s.gen.start = some e ∧ e ≤ t.now
       let runEnded := s.gen.minRun = none ∨ ∃ e, s.gen.minRun = some e ∧ e ≤ t.now
       let offEnded := s.gen.minOff = none ∨ ∃ e, s.gen.minOff = some e ∧ e ≤ t.now
       let wanted := s.gen.inhibit = false ∧ offEnded ∧
         (s.env.storage.soc < s.rc.applied.socStart ∨ (t.split.pDisEff * 3).tdiv 4 < t.gen.dAvg) ∧
         (s.env.vehicle.zone = false ∨ s.env.storage.soc ≤ s.rc.applied.socReserve)
       let stopTest := (s.rc.applied.socStop : Int) ≤ s.env.storage.soc ∧ t.gen.dAvg ≤ t.split.pDisEff.tdiv 2 ∧ runEnded
       let absorbTest := t.split.mode = .braking ∧ 2 ≤ s.highestThermal ∧
         (s.rc.applied.socHiTaper : Int) ≤ s.env.storage.soc ∧ s.env.genset.state = .ready ∧
         s.env.vehicle.zone = false ∧ 0 < s.env.genset.pAbsMax
       let counted := t.gen.failCount = s.gen.failCount ∧ t.gen.inhibit = s.gen.inhibit
       let quiet := counted ∧ t.causeActive .gensetStartFail = s.causeActive .gensetStartFail ∧ s.RecordedAs t
       let failed := t.gen.mgr = .off ∧ t.gen.failCount = s.gen.failCount + 1 ∧
         t.gen.inhibit = (s.gen.inhibit || decide (s.rc.applied.nStartFail ≤ s.gen.failCount + 1)) ∧
         t.causeActive .gensetStartFail = true ∧ t.AllNoticed .gensetEvent ∧
         ((s.setNow t.now).trigger .gensetFail).RecordedAs t
       let stopping := t.gen.mgr = (if s.env.genset.state = .off then .off else .stopRequested) ∧ quiet
       (s.rc.runState = .active → t.gen.dAvg = s.gen.dAvg +
         ((t.split.tMc * (s.env.traction.n.natAbs : Int)).tdiv 955 + s.env.vehicle.pAux - s.gen.dAvg).tdiv 64) ∧
       (s.rc.runState = .standby → t.gen.dAvg = s.gen.dAvg ∧ t.gen.setpoint = 0 ∧
         (s.gen.mgr = .off → t.gen.mgr = .off)) ∧
       (s.stale .genset = true → t.gen.mgr = .off) ∧
       (s.rc.runState = .standby ∨ s.stale .genset = true ∨ s.gen.mgr ≠ .startRequested → quiet) ∧
       (s.rc.runState = .standby → s.stale .genset = false →
         s.gen.mgr = .startRequested ∨ s.gen.mgr = .run ∨ s.gen.mgr = .absorb → stopping) ∧
       (s.gen.mgr = .stopRequested → s.stale .genset = false →
         t.gen.mgr = (if stopped then .off else .stopRequested)) ∧
       (s.rc.runState = .active → s.stale .genset = false →
         (s.gen.mgr = .off → wanted → t.gen.mgr = .startRequested ∧ t.gen.setpoint = 0) ∧
         (s.gen.mgr = .off → ¬ wanted → t.gen.mgr = .off) ∧
         (s.gen.mgr = .startRequested → zoneStop → stopping) ∧
         (s.gen.mgr = .startRequested → ¬ zoneStop → warm → t.gen.mgr = .run ∧ t.gen.failCount = 0 ∧
           t.gen.inhibit = s.gen.inhibit ∧ t.causeActive .gensetStartFail = false ∧ s.RecordedAs t) ∧
         (s.gen.mgr = .startRequested → ¬ zoneStop → ¬ warm → s.env.genset.state = .fault ∨ startEnded → failed) ∧
         (s.gen.mgr = .startRequested → ¬ zoneStop → ¬ warm → s.env.genset.state ≠ .fault → ¬ startEnded →
           t.gen.mgr = .startRequested ∧ quiet) ∧
         (s.gen.mgr = .run ∨ s.gen.mgr = .absorb → stopped → t.gen.mgr = .off ∧ t.AllNoticed .gensetEvent) ∧
         (s.gen.mgr = .run ∨ s.gen.mgr = .absorb → ¬ stopped → zoneStop → t.gen.mgr = .stopRequested) ∧
         (s.gen.mgr = .run → ¬ stopped → ¬ zoneStop → stopTest → t.gen.mgr = .stopRequested) ∧
         (s.gen.mgr = .run → ¬ stopped → ¬ zoneStop → ¬ stopTest → absorbTest → t.gen.mgr = .absorb) ∧
         (s.gen.mgr = .run → ¬ stopped → ¬ zoneStop → ¬ stopTest → ¬ absorbTest → t.gen.mgr = .run) ∧
         (s.gen.mgr = .absorb → ¬ stopped → ¬ zoneStop →
           let leaves := s.env.vehicle.zone = true ∨ s.highestThermal = 0 ∨
             s.env.storage.soc < (s.rc.applied.socHiTaper : Int) - 300 ∨ s.env.genset.state ≠ .ready ∨
             (t.split.mode ≠ .braking ∧ ∃ e, s.gen.absExit = some e ∧ e ≤ t.now)
           (leaves → t.gen.mgr = .run) ∧ (¬ leaves → t.gen.mgr = .absorb))) ∧
       (∀ p, (t.ports.get p).hasNotice .gensetEvent = true ↔ (s.ports.get p).hasNotice .gensetEvent = true ∨
         s.rc.runState = .active ∧ s.stale .genset = false ∧
           (s.gen.mgr = .startRequested ∧ ¬ zoneStop ∧ ¬ warm ∧ (s.env.genset.state = .fault ∨ startEnded) ∨
             (s.gen.mgr = .run ∨ s.gen.mgr = .absorb) ∧ stopped)) ∧
       t.gen.minRun = (if s.gen.mgr = .startRequested ∧ t.gen.mgr = .run then some (t.now + s.rc.applied.tMinRun * 1000)
         else if s.gen.mgr ≠ t.gen.mgr ∧ (t.gen.mgr = .off ∨ t.gen.mgr = .stopRequested) then none
         else s.gen.minRun) ∧
       t.gen.start = (if s.gen.mgr = .off ∧ t.gen.mgr = .startRequested then some (t.now + s.rc.applied.tStart * 1000)
         else if s.gen.mgr ≠ t.gen.mgr ∧
           (s.gen.mgr = .startRequested ∨ t.gen.mgr = .off ∨ t.gen.mgr = .stopRequested) then none
         else s.gen.start) ∧
       t.gen.absExit = (if s.gen.mgr ≠ t.gen.mgr ∧
           (s.gen.mgr = .absorb ∨ t.gen.mgr = .absorb ∨ t.gen.mgr = .off ∨ t.gen.mgr = .stopRequested) then none
         else if s.gen.mgr ≠ .absorb then s.gen.absExit
         else if t.split.mode = .braking then none
         else if s.gen.absExit = none then some (t.now + s.rc.applied.tAbsExit * 1000)
         else s.gen.absExit) ∧
       (s.gen.mgr ≠ .off → t.gen.mgr = .off → t.gen.minOff = some (t.now + s.rc.applied.tMinOff * 1000)) ∧
       (s.gen.mgr = .off ∨ t.gen.mgr ≠ .off →
         (offEnded → t.gen.minOff = none) ∧ (¬ offEnded → t.gen.minOff = s.gen.minOff))) ∧
      s.highestThermal =
        max s.wear.lining.front.level.code (max s.wear.lining.middle.level.code s.wear.lining.rear.level.code) ∧
      s.ZoneNoticed t ∧ s.CausesTold t ∧ t.cut = { s.cut with live := t.cut.live } ∧
      State.NoticesWithin [.cutbackChange, .zoneBreach, .gensetEvent, .snapshotComplete, .triggerMissed] s t ∧
      (s.env.vehicle.zone = true → t.gen.mgr ≠ .startRequested → t.gen.mgr ≠ .run →
        s.gen.mgr = .off ∨ t.gen.mgr ≠ .off → t.causeActive .zoneBreach = s.causeActive .zoneBreach) ∧
      (s.env.vehicle.zone = true → t.gen.mgr = .startRequested ∨ t.gen.mgr = .run →
        t.causeActive .zoneBreach = true) ∧
      (s.env.vehicle.zone = false ∨ s.gen.mgr ≠ .off ∧ t.gen.mgr = .off → t.causeActive .zoneBreach = false) ∧
      (∀ c, c ≠ .zoneBreach → c ≠ .gensetStartFail → t.causeActive c = s.causeActive c)

/-- The setpoint of an evaluation (R118, R119). -/
def Obligations.EvaluationSetsGensetPower : Prop :=
  ∀ (d : Nat) (s : State), s.running = true → s.rc.runState = .standby ∨ s.rc.runState = .active →
    s.split.evalDue = some d → ∃ t, exec .evaluation s = .next t ∧
      (s.hardActive = true ∨ s.rc.runState = .standby → t.gen.setpoint = 0) ∧
      (s.hardActive = false → s.rc.runState = .active →
        (t.gen.mgr = .off ∨ t.gen.mgr = .startRequested ∨ t.gen.mgr = .stopRequested → t.gen.setpoint = 0) ∧
        (t.gen.mgr = .run → s.env.genset.state ≠ .ready → t.gen.setpoint = 0) ∧
        (t.gen.mgr = .run → s.env.genset.state = .ready →
          (let x := t.gen.dAvg +
             (((s.rc.applied.socTarget : Int) - s.env.storage.soc) * s.rc.applied.kSoc).tdiv 100
           let lo : Int := s.rc.applied.pGsMinRun
           (s.env.genset.pGsAvail < lo → t.gen.setpoint = s.env.genset.pGsAvail) ∧
           (lo ≤ s.env.genset.pGsAvail →
             t.gen.setpoint = max lo (min x s.env.genset.pGsAvail)))) ∧
        (t.gen.mgr = .absorb → 0 < t.split.grant → t.gen.setpoint = -s.env.genset.pAbsMax) ∧
        (t.gen.mgr = .absorb → t.split.grant ≤ 0 → t.gen.setpoint = 0))

/-- The energy of an evaluation at every port (R122, R123, R125). -/
def Obligations.EvaluationAddsEnergy : Prop :=
  (∀ (d : Nat) (s : State), s.running = true → s.rc.runState = .standby ∨ s.rc.runState = .active →
    s.split.evalDue = some d → ∃ t, exec .evaluation s = .next t ∧
      (let motor := (t.split.tMc * (s.env.traction.n.natAbs : Int)).tdiv 955
       let gs := if s.stale .genset then 0 else s.env.genset.pGs
       ∀ p, (t.ports.get p).counters =
         { motor := (s.ports.get p).counters.motor.add motor
           aux := (s.ports.get p).counters.aux.add s.env.vehicle.pAux
           gs := (s.ports.get p).counters.gs.add gs
           bat := (s.ports.get p).counters.bat.add (motor + s.env.vehicle.pAux - gs)
           fric := (s.ports.get p).counters.fric }) ∧
      ∀ p, PortChanges [.notices, .missed, .latch, .counters] s t p) ∧
  ∀ (f : Flow) (x : Int),
    (f.saturated = true → f.add x = f) ∧
    (f.saturated = false →
      (2147483647 < f.joules + x → f.add x = ⟨2147483647, true⟩) ∧
      (f.joules + x < -2147483647 → f.add x = ⟨-2147483647, true⟩) ∧
      (-2147483647 ≤ f.joules + x → f.joules + x ≤ 2147483647 → f.add x = ⟨f.joules + x, false⟩))

/-! ### Timers, the wear store and the recorder -/

/-- The expiry of a running deadline (R19, R33, R45, R53, R141, R142); of a stale role it stops the timer and no more (entry
15). A stopped deadline brings nothing about (entry 2, MODEL'S CHOICE). -/
def Obligations.DeadlineExpiryMakesStale : Prop :=
  ∀ (r : Role) (s : State), s.running = true →
    ((s.env.book.get r).deadline = none → exec (.linkDeadlineExpiry r) s = .next s) ∧
    (∀ d, (s.env.book.get r).deadline = some d → s.stale r = true → ∃ t,
      exec (.linkDeadlineExpiry r) s = .next t ∧
      t.env = { s.env with book := s.env.book.set r { s.env.book.get r with deadline := none } } ∧
      Changes [.clock, .envelope] s t) ∧
    (∀ d, (s.env.book.get r).deadline = some d → s.stale r = false → ∃ t,
      exec (.linkDeadlineExpiry r) s = .next t ∧ t.now = max s.now d ∧
      t.env = { s.env with book := s.env.book.set r { s.env.book.get r with deadline := none, stale := true } } ∧
      t.causeActive (linkCause r) = true ∧
      (r = .brake → t.causeActive .slip = false ∧ t.cut.slipTimer = .idle) ∧
      (r ≠ .brake → t.causeActive .slip = s.causeActive .slip ∧ t.cut.slipTimer = s.cut.slipTimer) ∧
      (∀ c, c ≠ linkCause r → c ≠ .slip → t.causeActive c = s.causeActive c) ∧
      t.cut = { s.cut with live := t.cut.live, slipTimer := t.cut.slipTimer } ∧ s.CausesTold t ∧
      (s.causeActive (linkCause r) = false → ((s.setNow t.now).trigger .cutback).RecordedAs t) ∧
      (s.causeActive (linkCause r) = true → s.RecordedAs t) ∧
      State.NoticesWithin [.cutbackChange, .snapshotComplete, .triggerMissed] s t ∧
      (r = .traction → s.causeActive .linkTraction = false →
        t.split = { s.split with
          tMc := 0, grant := 0, lDrive := 0, lRegen := 0, friction := s.takenTRr, source := .hardCause, valid := false } ∧
        t.gen = { s.gen with setpoint := 0 }) ∧
      (r ≠ .traction → t.split = s.split ∧ t.gen = s.gen) ∧
      s.ClaimDropped (fun q => s.roleOf q = some r) t ∧
      t.rc = { s.rc with staged := t.rc.staged, claim := t.rc.claim } ∧ s.CodesWorsened t ∧
      (∀ q, PortChanges [.assembly, .notices, .missed, .latch, .codes] s t q) ∧
      Changes [.clock, .runControl, .envelope, .cutback, .split, .genset, .recorder, .ports] s t)

/-- The timers whose end changes little: the slip hold timer becomes EXPIRED with SLIP as it is (R52), a timer of the genset
manager only lets time come (R105), the periodic checkpoint timer requests a checkpoint and runs on (R151). A stopped timer
brings nothing about (entry 2, MODEL'S CHOICE). -/
def Obligations.TimersRunOut : Prop :=
  ∀ s : State, s.running = true →
    (∀ e, s.rc.runState ≠ .selfCheck → s.cut.slipTimer = .running e → ∃ t, exec .slipHoldExpiry s = .next t ∧
      t.now = max s.now e ∧ t.cut = { s.cut with slipTimer := .expired } ∧ Changes [.clock, .cutback] s t) ∧
    (s.rc.runState = .selfCheck ∨ s.cut.slipTimer = .idle ∨ s.cut.slipTimer = .expired →
      exec .slipHoldExpiry s = .next s) ∧
    (∀ (g : GensetTimer) (e : Nat), s.gen.timer g = some e → ∃ t, exec (.gensetTimerEnd g) s = .next t ∧
      t.now = max s.now e ∧ Changes [.clock] s t) ∧
    (∀ g : GensetTimer, s.gen.timer g = none → exec (.gensetTimerEnd g) s = .next s) ∧
    (∀ e, s.store.timer = some e → ∃ t, exec .periodicCheckpointExpiry s = .next t ∧ t.now = max s.now e ∧
      Store.Requested { s.store with timer := some (t.now + s.rc.applied.tCheckpoint * 1000) } t.store s.totals
        t.now ∧
      s.FaultTold t ∧ (∀ c, c ≠ .wearStoreFault → t.causeActive c = s.causeActive c) ∧
      t.cut = { s.cut with live := t.cut.live } ∧ s.CausesTold t ∧
      State.NoticesWithin [.cutbackChange, .storeFault] s t ∧ (∀ q, PortChanges [.notices, .latch] s t q) ∧
      Changes [.clock, .store, .cutback, .ports] s t) ∧
    (s.store.timer = none → exec .periodicCheckpointExpiry s = .next s)

/-- The end of a record write (R155, R156, R157): the record lies in the slot, and on a match the checkpoint ends, its ports
are told, and a pending one begins; on a mismatch another attempt follows, an erase first when the segment is full, and
after the third, or with no sequence number left, the store enters fault. The thirteen words of a record with their CRC
(R149), and the number an attempt takes (R156). That no attempts are counted after a checkpoint is the MODEL'S CHOICE (entry
20), which cells fail is an operand, its choice too (entry 8), and the last number passed over for its CRC is DEDUCED (entry
32). -/
def Obligations.WriteVerified : Prop :=
  (∀ (n : Nat) (totals : PerItem Nat), (journalRecord n totals).length = 13 ∧
    (n ≤ 4294967295 → TwoWords (journalRecord n totals)[0]? (journalRecord n totals)[1]? n) ∧
    (∀ (k : Nat) (item : WearItem), itemOfNumber k = some item → totals.get item ≤ 4294967295 →
      TwoWords (journalRecord n totals)[2 + 2 * k]? (journalRecord n totals)[3 + 2 * k]? (totals.get item)) ∧
    (journalRecord n totals)[12]? = some (serialCrc ((journalRecord n totals).take 12))) ∧
  (∀ (x : Store) (totals : PerItem Nat), x.record = some totals →
    x.recordTotals = totals ∧ x.intended = journalRecord x.lastUsed totals) ∧
  (∀ (used : Nat) (totals : PerItem Nat),
    let bad := (journalRecord (used + 1) totals)[12]? = some 0xFFFF#16
    (4294967294 ≤ used → nextSequence used totals = (none, used)) ∧
    (used < 4294967294 → ¬ bad → nextSequence used totals = (some (used + 1), used + 1)) ∧
    (used < 4294967293 → bad → nextSequence used totals = (some (used + 2), used + 2)) ∧
    (used = 4294967293 → bad → nextSequence used totals = (none, 4294967294))) ∧
  ∀ (faults : CellFaults) (d : Nat) (s : State), s.running = true → s.store.phase = .writing →
    s.store.endAt = some d → ∃ t, exec (.writeVerify faults) s = .next t ∧
      (let a := slotAddress s.store.active s.store.pos
       let read := (List.range 13).map (fun k => t.store.journal.read (a + k))
       (∀ b, b < a ∨ a + 13 ≤ b → t.store.journal.read b = s.store.journal.read b) ∧
       (faults = [] → s.JournalCanonical → ∀ k, k < 13 →
         t.store.journal.read (a + k) = s.store.intended.getD k 0#16 &&& s.store.journal.read (a + k)) ∧
       (read = s.store.intended →
         (∀ q, s.store.current.get q = true → (t.ports.get q).hasNotice .checkpointDone = true) ∧
         (∀ q, s.store.current.get q = false →
           (t.ports.get q).hasNotice .checkpointDone = (s.ports.get q).hasNotice .checkpointDone) ∧
         (let done := { s.store with
            journal := t.store.journal, pos := s.store.pos + 1, lastVerified := s.store.lastUsed, phase := .idle
            record := none, attempts := 0, endAt := none, current := noPorts }
          (s.store.pendingFlag = false → t.store = done ∧ Changes [.clock, .store, .ports] s t) ∧
          (s.store.pendingFlag = true → Store.Started
            { done with pendingFlag := false, current := s.store.waiting, waiting := noPorts } t.store s.totals t.now))) ∧
       (read ≠ s.store.intended →
         (∀ q, (t.ports.get q).hasNotice .checkpointDone = (s.ports.get q).hasNotice .checkpointDone) ∧
         (let spent := { s.store with journal := t.store.journal, pos := s.store.pos + 1 }
          let next := nextSequence s.store.lastUsed s.store.recordTotals
          (s.store.attempts < 3 → s.store.pos + 1 < 32 → ∀ n, next.1 = some n → t.store = { spent with
            attempts := s.store.attempts + 1, lastUsed := n, endAt := some (t.now + 20) }) ∧
          (s.store.attempts < 3 → s.store.pos + 1 < 32 → next.1 = none → spent.Failed t next.2) ∧
          (s.store.attempts < 3 → 32 ≤ s.store.pos + 1 →
            t.store = { spent with phase := .erasing, endAt := some (t.now + 150) }) ∧
          (3 ≤ s.store.attempts → spent.Failed t s.store.lastUsed))) ∧
       (s.store.fault = false → s.FaultTold t) ∧ (∀ c, c ≠ .wearStoreFault → t.causeActive c = s.causeActive c) ∧
       t.cut = { s.cut with live := t.cut.live } ∧ s.CausesTold t ∧
       State.NoticesWithin [.checkpointDone, .cutbackChange, .storeFault] s t ∧ (∀ q, PortChanges [.notices, .latch] s t q) ∧
       t.wear = s.wear ∧ Changes [.clock, .cutback, .store, .ports] s t)

/-- The end of an erase (R155, R156, R157): with every word erased the segment is the active one and the checkpoint's write
begins at its slot 0; otherwise, or with no sequence number left, the store enters fault. Which cells read otherwise is an
operand, the MODEL'S CHOICE (entry 8), and so is that no attempts are counted in fault (entry 20); the last number passed over
for its CRC is DEDUCED (entry 32). -/
def Obligations.EraseEnded : Prop :=
  ∀ (faults : CellFaults) (d : Nat) (s : State), s.running = true → s.store.phase = .erasing →
    s.store.endAt = some d → ∃ t, exec (.eraseEnd faults) s = .next t ∧
      (let base := s.store.active.other.base
       (∀ b, b < base ∨ base + 416 ≤ b → t.store.journal.read b = s.store.journal.read b) ∧
       (s.JournalCanonical → ∀ k, k < 416 → (∀ c ∈ faults, c.1 ≠ k) → t.store.journal.read (base + k) = 0xFFFF#16) ∧
       (let erased := { s.store with
          journal := t.store.journal, cutErase := s.store.cutErase.set s.store.active.other false }
        let next := nextSequence s.store.lastUsed s.store.recordTotals
        ((∀ k, k < 416 → t.store.journal.read (base + k) = 0xFFFF#16) →
          (∀ n, next.1 = some n → t.store = { erased with
            active := s.store.active.other, pos := 0, phase := .writing, attempts := s.store.attempts + 1, lastUsed := n
            endAt := some (t.now + 20) } ∧ Changes [.clock, .store] s t) ∧
          (next.1 = none → { erased with active := s.store.active.other, pos := 0 }.Failed t next.2)) ∧
        ((∃ k, k < 416 ∧ t.store.journal.read (base + k) ≠ 0xFFFF#16) → erased.Failed t s.store.lastUsed)) ∧
       (s.store.fault = false → s.FaultTold t) ∧ (∀ c, c ≠ .wearStoreFault → t.causeActive c = s.causeActive c) ∧
       t.cut = { s.cut with live := t.cut.live } ∧ s.CausesTold t ∧
       State.NoticesWithin [.cutbackChange, .storeFault] s t ∧ (∀ q, PortChanges [.notices, .latch] s t q) ∧
       t.wear = s.wear ∧ Changes [.clock, .cutback, .store, .ports] s t)

/-- A record that a write attempt verifies outlives a power failure: the next power-on finds it the newest and takes the totals
from it (R148, R149, R156, R158, R159). -/
def Obligations.SavedTotalsOutlivePowerFailure : Prop :=
  ∀ (straps : PerPort (BitVec 3)) (cut : WriteCut) (d : Nat) (totals : PerItem Nat) (s : State),
    s.running = true → s.store.phase = .writing → s.store.endAt = some d → s.store.record = some totals →
    s.JournalCanonical → s.store.pendingFlag = false → s.store.pos < 32 → s.store.cutErase.get s.store.active = false →
    (∀ item, totals.get item ≤ 4294967295) → 1 ≤ s.store.lastUsed → s.store.lastUsed ≤ 4294967294 →
    crc (recordBody s.store.lastUsed totals) ≠ 0xFFFF#16 →
    (∀ k, k < 13 → s.store.journal.read (slotAddress s.store.active s.store.pos + k) = 0xFFFF#16) →
    (∀ v ∈ scanSlots s.store.journal s.store.cutErase, v.valid = true → v.sequence < s.store.lastUsed) →
    ∃ t u v, exec (.writeVerify []) s = .next t ∧ exec (.powerFailure cut) t = .next u ∧
      exec (.powerOn straps) u = .next v ∧ t.store.lastVerified = s.store.lastUsed ∧
      v.store.lastVerified = s.store.lastUsed ∧ v.store.active = s.store.active ∧
      ∀ item, (v.wear.items.get item).total = totals.get item

/-- A sample (R160, R161, R163, R164, R170, R171, R176): the ring, the level and its timers, descriptors and dumps; in another
recorder state, and after sample 4294967295 (R161), no sample: the clock alone. That the clock moves to the time it was due, or
stays when later, and the period counts on from there, is the MODEL'S CHOICE (entry 2). -/
def Obligations.SampleRecorded : Prop :=
  ∀ (d : Nat) (s : State), s.running = true → s.rcd.due = some d →
    (s.rcd.state ≠ .recording ∨ 4294967295 < s.rcd.next → ∃ t, exec .sample s = .next t ∧
      t.now = max s.now d ∧ Changes [.clock] s t) ∧
    (s.rcd.state = .recording → s.rcd.next ≤ 4294967295 → ∃ t, exec .sample s = .next t ∧
      t.now = max s.now d ∧
      t.rcd.ring = (({
        number := s.rcd.next, v := s.env.brake.v, n := s.env.traction.n, tMc := s.split.tMc
        tRr := if s.stale .brake then 0 else s.env.brake.tRr
        pGs := if s.stale .genset then 0 else s.env.genset.pGs
        soc := s.env.storage.soc, causes := s.cut.live, runState := s.rc.runState, mode := s.split.mode
        mgr := s.gen.mgr, dir := s.split.dir, level := s.rcd.level } : Sample) :: s.rcd.ring).take 8192 ∧
      t.rcd.next = s.rcd.next + 1 ∧ t.rcd.empty = false ∧
      (let still := s.env.brake.v = 0 ∧ s.env.vehicle.tDrv = 0 ∧ (s.stale .brake = true ∨ s.env.brake.tRr = 0) ∧
         s.split.tMc = 0
       (¬ still → t.rcd.still = none ∧ t.rcd.level = s.rcd.level) ∧
       (still → s.rcd.still = none → t.rcd.still = some t.now ∧ t.rcd.level = s.rcd.level) ∧
       (∀ e, still → s.rcd.still = some e → t.rcd.still = some e ∧
         (e + 300000 ≤ t.now → t.rcd.level = .rest2) ∧
         (t.now < e + 300000 → e + 30000 ≤ t.now → s.rcd.level = .run → t.rcd.level = .rest1) ∧
         (t.now < e + 300000 → t.now < e + 30000 ∨ s.rcd.level ≠ .run → t.rcd.level = s.rcd.level))) ∧
      (∀ id, (let x := s.rcd.table.get id
        let lost := 8192 ≤ s.rcd.next ∧ x.first ≤ s.rcd.next - 8192
        (x.state = .free ∨ x.state = .overwritten → t.rcd.table.get id = x) ∧
        (x.state = .complete → lost → t.rcd.table.get id = { x with state := .overwritten } ∧
          t.AllNoticed .snapshotOverwritten) ∧
        (x.state = .complete → ¬ lost → t.rcd.table.get id = x) ∧
        (x.state = .collecting → x.last ≤ s.rcd.next → t.rcd.table.get id = { x with state := .complete } ∧
          t.AllNoticed .snapshotComplete) ∧
        (x.state = .collecting → s.rcd.next < x.last → t.rcd.table.get id = x))) ∧
      State.NoticesWithin [.snapshotComplete, .snapshotOverwritten] s t ∧
      (∀ p, ((t.ports.get p).hasNotice .snapshotComplete = true ↔ (s.ports.get p).hasNotice .snapshotComplete = true ∨
          ∃ id, (s.rcd.table.get id).state ≠ .complete ∧ (t.rcd.table.get id).state = .complete) ∧
        ((t.ports.get p).hasNotice .snapshotOverwritten = true ↔
          (s.ports.get p).hasNotice .snapshotOverwritten = true ∨
            ∃ id, (s.rcd.table.get id).state ≠ .overwritten ∧ (t.rcd.table.get id).state = .overwritten)) ∧
      (t.rcd.table.frozen = true →
        (∃ id, (t.rcd.table.get id).state ≠ (s.rcd.table.get id).state ∧ (t.rcd.table.get id).state = .complete) →
        t.rcd.state = .frozen ∧ t.rcd.due = none) ∧
      (s.rc.runState = .standby ∨ s.rc.runState = .active ∨ (∀ id, (s.rcd.table.get id).state ≠ .collecting) →
        ¬ (t.rcd.table.frozen = true ∧
          ∃ id, (t.rcd.table.get id).state ≠ (s.rcd.table.get id).state ∧ (t.rcd.table.get id).state = .complete) →
        t.rcd.state = .recording ∧ t.rcd.due = some (t.now + t.rcd.level.period)) ∧
      (SamplingLevel.run.period = 20 ∧ SamplingLevel.rest1.period = 100 ∧ SamplingLevel.rest2.period = 1000) ∧
      (∀ p, (s.ports.get p).dump.status ≠ .streaming → (t.ports.get p).dump = (s.ports.get p).dump) ∧
      (∀ p, (s.ports.get p).dump.status = .streaming → 8192 ≤ s.rcd.next →
        (s.ports.get p).dump.next ≤ s.rcd.next - 8192 →
        (t.ports.get p).dump = { (s.ports.get p).dump with status := .ended, reason := some .lost }) ∧
      (∀ p, (s.ports.get p).dump.status = .streaming → (s.ports.get p).dump.next = s.rcd.next →
        (s.ports.get p).dump.queue.length ≤ 6 → s.rcd.next ≤ (s.ports.get p).dump.last →
        (∃ x, t.rcd.ring.head? = some x ∧
          (t.ports.get p).dump.queue = (s.ports.get p).dump.queue ++ x.words) ∧
        (t.ports.get p).dump.next = s.rcd.next + 1 ∧
        (t.ports.get p).dump.source = (s.ports.get p).dump.source ∧
        (t.ports.get p).dump.last = (s.ports.get p).dump.last ∧
        ((s.ports.get p).dump.last = s.rcd.next →
          (t.ports.get p).dump.status = .ended ∧ (t.ports.get p).dump.reason = some .done) ∧
        ((s.ports.get p).dump.last ≠ s.rcd.next → (t.ports.get p).dump.status = .streaming ∧
          (t.ports.get p).dump.reason = (s.ports.get p).dump.reason)) ∧
      (∀ p, let d := (s.ports.get p).dump
        d.status = .streaming → s.rcd.next < 8192 ∨ s.rcd.next - 8192 < d.next →
          (6 < d.queue.length ∨ d.last < d.next ∨ s.rcd.next < d.next ∨ t.rcd.sampleNumber d.next = none →
            (t.ports.get p).dump = d) ∧
          ∀ x, d.queue.length ≤ 6 → d.next ≤ d.last → d.next ≤ s.rcd.next → t.rcd.sampleNumber d.next = some x →
            (t.ports.get p).dump = { d with
              queue := d.queue ++ x.words, next := d.next + 1
              status := if d.next = d.last then .ended else .streaming
              reason := if d.next = d.last then some .done else d.reason }) ∧
      (∀ p, PortChanges [.notices, .dump] s t p) ∧ Changes [.clock, .recorder, .ports] s t)

/-! ### What every step keeps -/

/-- The state right after reset has every property below. -/
def Obligations.ResetHasInvariants : Prop :=
  State.reset.StopsCommands ∧ State.reset.env.InRange ∧ State.reset.TorqueInLimits ∧ State.reset.AbsorbsOnGrant ∧
  State.reset.LatchesLive ∧ State.reset.FaultMarked ∧ State.reset.ZoneMarked ∧ State.reset.EnergyBalanced ∧
  State.reset.QueuesBounded ∧ State.reset.SettingsConsistent ∧ State.reset.TimersFollow ∧ State.reset.ClaimBound ∧
  State.reset.LevelsMatch ∧ State.reset.CodesCover ∧ State.reset.RecorderSettled ∧ State.reset.RingWhole ∧
  State.reset.OneCollecting ∧ State.reset.SnapshotsRetained ∧ State.reset.JournalCanonical ∧ State.reset.store.Sound

/-- Outside ACTIVE and under a hard cause nothing is commanded; torque stays in its limits and in the sense of the mode; the
setpoint is negative only in ABSORB on a grant; report fields stay in their ranges (R22, R73, R92, R119). -/
def Obligations.TorqueSafetyKept : Prop :=
  Kept fun s => s.env.InRange ∧ s.StopsCommands ∧ s.TorqueInLimits ∧ s.AbsorbsOnGrant

/-- Every active cause is in every latch set, the fault flag marks WEAR_STORE_FAULT, and a zone is marked (R57, R117, R150). -/
def Obligations.CauseSetsKept : Prop := Kept fun s => s.LatchesLive ∧ s.FaultMarked ∧ s.ZoneMarked

/-- E_bat balances and dump queues are bounded at every port (R126, R174). -/
def Obligations.PortBooksKept : Prop := Kept fun s => s.EnergyBalanced ∧ s.QueuesBounded

/-- The applied settings satisfy every condition of APPLY, the claim is where it may be, the timers follow the run state and the
recorder state (R13, R18, R19, R32, R59, R151, R162, R163). -/
def Obligations.RunControlKept : Prop :=
  Kept fun s => s.SettingsConsistent ∧ s.ClaimBound ∧ s.RecorderSettled ∧ s.TimersFollow

/-- Levels match totals and stored codes are at least as bad as the current status (R138, R142). -/
def Obligations.WearLevelsKept : Prop := Kept fun s => s.LevelsMatch ∧ s.CodesCover

/-- The ring has no gap, the samples of kept snapshots are retained, no cause collects twice (R161, R167, R170, R171). -/
def Obligations.HistoryKept : Prop :=
  Kept fun s => s.SettingsConsistent ∧ s.RingWhole ∧ s.OneCollecting ∧ s.SnapshotsRetained

/-- The journal's memory stays canonical and the wear store sound (R149, R150, R155 to R157; entry 22). That no attempts are
counted without a checkpoint is the MODEL'S CHOICE (entry 20). -/
def Obligations.WearStoreKept : Prop := Kept fun s => s.JournalCanonical ∧ s.store.Sound
end

