-- ==== Sys2Proof/Laws/State.lean ====
section
/-! SUPPORT. What each named update of the state does to each field, and what setting one port or role, item or
descriptor does to the others. -/

namespace Sys2Proof.Machine

variable (s : State)

@[simp] theorem setPowered_powered (x : Bool) : (s.setPowered x).powered = x := rfl
@[simp] theorem setPowered_resetAsserted (x : Bool) : (s.setPowered x).resetAsserted = s.resetAsserted := rfl
@[simp] theorem setPowered_now (x : Bool) : (s.setPowered x).now = s.now := rfl
@[simp] theorem setPowered_freeCount (x : Bool) : (s.setPowered x).freeCount = s.freeCount := rfl
@[simp] theorem setPowered_rc (x : Bool) : (s.setPowered x).rc = s.rc := rfl
@[simp] theorem setPowered_env (x : Bool) : (s.setPowered x).env = s.env := rfl
@[simp] theorem setPowered_cut (x : Bool) : (s.setPowered x).cut = s.cut := rfl
@[simp] theorem setPowered_split (x : Bool) : (s.setPowered x).split = s.split := rfl
@[simp] theorem setPowered_gen (x : Bool) : (s.setPowered x).gen = s.gen := rfl
@[simp] theorem setPowered_wear (x : Bool) : (s.setPowered x).wear = s.wear := rfl
@[simp] theorem setPowered_store (x : Bool) : (s.setPowered x).store = s.store := rfl
@[simp] theorem setPowered_rcd (x : Bool) : (s.setPowered x).rcd = s.rcd := rfl
@[simp] theorem setPowered_ports (x : Bool) : (s.setPowered x).ports = s.ports := rfl
@[simp] theorem setPowered_pending (x : Bool) : (s.setPowered x).pending = s.pending := rfl

@[simp] theorem setResetAsserted_powered (x : Bool) : (s.setResetAsserted x).powered = s.powered := rfl
@[simp] theorem setResetAsserted_resetAsserted (x : Bool) : (s.setResetAsserted x).resetAsserted = x := rfl
@[simp] theorem setResetAsserted_now (x : Bool) : (s.setResetAsserted x).now = s.now := rfl
@[simp] theorem setResetAsserted_freeCount (x : Bool) : (s.setResetAsserted x).freeCount = s.freeCount := rfl
@[simp] theorem setResetAsserted_rc (x : Bool) : (s.setResetAsserted x).rc = s.rc := rfl
@[simp] theorem setResetAsserted_env (x : Bool) : (s.setResetAsserted x).env = s.env := rfl
@[simp] theorem setResetAsserted_cut (x : Bool) : (s.setResetAsserted x).cut = s.cut := rfl
@[simp] theorem setResetAsserted_split (x : Bool) : (s.setResetAsserted x).split = s.split := rfl
@[simp] theorem setResetAsserted_gen (x : Bool) : (s.setResetAsserted x).gen = s.gen := rfl
@[simp] theorem setResetAsserted_wear (x : Bool) : (s.setResetAsserted x).wear = s.wear := rfl
@[simp] theorem setResetAsserted_store (x : Bool) : (s.setResetAsserted x).store = s.store := rfl
@[simp] theorem setResetAsserted_rcd (x : Bool) : (s.setResetAsserted x).rcd = s.rcd := rfl
@[simp] theorem setResetAsserted_ports (x : Bool) : (s.setResetAsserted x).ports = s.ports := rfl
@[simp] theorem setResetAsserted_pending (x : Bool) : (s.setResetAsserted x).pending = s.pending := rfl

@[simp] theorem setNow_powered (x : Nat) : (s.setNow x).powered = s.powered := rfl
@[simp] theorem setNow_resetAsserted (x : Nat) : (s.setNow x).resetAsserted = s.resetAsserted := rfl
@[simp] theorem setNow_now (x : Nat) : (s.setNow x).now = x := rfl
@[simp] theorem setNow_freeCount (x : Nat) : (s.setNow x).freeCount = s.freeCount := rfl
@[simp] theorem setNow_rc (x : Nat) : (s.setNow x).rc = s.rc := rfl
@[simp] theorem setNow_env (x : Nat) : (s.setNow x).env = s.env := rfl
@[simp] theorem setNow_cut (x : Nat) : (s.setNow x).cut = s.cut := rfl
@[simp] theorem setNow_split (x : Nat) : (s.setNow x).split = s.split := rfl
@[simp] theorem setNow_gen (x : Nat) : (s.setNow x).gen = s.gen := rfl
@[simp] theorem setNow_wear (x : Nat) : (s.setNow x).wear = s.wear := rfl
@[simp] theorem setNow_store (x : Nat) : (s.setNow x).store = s.store := rfl
@[simp] theorem setNow_rcd (x : Nat) : (s.setNow x).rcd = s.rcd := rfl
@[simp] theorem setNow_ports (x : Nat) : (s.setNow x).ports = s.ports := rfl
@[simp] theorem setNow_pending (x : Nat) : (s.setNow x).pending = s.pending := rfl

@[simp] theorem setFreeCount_powered (x : Nat) : (s.setFreeCount x).powered = s.powered := rfl
@[simp] theorem setFreeCount_resetAsserted (x : Nat) : (s.setFreeCount x).resetAsserted = s.resetAsserted := rfl
@[simp] theorem setFreeCount_now (x : Nat) : (s.setFreeCount x).now = s.now := rfl
@[simp] theorem setFreeCount_freeCount (x : Nat) : (s.setFreeCount x).freeCount = x := rfl
@[simp] theorem setFreeCount_rc (x : Nat) : (s.setFreeCount x).rc = s.rc := rfl
@[simp] theorem setFreeCount_env (x : Nat) : (s.setFreeCount x).env = s.env := rfl
@[simp] theorem setFreeCount_cut (x : Nat) : (s.setFreeCount x).cut = s.cut := rfl
@[simp] theorem setFreeCount_split (x : Nat) : (s.setFreeCount x).split = s.split := rfl
@[simp] theorem setFreeCount_gen (x : Nat) : (s.setFreeCount x).gen = s.gen := rfl
@[simp] theorem setFreeCount_wear (x : Nat) : (s.setFreeCount x).wear = s.wear := rfl
@[simp] theorem setFreeCount_store (x : Nat) : (s.setFreeCount x).store = s.store := rfl
@[simp] theorem setFreeCount_rcd (x : Nat) : (s.setFreeCount x).rcd = s.rcd := rfl
@[simp] theorem setFreeCount_ports (x : Nat) : (s.setFreeCount x).ports = s.ports := rfl
@[simp] theorem setFreeCount_pending (x : Nat) : (s.setFreeCount x).pending = s.pending := rfl

@[simp] theorem setRc_powered (x : RunControl) : (s.setRc x).powered = s.powered := rfl
@[simp] theorem setRc_resetAsserted (x : RunControl) : (s.setRc x).resetAsserted = s.resetAsserted := rfl
@[simp] theorem setRc_now (x : RunControl) : (s.setRc x).now = s.now := rfl
@[simp] theorem setRc_freeCount (x : RunControl) : (s.setRc x).freeCount = s.freeCount := rfl
@[simp] theorem setRc_rc (x : RunControl) : (s.setRc x).rc = x := rfl
@[simp] theorem setRc_env (x : RunControl) : (s.setRc x).env = s.env := rfl
@[simp] theorem setRc_cut (x : RunControl) : (s.setRc x).cut = s.cut := rfl
@[simp] theorem setRc_split (x : RunControl) : (s.setRc x).split = s.split := rfl
@[simp] theorem setRc_gen (x : RunControl) : (s.setRc x).gen = s.gen := rfl
@[simp] theorem setRc_wear (x : RunControl) : (s.setRc x).wear = s.wear := rfl
@[simp] theorem setRc_store (x : RunControl) : (s.setRc x).store = s.store := rfl
@[simp] theorem setRc_rcd (x : RunControl) : (s.setRc x).rcd = s.rcd := rfl
@[simp] theorem setRc_ports (x : RunControl) : (s.setRc x).ports = s.ports := rfl
@[simp] theorem setRc_pending (x : RunControl) : (s.setRc x).pending = s.pending := rfl

@[simp] theorem setEnv_powered (x : Envelope) : (s.setEnv x).powered = s.powered := rfl
@[simp] theorem setEnv_resetAsserted (x : Envelope) : (s.setEnv x).resetAsserted = s.resetAsserted := rfl
@[simp] theorem setEnv_now (x : Envelope) : (s.setEnv x).now = s.now := rfl
@[simp] theorem setEnv_freeCount (x : Envelope) : (s.setEnv x).freeCount = s.freeCount := rfl
@[simp] theorem setEnv_rc (x : Envelope) : (s.setEnv x).rc = s.rc := rfl
@[simp] theorem setEnv_env (x : Envelope) : (s.setEnv x).env = x := rfl
@[simp] theorem setEnv_cut (x : Envelope) : (s.setEnv x).cut = s.cut := rfl
@[simp] theorem setEnv_split (x : Envelope) : (s.setEnv x).split = s.split := rfl
@[simp] theorem setEnv_gen (x : Envelope) : (s.setEnv x).gen = s.gen := rfl
@[simp] theorem setEnv_wear (x : Envelope) : (s.setEnv x).wear = s.wear := rfl
@[simp] theorem setEnv_store (x : Envelope) : (s.setEnv x).store = s.store := rfl
@[simp] theorem setEnv_rcd (x : Envelope) : (s.setEnv x).rcd = s.rcd := rfl
@[simp] theorem setEnv_ports (x : Envelope) : (s.setEnv x).ports = s.ports := rfl
@[simp] theorem setEnv_pending (x : Envelope) : (s.setEnv x).pending = s.pending := rfl

@[simp] theorem setCut_powered (x : Cutback) : (s.setCut x).powered = s.powered := rfl
@[simp] theorem setCut_resetAsserted (x : Cutback) : (s.setCut x).resetAsserted = s.resetAsserted := rfl
@[simp] theorem setCut_now (x : Cutback) : (s.setCut x).now = s.now := rfl
@[simp] theorem setCut_freeCount (x : Cutback) : (s.setCut x).freeCount = s.freeCount := rfl
@[simp] theorem setCut_rc (x : Cutback) : (s.setCut x).rc = s.rc := rfl
@[simp] theorem setCut_env (x : Cutback) : (s.setCut x).env = s.env := rfl
@[simp] theorem setCut_cut (x : Cutback) : (s.setCut x).cut = x := rfl
@[simp] theorem setCut_split (x : Cutback) : (s.setCut x).split = s.split := rfl
@[simp] theorem setCut_gen (x : Cutback) : (s.setCut x).gen = s.gen := rfl
@[simp] theorem setCut_wear (x : Cutback) : (s.setCut x).wear = s.wear := rfl
@[simp] theorem setCut_store (x : Cutback) : (s.setCut x).store = s.store := rfl
@[simp] theorem setCut_rcd (x : Cutback) : (s.setCut x).rcd = s.rcd := rfl
@[simp] theorem setCut_ports (x : Cutback) : (s.setCut x).ports = s.ports := rfl
@[simp] theorem setCut_pending (x : Cutback) : (s.setCut x).pending = s.pending := rfl

@[simp] theorem setSplit_powered (x : Split) : (s.setSplit x).powered = s.powered := rfl
@[simp] theorem setSplit_resetAsserted (x : Split) : (s.setSplit x).resetAsserted = s.resetAsserted := rfl
@[simp] theorem setSplit_now (x : Split) : (s.setSplit x).now = s.now := rfl
@[simp] theorem setSplit_freeCount (x : Split) : (s.setSplit x).freeCount = s.freeCount := rfl
@[simp] theorem setSplit_rc (x : Split) : (s.setSplit x).rc = s.rc := rfl
@[simp] theorem setSplit_env (x : Split) : (s.setSplit x).env = s.env := rfl
@[simp] theorem setSplit_cut (x : Split) : (s.setSplit x).cut = s.cut := rfl
@[simp] theorem setSplit_split (x : Split) : (s.setSplit x).split = x := rfl
@[simp] theorem setSplit_gen (x : Split) : (s.setSplit x).gen = s.gen := rfl
@[simp] theorem setSplit_wear (x : Split) : (s.setSplit x).wear = s.wear := rfl
@[simp] theorem setSplit_store (x : Split) : (s.setSplit x).store = s.store := rfl
@[simp] theorem setSplit_rcd (x : Split) : (s.setSplit x).rcd = s.rcd := rfl
@[simp] theorem setSplit_ports (x : Split) : (s.setSplit x).ports = s.ports := rfl
@[simp] theorem setSplit_pending (x : Split) : (s.setSplit x).pending = s.pending := rfl

@[simp] theorem setGen_powered (x : Genset) : (s.setGen x).powered = s.powered := rfl
@[simp] theorem setGen_resetAsserted (x : Genset) : (s.setGen x).resetAsserted = s.resetAsserted := rfl
@[simp] theorem setGen_now (x : Genset) : (s.setGen x).now = s.now := rfl
@[simp] theorem setGen_freeCount (x : Genset) : (s.setGen x).freeCount = s.freeCount := rfl
@[simp] theorem setGen_rc (x : Genset) : (s.setGen x).rc = s.rc := rfl
@[simp] theorem setGen_env (x : Genset) : (s.setGen x).env = s.env := rfl
@[simp] theorem setGen_cut (x : Genset) : (s.setGen x).cut = s.cut := rfl
@[simp] theorem setGen_split (x : Genset) : (s.setGen x).split = s.split := rfl
@[simp] theorem setGen_gen (x : Genset) : (s.setGen x).gen = x := rfl
@[simp] theorem setGen_wear (x : Genset) : (s.setGen x).wear = s.wear := rfl
@[simp] theorem setGen_store (x : Genset) : (s.setGen x).store = s.store := rfl
@[simp] theorem setGen_rcd (x : Genset) : (s.setGen x).rcd = s.rcd := rfl
@[simp] theorem setGen_ports (x : Genset) : (s.setGen x).ports = s.ports := rfl
@[simp] theorem setGen_pending (x : Genset) : (s.setGen x).pending = s.pending := rfl

@[simp] theorem setWear_powered (x : Wear) : (s.setWear x).powered = s.powered := rfl
@[simp] theorem setWear_resetAsserted (x : Wear) : (s.setWear x).resetAsserted = s.resetAsserted := rfl
@[simp] theorem setWear_now (x : Wear) : (s.setWear x).now = s.now := rfl
@[simp] theorem setWear_freeCount (x : Wear) : (s.setWear x).freeCount = s.freeCount := rfl
@[simp] theorem setWear_rc (x : Wear) : (s.setWear x).rc = s.rc := rfl
@[simp] theorem setWear_env (x : Wear) : (s.setWear x).env = s.env := rfl
@[simp] theorem setWear_cut (x : Wear) : (s.setWear x).cut = s.cut := rfl
@[simp] theorem setWear_split (x : Wear) : (s.setWear x).split = s.split := rfl
@[simp] theorem setWear_gen (x : Wear) : (s.setWear x).gen = s.gen := rfl
@[simp] theorem setWear_wear (x : Wear) : (s.setWear x).wear = x := rfl
@[simp] theorem setWear_store (x : Wear) : (s.setWear x).store = s.store := rfl
@[simp] theorem setWear_rcd (x : Wear) : (s.setWear x).rcd = s.rcd := rfl
@[simp] theorem setWear_ports (x : Wear) : (s.setWear x).ports = s.ports := rfl
@[simp] theorem setWear_pending (x : Wear) : (s.setWear x).pending = s.pending := rfl

@[simp] theorem setStore_powered (x : Store) : (s.setStore x).powered = s.powered := rfl
@[simp] theorem setStore_resetAsserted (x : Store) : (s.setStore x).resetAsserted = s.resetAsserted := rfl
@[simp] theorem setStore_now (x : Store) : (s.setStore x).now = s.now := rfl
@[simp] theorem setStore_freeCount (x : Store) : (s.setStore x).freeCount = s.freeCount := rfl
@[simp] theorem setStore_rc (x : Store) : (s.setStore x).rc = s.rc := rfl
@[simp] theorem setStore_env (x : Store) : (s.setStore x).env = s.env := rfl
@[simp] theorem setStore_cut (x : Store) : (s.setStore x).cut = s.cut := rfl
@[simp] theorem setStore_split (x : Store) : (s.setStore x).split = s.split := rfl
@[simp] theorem setStore_gen (x : Store) : (s.setStore x).gen = s.gen := rfl
@[simp] theorem setStore_wear (x : Store) : (s.setStore x).wear = s.wear := rfl
@[simp] theorem setStore_store (x : Store) : (s.setStore x).store = x := rfl
@[simp] theorem setStore_rcd (x : Store) : (s.setStore x).rcd = s.rcd := rfl
@[simp] theorem setStore_ports (x : Store) : (s.setStore x).ports = s.ports := rfl
@[simp] theorem setStore_pending (x : Store) : (s.setStore x).pending = s.pending := rfl

@[simp] theorem setRcd_powered (x : Recorder) : (s.setRcd x).powered = s.powered := rfl
@[simp] theorem setRcd_resetAsserted (x : Recorder) : (s.setRcd x).resetAsserted = s.resetAsserted := rfl
@[simp] theorem setRcd_now (x : Recorder) : (s.setRcd x).now = s.now := rfl
@[simp] theorem setRcd_freeCount (x : Recorder) : (s.setRcd x).freeCount = s.freeCount := rfl
@[simp] theorem setRcd_rc (x : Recorder) : (s.setRcd x).rc = s.rc := rfl
@[simp] theorem setRcd_env (x : Recorder) : (s.setRcd x).env = s.env := rfl
@[simp] theorem setRcd_cut (x : Recorder) : (s.setRcd x).cut = s.cut := rfl
@[simp] theorem setRcd_split (x : Recorder) : (s.setRcd x).split = s.split := rfl
@[simp] theorem setRcd_gen (x : Recorder) : (s.setRcd x).gen = s.gen := rfl
@[simp] theorem setRcd_wear (x : Recorder) : (s.setRcd x).wear = s.wear := rfl
@[simp] theorem setRcd_store (x : Recorder) : (s.setRcd x).store = s.store := rfl
@[simp] theorem setRcd_rcd (x : Recorder) : (s.setRcd x).rcd = x := rfl
@[simp] theorem setRcd_ports (x : Recorder) : (s.setRcd x).ports = s.ports := rfl
@[simp] theorem setRcd_pending (x : Recorder) : (s.setRcd x).pending = s.pending := rfl

@[simp] theorem setPorts_powered (x : PerPort PortState) : (s.setPorts x).powered = s.powered := rfl
@[simp] theorem setPorts_resetAsserted (x : PerPort PortState) : (s.setPorts x).resetAsserted = s.resetAsserted := rfl
@[simp] theorem setPorts_now (x : PerPort PortState) : (s.setPorts x).now = s.now := rfl
@[simp] theorem setPorts_freeCount (x : PerPort PortState) : (s.setPorts x).freeCount = s.freeCount := rfl
@[simp] theorem setPorts_rc (x : PerPort PortState) : (s.setPorts x).rc = s.rc := rfl
@[simp] theorem setPorts_env (x : PerPort PortState) : (s.setPorts x).env = s.env := rfl
@[simp] theorem setPorts_cut (x : PerPort PortState) : (s.setPorts x).cut = s.cut := rfl
@[simp] theorem setPorts_split (x : PerPort PortState) : (s.setPorts x).split = s.split := rfl
@[simp] theorem setPorts_gen (x : PerPort PortState) : (s.setPorts x).gen = s.gen := rfl
@[simp] theorem setPorts_wear (x : PerPort PortState) : (s.setPorts x).wear = s.wear := rfl
@[simp] theorem setPorts_store (x : PerPort PortState) : (s.setPorts x).store = s.store := rfl
@[simp] theorem setPorts_rcd (x : PerPort PortState) : (s.setPorts x).rcd = s.rcd := rfl
@[simp] theorem setPorts_ports (x : PerPort PortState) : (s.setPorts x).ports = x := rfl
@[simp] theorem setPorts_pending (x : PerPort PortState) : (s.setPorts x).pending = s.pending := rfl

@[simp] theorem setPending_powered (x : List Instr) : (s.setPending x).powered = s.powered := rfl
@[simp] theorem setPending_resetAsserted (x : List Instr) : (s.setPending x).resetAsserted = s.resetAsserted := rfl
@[simp] theorem setPending_now (x : List Instr) : (s.setPending x).now = s.now := rfl
@[simp] theorem setPending_freeCount (x : List Instr) : (s.setPending x).freeCount = s.freeCount := rfl
@[simp] theorem setPending_rc (x : List Instr) : (s.setPending x).rc = s.rc := rfl
@[simp] theorem setPending_env (x : List Instr) : (s.setPending x).env = s.env := rfl
@[simp] theorem setPending_cut (x : List Instr) : (s.setPending x).cut = s.cut := rfl
@[simp] theorem setPending_split (x : List Instr) : (s.setPending x).split = s.split := rfl
@[simp] theorem setPending_gen (x : List Instr) : (s.setPending x).gen = s.gen := rfl
@[simp] theorem setPending_wear (x : List Instr) : (s.setPending x).wear = s.wear := rfl
@[simp] theorem setPending_store (x : List Instr) : (s.setPending x).store = s.store := rfl
@[simp] theorem setPending_rcd (x : List Instr) : (s.setPending x).rcd = s.rcd := rfl
@[simp] theorem setPending_ports (x : List Instr) : (s.setPending x).ports = s.ports := rfl
@[simp] theorem setPending_pending (x : List Instr) : (s.setPending x).pending = x := rfl


/-! ### One port -/

@[simp] theorem get_set_same {α : Type} (x : PerPort α) (p : Port) (a : α) : (x.set p a).get p = a := by
  cases p <;> rfl

@[simp] theorem get_set_other {α : Type} (x : PerPort α) (p q : Port) (a : α) (h : q ≠ p) :
    (x.set p a).get q = x.get q := by
  cases p <;> cases q <;> first | rfl | exact absurd rfl h

@[simp] theorem get_map {α β : Type} (f : α → β) (x : PerPort α) (p : Port) : (x.map f).get p = f (x.get p) := by
  cases p <;> rfl

@[simp] theorem get_mapWith {α β γ : Type} (f : α → β → γ) (x : PerPort α) (y : PerPort β) (p : Port) :
    (x.mapWith f y).get p = f (x.get p) (y.get p) := by
  cases p <;> rfl

/-- Two families of values are equal when they agree at every port. -/
theorem perPort_eq_of_get {α : Type} {x y : PerPort α} (h : ∀ p, x.get p = y.get p) : x = y := by
  cases x
  cases y
  have h0 := h .p0
  have h1 := h .p1
  have h2 := h .p2
  have h3 := h .p3
  have h4 := h .p4
  simp only [PerPort.get] at h0 h1 h2 h3 h4
  subst h0 h1 h2 h3 h4
  rfl

@[simp] theorem set_get_self {α : Type} (x : PerPort α) (p : Port) : x.set p (x.get p) = x := by
  cases p <;> rfl

/-! ### Every port, or one port, changed -/

@[simp] theorem mapPorts_get (f : PortState → PortState) (p : Port) :
    (s.mapPorts f).ports.get p = f (s.ports.get p) := by
  simp [State.mapPorts]

@[simp] theorem modPort_get_same (f : PortState → PortState) (p : Port) :
    (s.modPort p f).ports.get p = f (s.ports.get p) := by
  simp [State.modPort]

@[simp] theorem modPort_get_other (f : PortState → PortState) (p q : Port) (h : q ≠ p) :
    (s.modPort p f).ports.get q = s.ports.get q := by
  simp [State.modPort, h]

@[simp] theorem mapPorts_powered (f : PortState → PortState) : (s.mapPorts f).powered = s.powered := rfl
@[simp] theorem mapPorts_resetAsserted (f : PortState → PortState) : (s.mapPorts f).resetAsserted = s.resetAsserted := rfl
@[simp] theorem mapPorts_now (f : PortState → PortState) : (s.mapPorts f).now = s.now := rfl
@[simp] theorem mapPorts_freeCount (f : PortState → PortState) : (s.mapPorts f).freeCount = s.freeCount := rfl
@[simp] theorem mapPorts_rc (f : PortState → PortState) : (s.mapPorts f).rc = s.rc := rfl
@[simp] theorem mapPorts_env (f : PortState → PortState) : (s.mapPorts f).env = s.env := rfl
@[simp] theorem mapPorts_cut (f : PortState → PortState) : (s.mapPorts f).cut = s.cut := rfl
@[simp] theorem mapPorts_split (f : PortState → PortState) : (s.mapPorts f).split = s.split := rfl
@[simp] theorem mapPorts_gen (f : PortState → PortState) : (s.mapPorts f).gen = s.gen := rfl
@[simp] theorem mapPorts_wear (f : PortState → PortState) : (s.mapPorts f).wear = s.wear := rfl
@[simp] theorem mapPorts_store (f : PortState → PortState) : (s.mapPorts f).store = s.store := rfl
@[simp] theorem mapPorts_rcd (f : PortState → PortState) : (s.mapPorts f).rcd = s.rcd := rfl
@[simp] theorem mapPorts_pending (f : PortState → PortState) : (s.mapPorts f).pending = s.pending := rfl

@[simp] theorem modPort_powered (p : Port) (f : PortState → PortState) : (s.modPort p f).powered = s.powered := rfl
@[simp] theorem modPort_resetAsserted (p : Port) (f : PortState → PortState) : (s.modPort p f).resetAsserted = s.resetAsserted := rfl
@[simp] theorem modPort_now (p : Port) (f : PortState → PortState) : (s.modPort p f).now = s.now := rfl
@[simp] theorem modPort_freeCount (p : Port) (f : PortState → PortState) : (s.modPort p f).freeCount = s.freeCount := rfl
@[simp] theorem modPort_rc (p : Port) (f : PortState → PortState) : (s.modPort p f).rc = s.rc := rfl
@[simp] theorem modPort_env (p : Port) (f : PortState → PortState) : (s.modPort p f).env = s.env := rfl
@[simp] theorem modPort_cut (p : Port) (f : PortState → PortState) : (s.modPort p f).cut = s.cut := rfl
@[simp] theorem modPort_split (p : Port) (f : PortState → PortState) : (s.modPort p f).split = s.split := rfl
@[simp] theorem modPort_gen (p : Port) (f : PortState → PortState) : (s.modPort p f).gen = s.gen := rfl
@[simp] theorem modPort_wear (p : Port) (f : PortState → PortState) : (s.modPort p f).wear = s.wear := rfl
@[simp] theorem modPort_store (p : Port) (f : PortState → PortState) : (s.modPort p f).store = s.store := rfl
@[simp] theorem modPort_rcd (p : Port) (f : PortState → PortState) : (s.modPort p f).rcd = s.rcd := rfl
@[simp] theorem modPort_pending (p : Port) (f : PortState → PortState) : (s.modPort p f).pending = s.pending := rfl

/-- A change of every port reaches each port alike; a change of one port reaches that port alone. -/
theorem modPort_get (f : PortState → PortState) (p q : Port) :
    (s.modPort p f).ports.get q = if q = p then f (s.ports.get q) else s.ports.get q := by
  by_cases h : q = p
  · subst h
    simp
  · simp [h]

/-! ### One role, one wear item, one descriptor -/

@[simp] theorem role_get_set_same {α : Type} (x : PerRole α) (r : Role) (a : α) : (x.set r a).get r = a := by
  cases r <;> rfl

@[simp] theorem role_get_set_other {α : Type} (x : PerRole α) (r q : Role) (a : α) (h : q ≠ r) :
    (x.set r a).get q = x.get q := by
  cases r <;> cases q <;> first | rfl | exact absurd rfl h

@[simp] theorem role_get_map {α β : Type} (f : α → β) (x : PerRole α) (r : Role) : (x.map f).get r = f (x.get r) := by
  cases r <;> rfl

@[simp] theorem role_get_mapWith {α β γ : Type} (f : α → β → γ) (x : PerRole α) (y : PerRole β) (r : Role) :
    (x.mapWith f y).get r = f (x.get r) (y.get r) := by
  cases r <;> rfl

@[simp] theorem item_get_set_same {α : Type} (x : PerItem α) (i : WearItem) (a : α) : (x.set i a).get i = a := by
  cases i <;> rfl

@[simp] theorem item_get_set_other {α : Type} (x : PerItem α) (i j : WearItem) (a : α) (h : j ≠ i) :
    (x.set i a).get j = x.get j := by
  cases i <;> cases j <;> first | rfl | exact absurd rfl h

@[simp] theorem item_get_map {α β : Type} (f : α → β) (x : PerItem α) (i : WearItem) :
    (x.map f).get i = f (x.get i) := by
  cases i <;> rfl

@[simp] theorem item_get_mapWith {α β γ : Type} (f : α → β → γ) (x : PerItem α) (y : PerItem β) (i : WearItem) :
    (x.mapWith f y).get i = f (x.get i) (y.get i) := by
  cases i <;> rfl

@[simp] theorem table_get_set_same (t : SnapshotTable) (id : BitVec 2) (d : Descriptor) : (t.set id d).get id = d := by
  have h : ∀ n : Nat, n = id.toNat → n < 4 → (t.set id d).get id = d := by
    intro n hn hlt
    unfold SnapshotTable.set SnapshotTable.get
    rw [← hn]
    interval_cases n <;> rfl
  exact h _ rfl id.isLt

theorem table_get_set_other (t : SnapshotTable) (id k : BitVec 2) (d : Descriptor) (h : k ≠ id) :
    (t.set id d).get k = t.get k := by
  have hne : k.toNat ≠ id.toNat := fun e => h (BitVec.eq_of_toNat_eq e)
  have h1 : id.toNat < 4 := id.isLt
  have h2 : k.toNat < 4 := k.isLt
  unfold SnapshotTable.set SnapshotTable.get
  generalize id.toNat = a at *
  generalize k.toNat = b at *
  interval_cases a <;> interval_cases b <;> first | rfl | exact absurd rfl hne

@[simp] theorem table_get_map (f : Descriptor → Descriptor) (t : SnapshotTable) (id : BitVec 2) :
    (t.map f).get id = f (t.get id) := by
  have h1 : id.toNat < 4 := id.isLt
  unfold SnapshotTable.map SnapshotTable.get
  generalize id.toNat = a at *
  interval_cases a <;> rfl

end Sys2Proof.Machine
end

