-- ==== Sys2Proof/Laws/Untouched.lean ====
section
/-! SUPPORT. What each shared operation leaves alone: one lemma for each operation, over every block it does not touch. -/

namespace Sys2Proof.Machine

variable (s : State)

/-! ### Flags, clock, answers -/

@[simp] theorem noticeAll_untouched (k : NoticeKind) :
    (s.noticeAll k).powered = s.powered ∧ (s.noticeAll k).resetAsserted = s.resetAsserted ∧
    (s.noticeAll k).now = s.now ∧ (s.noticeAll k).freeCount = s.freeCount ∧ (s.noticeAll k).rc = s.rc ∧
    (s.noticeAll k).env = s.env ∧ (s.noticeAll k).cut = s.cut ∧ (s.noticeAll k).split = s.split ∧
    (s.noticeAll k).gen = s.gen ∧ (s.noticeAll k).wear = s.wear ∧ (s.noticeAll k).store = s.store ∧
    (s.noticeAll k).rcd = s.rcd ∧ (s.noticeAll k).pending = s.pending := by
  simp [State.noticeAll]

@[simp] theorem noticeTo_untouched (k : NoticeKind) (x : PerPort Bool) :
    (s.noticeTo k x).powered = s.powered ∧ (s.noticeTo k x).resetAsserted = s.resetAsserted ∧
    (s.noticeTo k x).now = s.now ∧ (s.noticeTo k x).freeCount = s.freeCount ∧ (s.noticeTo k x).rc = s.rc ∧
    (s.noticeTo k x).env = s.env ∧ (s.noticeTo k x).cut = s.cut ∧ (s.noticeTo k x).split = s.split ∧
    (s.noticeTo k x).gen = s.gen ∧ (s.noticeTo k x).wear = s.wear ∧ (s.noticeTo k x).store = s.store ∧
    (s.noticeTo k x).rcd = s.rcd ∧ (s.noticeTo k x).pending = s.pending := by
  simp [State.noticeTo]

@[simp] theorem worsenCodes_untouched :
    (s.worsenCodes).powered = s.powered ∧ (s.worsenCodes).resetAsserted = s.resetAsserted ∧
    (s.worsenCodes).now = s.now ∧ (s.worsenCodes).freeCount = s.freeCount ∧ (s.worsenCodes).rc = s.rc ∧
    (s.worsenCodes).env = s.env ∧ (s.worsenCodes).cut = s.cut ∧ (s.worsenCodes).split = s.split ∧
    (s.worsenCodes).gen = s.gen ∧ (s.worsenCodes).wear = s.wear ∧ (s.worsenCodes).store = s.store ∧
    (s.worsenCodes).rcd = s.rcd ∧ (s.worsenCodes).pending = s.pending := by
  simp [State.worsenCodes]

@[simp] theorem arrive_untouched (due : Nat) :
    (s.arrive due).powered = s.powered ∧ (s.arrive due).resetAsserted = s.resetAsserted ∧
    (s.arrive due).freeCount = s.freeCount ∧ (s.arrive due).rc = s.rc ∧ (s.arrive due).env = s.env ∧
    (s.arrive due).cut = s.cut ∧ (s.arrive due).split = s.split ∧ (s.arrive due).gen = s.gen ∧
    (s.arrive due).wear = s.wear ∧ (s.arrive due).store = s.store ∧ (s.arrive due).rcd = s.rcd ∧
    (s.arrive due).ports = s.ports ∧ (s.arrive due).pending = s.pending := by
  simp [State.arrive]

@[simp] theorem respond_untouched (p : Port) (c : BitVec 4) (r : Reply) :
    (s.respond p c r).powered = s.powered ∧ (s.respond p c r).resetAsserted = s.resetAsserted ∧
    (s.respond p c r).now = s.now ∧ (s.respond p c r).freeCount = s.freeCount ∧ (s.respond p c r).rc = s.rc ∧
    (s.respond p c r).env = s.env ∧ (s.respond p c r).cut = s.cut ∧ (s.respond p c r).split = s.split ∧
    (s.respond p c r).gen = s.gen ∧ (s.respond p c r).wear = s.wear ∧ (s.respond p c r).store = s.store ∧
    (s.respond p c r).rcd = s.rcd ∧ (s.respond p c r).pending = s.pending := by
  simp [State.respond]

@[simp] theorem discardAssembly_untouched (p : Port) :
    (s.discardAssembly p).powered = s.powered ∧ (s.discardAssembly p).resetAsserted = s.resetAsserted ∧
    (s.discardAssembly p).now = s.now ∧ (s.discardAssembly p).freeCount = s.freeCount ∧
    (s.discardAssembly p).rc = s.rc ∧ (s.discardAssembly p).env = s.env ∧ (s.discardAssembly p).cut = s.cut ∧
    (s.discardAssembly p).split = s.split ∧ (s.discardAssembly p).gen = s.gen ∧
    (s.discardAssembly p).wear = s.wear ∧ (s.discardAssembly p).store = s.store ∧
    (s.discardAssembly p).rcd = s.rcd ∧ (s.discardAssembly p).pending = s.pending := by
  simp [State.discardAssembly]

/-! ### The recorder -/

@[simp] theorem settleRecorder_untouched :
    (s.settleRecorder).powered = s.powered ∧ (s.settleRecorder).resetAsserted = s.resetAsserted ∧
    (s.settleRecorder).now = s.now ∧ (s.settleRecorder).freeCount = s.freeCount ∧
    (s.settleRecorder).rc = s.rc ∧ (s.settleRecorder).env = s.env ∧ (s.settleRecorder).cut = s.cut ∧
    (s.settleRecorder).split = s.split ∧ (s.settleRecorder).gen = s.gen ∧ (s.settleRecorder).wear = s.wear ∧
    (s.settleRecorder).store = s.store ∧ (s.settleRecorder).ports = s.ports ∧
    (s.settleRecorder).pending = s.pending := by
  unfold State.settleRecorder
  dsimp only
  split_ifs <;> simp

@[simp] theorem returnLevel_untouched :
    (s.returnLevel).powered = s.powered ∧ (s.returnLevel).resetAsserted = s.resetAsserted ∧
    (s.returnLevel).now = s.now ∧ (s.returnLevel).freeCount = s.freeCount ∧ (s.returnLevel).rc = s.rc ∧
    (s.returnLevel).env = s.env ∧ (s.returnLevel).cut = s.cut ∧ (s.returnLevel).split = s.split ∧
    (s.returnLevel).gen = s.gen ∧ (s.returnLevel).wear = s.wear ∧ (s.returnLevel).store = s.store ∧
    (s.returnLevel).ports = s.ports ∧ (s.returnLevel).pending = s.pending := by
  unfold State.returnLevel
  split_ifs <;> simp

@[simp] theorem completed_untouched :
    (s.completed).powered = s.powered ∧ (s.completed).resetAsserted = s.resetAsserted ∧
    (s.completed).now = s.now ∧ (s.completed).freeCount = s.freeCount ∧ (s.completed).rc = s.rc ∧
    (s.completed).env = s.env ∧ (s.completed).cut = s.cut ∧ (s.completed).split = s.split ∧
    (s.completed).gen = s.gen ∧ (s.completed).wear = s.wear ∧ (s.completed).store = s.store ∧
    (s.completed).pending = s.pending := by
  simp [State.completed]

@[simp] theorem openSnapshot_untouched (c : TriggerCause) (id : BitVec 2) :
    (s.openSnapshot c id).powered = s.powered ∧ (s.openSnapshot c id).resetAsserted = s.resetAsserted ∧
    (s.openSnapshot c id).now = s.now ∧ (s.openSnapshot c id).freeCount = s.freeCount ∧
    (s.openSnapshot c id).rc = s.rc ∧ (s.openSnapshot c id).env = s.env ∧ (s.openSnapshot c id).cut = s.cut ∧
    (s.openSnapshot c id).split = s.split ∧ (s.openSnapshot c id).gen = s.gen ∧
    (s.openSnapshot c id).wear = s.wear ∧ (s.openSnapshot c id).store = s.store ∧
    (s.openSnapshot c id).pending = s.pending := by
  unfold State.openSnapshot
  dsimp only
  split_ifs <;> simp

@[simp] theorem fireTrigger_untouched (c : TriggerCause) :
    ((s.fireTrigger c).1).powered = s.powered ∧ ((s.fireTrigger c).1).resetAsserted = s.resetAsserted ∧
    ((s.fireTrigger c).1).now = s.now ∧ ((s.fireTrigger c).1).freeCount = s.freeCount ∧
    ((s.fireTrigger c).1).rc = s.rc ∧ ((s.fireTrigger c).1).env = s.env ∧ ((s.fireTrigger c).1).cut = s.cut ∧
    ((s.fireTrigger c).1).split = s.split ∧ ((s.fireTrigger c).1).gen = s.gen ∧
    ((s.fireTrigger c).1).wear = s.wear ∧ ((s.fireTrigger c).1).store = s.store ∧
    ((s.fireTrigger c).1).pending = s.pending := by
  unfold State.fireTrigger
  dsimp only
  split <;> [simp; (split_ifs <;> [simp; (split <;> simp)])]

@[simp] theorem trigger_untouched (c : TriggerCause) :
    (s.trigger c).powered = s.powered ∧ (s.trigger c).resetAsserted = s.resetAsserted ∧
    (s.trigger c).now = s.now ∧ (s.trigger c).freeCount = s.freeCount ∧ (s.trigger c).rc = s.rc ∧
    (s.trigger c).env = s.env ∧ (s.trigger c).cut = s.cut ∧ (s.trigger c).split = s.split ∧
    (s.trigger c).gen = s.gen ∧ (s.trigger c).wear = s.wear ∧ (s.trigger c).store = s.store ∧
    (s.trigger c).pending = s.pending := by
  simp [State.trigger]

@[simp] theorem recordSample_untouched :
    (s.recordSample).powered = s.powered ∧ (s.recordSample).resetAsserted = s.resetAsserted ∧
    (s.recordSample).now = s.now ∧ (s.recordSample).freeCount = s.freeCount ∧ (s.recordSample).rc = s.rc ∧
    (s.recordSample).env = s.env ∧ (s.recordSample).cut = s.cut ∧ (s.recordSample).split = s.split ∧
    (s.recordSample).gen = s.gen ∧ (s.recordSample).wear = s.wear ∧ (s.recordSample).store = s.store ∧
    (s.recordSample).ports = s.ports ∧ (s.recordSample).pending = s.pending := by
  simp [State.recordSample]

@[simp] theorem dropSample_untouched (k : Nat) :
    (s.dropSample k).powered = s.powered ∧ (s.dropSample k).resetAsserted = s.resetAsserted ∧
    (s.dropSample k).now = s.now ∧ (s.dropSample k).freeCount = s.freeCount ∧ (s.dropSample k).rc = s.rc ∧
    (s.dropSample k).env = s.env ∧ (s.dropSample k).cut = s.cut ∧ (s.dropSample k).split = s.split ∧
    (s.dropSample k).gen = s.gen ∧ (s.dropSample k).wear = s.wear ∧ (s.dropSample k).store = s.store ∧
    (s.dropSample k).pending = s.pending := by
  unfold State.dropSample
  dsimp only
  split_ifs <;> simp

@[simp] theorem completeSnapshots_untouched (k : Nat) :
    (s.completeSnapshots k).powered = s.powered ∧ (s.completeSnapshots k).resetAsserted = s.resetAsserted ∧
    (s.completeSnapshots k).now = s.now ∧ (s.completeSnapshots k).freeCount = s.freeCount ∧
    (s.completeSnapshots k).rc = s.rc ∧ (s.completeSnapshots k).env = s.env ∧
    (s.completeSnapshots k).cut = s.cut ∧ (s.completeSnapshots k).split = s.split ∧
    (s.completeSnapshots k).gen = s.gen ∧ (s.completeSnapshots k).wear = s.wear ∧
    (s.completeSnapshots k).store = s.store ∧ (s.completeSnapshots k).pending = s.pending := by
  unfold State.completeSnapshots
  dsimp only
  split_ifs <;> simp

@[simp] theorem recordEvent_untouched :
    (s.recordEvent).powered = s.powered ∧ (s.recordEvent).resetAsserted = s.resetAsserted ∧
    (s.recordEvent).now = s.now ∧ (s.recordEvent).freeCount = s.freeCount ∧ (s.recordEvent).rc = s.rc ∧
    (s.recordEvent).env = s.env ∧ (s.recordEvent).cut = s.cut ∧ (s.recordEvent).split = s.split ∧
    (s.recordEvent).gen = s.gen ∧ (s.recordEvent).wear = s.wear ∧ (s.recordEvent).store = s.store ∧
    (s.recordEvent).pending = s.pending := by
  unfold State.recordEvent
  dsimp only
  split_ifs <;> simp

@[simp] theorem sampleEvent_untouched :
    (s.sampleEvent).powered = s.powered ∧ (s.sampleEvent).resetAsserted = s.resetAsserted ∧
    (s.sampleEvent).now = s.now ∧ (s.sampleEvent).freeCount = s.freeCount ∧ (s.sampleEvent).rc = s.rc ∧
    (s.sampleEvent).env = s.env ∧ (s.sampleEvent).cut = s.cut ∧ (s.sampleEvent).split = s.split ∧
    (s.sampleEvent).gen = s.gen ∧ (s.sampleEvent).wear = s.wear ∧ (s.sampleEvent).store = s.store ∧
    (s.sampleEvent).pending = s.pending := by
  unfold State.sampleEvent
  split_ifs <;> simp

/-! ### The cutback unit -/

@[simp] theorem zeroCommand_untouched (x : RegenSource) :
    (s.zeroCommand x).powered = s.powered ∧ (s.zeroCommand x).resetAsserted = s.resetAsserted ∧
    (s.zeroCommand x).now = s.now ∧ (s.zeroCommand x).freeCount = s.freeCount ∧ (s.zeroCommand x).rc = s.rc ∧
    (s.zeroCommand x).env = s.env ∧ (s.zeroCommand x).cut = s.cut ∧ (s.zeroCommand x).wear = s.wear ∧
    (s.zeroCommand x).store = s.store ∧ (s.zeroCommand x).rcd = s.rcd ∧ (s.zeroCommand x).ports = s.ports ∧
    (s.zeroCommand x).pending = s.pending := by
  simp [State.zeroCommand]

@[simp] theorem hardRaise_untouched (c : Cause) :
    (s.hardRaise c).powered = s.powered ∧ (s.hardRaise c).resetAsserted = s.resetAsserted ∧
    (s.hardRaise c).now = s.now ∧ (s.hardRaise c).freeCount = s.freeCount ∧ (s.hardRaise c).rc = s.rc ∧
    (s.hardRaise c).env = s.env ∧ (s.hardRaise c).cut = s.cut ∧ (s.hardRaise c).wear = s.wear ∧
    (s.hardRaise c).store = s.store ∧ (s.hardRaise c).rcd = s.rcd ∧ (s.hardRaise c).ports = s.ports ∧
    (s.hardRaise c).pending = s.pending := by
  unfold State.hardRaise
  dsimp only
  split_ifs <;> simp

@[simp] theorem markRaised_untouched (c : Cause) :
    (s.markRaised c).powered = s.powered ∧ (s.markRaised c).resetAsserted = s.resetAsserted ∧
    (s.markRaised c).now = s.now ∧ (s.markRaised c).freeCount = s.freeCount ∧ (s.markRaised c).rc = s.rc ∧
    (s.markRaised c).env = s.env ∧ (s.markRaised c).split = s.split ∧ (s.markRaised c).gen = s.gen ∧
    (s.markRaised c).wear = s.wear ∧ (s.markRaised c).store = s.store ∧ (s.markRaised c).rcd = s.rcd ∧
    (s.markRaised c).pending = s.pending := by
  simp [State.markRaised]

@[simp] theorem raiseTrigger_untouched (c : Cause) :
    (s.raiseTrigger c).powered = s.powered ∧ (s.raiseTrigger c).resetAsserted = s.resetAsserted ∧
    (s.raiseTrigger c).now = s.now ∧ (s.raiseTrigger c).freeCount = s.freeCount ∧
    (s.raiseTrigger c).rc = s.rc ∧ (s.raiseTrigger c).env = s.env ∧ (s.raiseTrigger c).cut = s.cut ∧
    (s.raiseTrigger c).split = s.split ∧ (s.raiseTrigger c).gen = s.gen ∧ (s.raiseTrigger c).wear = s.wear ∧
    (s.raiseTrigger c).store = s.store ∧ (s.raiseTrigger c).pending = s.pending := by
  unfold State.raiseTrigger
  split <;> simp

@[simp] theorem raise_untouched (c : Cause) :
    (s.raise c).powered = s.powered ∧ (s.raise c).resetAsserted = s.resetAsserted ∧ (s.raise c).now = s.now ∧
    (s.raise c).freeCount = s.freeCount ∧ (s.raise c).rc = s.rc ∧ (s.raise c).env = s.env ∧
    (s.raise c).wear = s.wear ∧ (s.raise c).store = s.store ∧ (s.raise c).pending = s.pending := by
  unfold State.raise
  split_ifs <;> simp

/-- A cause outside the hard class zeroes no command when it is raised (R45). -/
@[simp] theorem raise_soft (c : Cause) (h : c.hard = false) :
    (s.raise c).split = s.split ∧ (s.raise c).gen = s.gen := by
  unfold State.raise
  split_ifs
  · simp
  · simp [State.hardRaise, h]

/-- A cause without a history trigger leaves the recorder alone when it is raised (R45). -/
@[simp] theorem raise_untriggered (c : Cause) (h : c.historyTrigger = none) : (s.raise c).rcd = s.rcd := by
  unfold State.raise State.raiseTrigger
  split_ifs
  · rfl
  · simp [h]

@[simp] theorem hard_values : Cause.hard .linkBrake = false ∧ Cause.hard .linkStorage = false ∧
    Cause.hard .linkVehicle = false ∧ Cause.hard .linkGenset = false ∧ Cause.hard .slip = false ∧
    Cause.hard .doorInterlock = false ∧ Cause.hard .liningCritical = false ∧ Cause.hard .gensetStartFail = false ∧
    Cause.hard .zoneBreach = false ∧ Cause.hard .wearStoreFault = false ∧ Cause.hard .holdLine = true ∧
    Cause.hard .selfCheckFail = true ∧ Cause.hard .linkTraction = true := by
  decide

@[simp] theorem historyTrigger_values : Cause.historyTrigger .selfCheckFail = none ∧
    Cause.historyTrigger .doorInterlock = none ∧ Cause.historyTrigger .liningCritical = none ∧
    Cause.historyTrigger .gensetStartFail = none ∧ Cause.historyTrigger .zoneBreach = none ∧
    Cause.historyTrigger .wearStoreFault = none := by
  decide

@[simp] theorem clear_untouched (c : Cause) :
    (s.clear c).powered = s.powered ∧ (s.clear c).resetAsserted = s.resetAsserted ∧ (s.clear c).now = s.now ∧
    (s.clear c).freeCount = s.freeCount ∧ (s.clear c).rc = s.rc ∧ (s.clear c).env = s.env ∧
    (s.clear c).split = s.split ∧ (s.clear c).gen = s.gen ∧ (s.clear c).wear = s.wear ∧
    (s.clear c).store = s.store ∧ (s.clear c).rcd = s.rcd ∧ (s.clear c).pending = s.pending := by
  unfold State.clear
  split_ifs <;> simp

@[simp] theorem setCause_untouched (c : Cause) (b : Bool) :
    (s.setCause c b).powered = s.powered ∧ (s.setCause c b).resetAsserted = s.resetAsserted ∧
    (s.setCause c b).now = s.now ∧ (s.setCause c b).freeCount = s.freeCount ∧ (s.setCause c b).rc = s.rc ∧
    (s.setCause c b).env = s.env ∧ (s.setCause c b).wear = s.wear ∧ (s.setCause c b).store = s.store ∧
    (s.setCause c b).pending = s.pending := by
  unfold State.setCause
  split_ifs <;> simp

@[simp] theorem setSlipTimer_untouched (t : SlipTimer) :
    (s.setSlipTimer t).powered = s.powered ∧ (s.setSlipTimer t).resetAsserted = s.resetAsserted ∧
    (s.setSlipTimer t).now = s.now ∧ (s.setSlipTimer t).freeCount = s.freeCount ∧
    (s.setSlipTimer t).rc = s.rc ∧ (s.setSlipTimer t).env = s.env ∧ (s.setSlipTimer t).split = s.split ∧
    (s.setSlipTimer t).gen = s.gen ∧ (s.setSlipTimer t).wear = s.wear ∧ (s.setSlipTimer t).store = s.store ∧
    (s.setSlipTimer t).rcd = s.rcd ∧ (s.setSlipTimer t).ports = s.ports ∧
    (s.setSlipTimer t).pending = s.pending := by
  simp [State.setSlipTimer]

@[simp] theorem readDoor_untouched :
    (s.readDoor).powered = s.powered ∧ (s.readDoor).resetAsserted = s.resetAsserted ∧
    (s.readDoor).now = s.now ∧ (s.readDoor).freeCount = s.freeCount ∧ (s.readDoor).rc = s.rc ∧
    (s.readDoor).env = s.env ∧ (s.readDoor).split = s.split ∧ (s.readDoor).gen = s.gen ∧
    (s.readDoor).wear = s.wear ∧ (s.readDoor).store = s.store ∧ (s.readDoor).rcd = s.rcd ∧
    (s.readDoor).pending = s.pending := by
  unfold State.readDoor State.setCause
  split_ifs <;> simp

@[simp] theorem readSlip_untouched :
    (s.readSlip).powered = s.powered ∧ (s.readSlip).resetAsserted = s.resetAsserted ∧
    (s.readSlip).now = s.now ∧ (s.readSlip).freeCount = s.freeCount ∧ (s.readSlip).rc = s.rc ∧
    (s.readSlip).env = s.env ∧ (s.readSlip).split = s.split ∧ (s.readSlip).gen = s.gen ∧
    (s.readSlip).wear = s.wear ∧ (s.readSlip).store = s.store ∧ (s.readSlip).pending = s.pending := by
  unfold State.readSlip
  split_ifs <;> simp

@[simp] theorem slipGivenUp_untouched :
    (s.slipGivenUp).powered = s.powered ∧ (s.slipGivenUp).resetAsserted = s.resetAsserted ∧
    (s.slipGivenUp).now = s.now ∧ (s.slipGivenUp).freeCount = s.freeCount ∧ (s.slipGivenUp).rc = s.rc ∧
    (s.slipGivenUp).env = s.env ∧ (s.slipGivenUp).split = s.split ∧ (s.slipGivenUp).gen = s.gen ∧
    (s.slipGivenUp).wear = s.wear ∧ (s.slipGivenUp).store = s.store ∧ (s.slipGivenUp).rcd = s.rcd ∧
    (s.slipGivenUp).pending = s.pending := by
  simp [State.slipGivenUp]

/-! ### The wear store -/

@[simp] theorem storeFault_untouched :
    (s.storeFault).powered = s.powered ∧ (s.storeFault).resetAsserted = s.resetAsserted ∧
    (s.storeFault).now = s.now ∧ (s.storeFault).freeCount = s.freeCount ∧ (s.storeFault).rc = s.rc ∧
    (s.storeFault).env = s.env ∧ (s.storeFault).split = s.split ∧ (s.storeFault).gen = s.gen ∧
    (s.storeFault).wear = s.wear ∧ (s.storeFault).rcd = s.rcd ∧ (s.storeFault).pending = s.pending := by
  simp [State.storeFault]

@[simp] theorem writeAttempt_untouched :
    (s.writeAttempt).powered = s.powered ∧ (s.writeAttempt).resetAsserted = s.resetAsserted ∧
    (s.writeAttempt).now = s.now ∧ (s.writeAttempt).freeCount = s.freeCount ∧ (s.writeAttempt).rc = s.rc ∧
    (s.writeAttempt).env = s.env ∧ (s.writeAttempt).split = s.split ∧ (s.writeAttempt).gen = s.gen ∧
    (s.writeAttempt).wear = s.wear ∧ (s.writeAttempt).rcd = s.rcd ∧ (s.writeAttempt).pending = s.pending := by
  unfold State.writeAttempt
  split <;> simp

@[simp] theorem writeOrErase_untouched :
    (s.writeOrErase).powered = s.powered ∧ (s.writeOrErase).resetAsserted = s.resetAsserted ∧
    (s.writeOrErase).now = s.now ∧ (s.writeOrErase).freeCount = s.freeCount ∧ (s.writeOrErase).rc = s.rc ∧
    (s.writeOrErase).env = s.env ∧ (s.writeOrErase).split = s.split ∧ (s.writeOrErase).gen = s.gen ∧
    (s.writeOrErase).wear = s.wear ∧ (s.writeOrErase).rcd = s.rcd ∧ (s.writeOrErase).pending = s.pending := by
  unfold State.writeOrErase
  split_ifs <;> simp

@[simp] theorem startCheckpoint_untouched :
    (s.startCheckpoint).powered = s.powered ∧ (s.startCheckpoint).resetAsserted = s.resetAsserted ∧
    (s.startCheckpoint).now = s.now ∧ (s.startCheckpoint).freeCount = s.freeCount ∧
    (s.startCheckpoint).rc = s.rc ∧ (s.startCheckpoint).env = s.env ∧ (s.startCheckpoint).split = s.split ∧
    (s.startCheckpoint).gen = s.gen ∧ (s.startCheckpoint).wear = s.wear ∧ (s.startCheckpoint).rcd = s.rcd ∧
    (s.startCheckpoint).pending = s.pending := by
  simp [State.startCheckpoint]

@[simp] theorem requestCheckpoint_untouched :
    (s.requestCheckpoint).powered = s.powered ∧ (s.requestCheckpoint).resetAsserted = s.resetAsserted ∧
    (s.requestCheckpoint).now = s.now ∧ (s.requestCheckpoint).freeCount = s.freeCount ∧
    (s.requestCheckpoint).rc = s.rc ∧ (s.requestCheckpoint).env = s.env ∧
    (s.requestCheckpoint).split = s.split ∧ (s.requestCheckpoint).gen = s.gen ∧
    (s.requestCheckpoint).wear = s.wear ∧ (s.requestCheckpoint).rcd = s.rcd ∧
    (s.requestCheckpoint).pending = s.pending := by
  unfold State.requestCheckpoint
  split_ifs <;> simp

@[simp] theorem endCheckpoint_untouched :
    (s.endCheckpoint).powered = s.powered ∧ (s.endCheckpoint).resetAsserted = s.resetAsserted ∧
    (s.endCheckpoint).now = s.now ∧ (s.endCheckpoint).freeCount = s.freeCount ∧ (s.endCheckpoint).rc = s.rc ∧
    (s.endCheckpoint).env = s.env ∧ (s.endCheckpoint).split = s.split ∧ (s.endCheckpoint).gen = s.gen ∧
    (s.endCheckpoint).wear = s.wear ∧ (s.endCheckpoint).rcd = s.rcd ∧ (s.endCheckpoint).pending = s.pending := by
  unfold State.endCheckpoint
  dsimp only
  split_ifs <;> simp

@[simp] theorem verifyWrite_untouched (f : CellFaults) :
    (s.verifyWrite f).powered = s.powered ∧ (s.verifyWrite f).resetAsserted = s.resetAsserted ∧
    (s.verifyWrite f).now = s.now ∧ (s.verifyWrite f).freeCount = s.freeCount ∧ (s.verifyWrite f).rc = s.rc ∧
    (s.verifyWrite f).env = s.env ∧ (s.verifyWrite f).split = s.split ∧ (s.verifyWrite f).gen = s.gen ∧
    (s.verifyWrite f).wear = s.wear ∧ (s.verifyWrite f).rcd = s.rcd ∧ (s.verifyWrite f).pending = s.pending := by
  unfold State.verifyWrite
  dsimp only
  split_ifs <;> simp

@[simp] theorem verifyErase_untouched (f : CellFaults) :
    (s.verifyErase f).powered = s.powered ∧ (s.verifyErase f).resetAsserted = s.resetAsserted ∧
    (s.verifyErase f).now = s.now ∧ (s.verifyErase f).freeCount = s.freeCount ∧ (s.verifyErase f).rc = s.rc ∧
    (s.verifyErase f).env = s.env ∧ (s.verifyErase f).split = s.split ∧ (s.verifyErase f).gen = s.gen ∧
    (s.verifyErase f).wear = s.wear ∧ (s.verifyErase f).rcd = s.rcd ∧ (s.verifyErase f).pending = s.pending := by
  unfold State.verifyErase
  dsimp only
  split_ifs <;> simp

@[simp] theorem cutStoreOff_untouched (c : WriteCut) :
    (s.cutStoreOff c).powered = s.powered ∧ (s.cutStoreOff c).resetAsserted = s.resetAsserted ∧
    (s.cutStoreOff c).now = s.now ∧ (s.cutStoreOff c).rc = s.rc ∧ (s.cutStoreOff c).env = s.env ∧
    (s.cutStoreOff c).cut = s.cut ∧ (s.cutStoreOff c).split = s.split ∧ (s.cutStoreOff c).gen = s.gen ∧
    (s.cutStoreOff c).wear = s.wear ∧ (s.cutStoreOff c).rcd = s.rcd ∧ (s.cutStoreOff c).ports = s.ports ∧
    (s.cutStoreOff c).pending = s.pending := by
  unfold State.cutStoreOff
  split <;> simp

/-! ### The wear monitor -/

@[simp] theorem recomputeLevels_untouched :
    (s.recomputeLevels).powered = s.powered ∧ (s.recomputeLevels).resetAsserted = s.resetAsserted ∧
    (s.recomputeLevels).now = s.now ∧ (s.recomputeLevels).freeCount = s.freeCount ∧
    (s.recomputeLevels).rc = s.rc ∧ (s.recomputeLevels).env = s.env ∧ (s.recomputeLevels).split = s.split ∧
    (s.recomputeLevels).gen = s.gen ∧ (s.recomputeLevels).pending = s.pending := by
  unfold State.recomputeLevels
  dsimp only
  split_ifs <;> simp

@[simp] theorem addLiningWear_untouched (dt : Nat) :
    (s.addLiningWear dt).powered = s.powered ∧ (s.addLiningWear dt).resetAsserted = s.resetAsserted ∧
    (s.addLiningWear dt).now = s.now ∧ (s.addLiningWear dt).freeCount = s.freeCount ∧
    (s.addLiningWear dt).rc = s.rc ∧ (s.addLiningWear dt).env = s.env ∧ (s.addLiningWear dt).cut = s.cut ∧
    (s.addLiningWear dt).split = s.split ∧ (s.addLiningWear dt).gen = s.gen ∧
    (s.addLiningWear dt).store = s.store ∧ (s.addLiningWear dt).rcd = s.rcd ∧
    (s.addLiningWear dt).ports = s.ports ∧ (s.addLiningWear dt).pending = s.pending := by
  simp [State.addLiningWear]

@[simp] theorem heatLinings_untouched (dt : Nat) :
    (s.heatLinings dt).powered = s.powered ∧ (s.heatLinings dt).resetAsserted = s.resetAsserted ∧
    (s.heatLinings dt).now = s.now ∧ (s.heatLinings dt).freeCount = s.freeCount ∧
    (s.heatLinings dt).rc = s.rc ∧ (s.heatLinings dt).env = s.env ∧ (s.heatLinings dt).split = s.split ∧
    (s.heatLinings dt).gen = s.gen ∧ (s.heatLinings dt).store = s.store ∧ (s.heatLinings dt).rcd = s.rcd ∧
    (s.heatLinings dt).pending = s.pending := by
  unfold State.heatLinings State.setCause
  dsimp only
  split_ifs <;> simp

@[simp] theorem brakeWear_untouched (dt : Nat) :
    (s.brakeWear dt).powered = s.powered ∧ (s.brakeWear dt).resetAsserted = s.resetAsserted ∧
    (s.brakeWear dt).now = s.now ∧ (s.brakeWear dt).freeCount = s.freeCount ∧ (s.brakeWear dt).rc = s.rc ∧
    (s.brakeWear dt).env = s.env ∧ (s.brakeWear dt).split = s.split ∧ (s.brakeWear dt).gen = s.gen ∧
    (s.brakeWear dt).pending = s.pending := by
  simp [State.brakeWear]

@[simp] theorem batteryWear_untouched (dt : Nat) :
    (s.batteryWear dt).powered = s.powered ∧ (s.batteryWear dt).resetAsserted = s.resetAsserted ∧
    (s.batteryWear dt).now = s.now ∧ (s.batteryWear dt).freeCount = s.freeCount ∧
    (s.batteryWear dt).rc = s.rc ∧ (s.batteryWear dt).env = s.env ∧ (s.batteryWear dt).split = s.split ∧
    (s.batteryWear dt).gen = s.gen ∧ (s.batteryWear dt).pending = s.pending := by
  simp [State.batteryWear]

@[simp] theorem countStart_untouched (b : GensetState) :
    (s.countStart b).powered = s.powered ∧ (s.countStart b).resetAsserted = s.resetAsserted ∧
    (s.countStart b).now = s.now ∧ (s.countStart b).freeCount = s.freeCount ∧ (s.countStart b).rc = s.rc ∧
    (s.countStart b).env = s.env ∧ (s.countStart b).split = s.split ∧ (s.countStart b).gen = s.gen ∧
    (s.countStart b).pending = s.pending := by
  simp [State.countStart]

@[simp] theorem resetItem_untouched (i : WearItem) :
    (s.resetItem i).powered = s.powered ∧ (s.resetItem i).resetAsserted = s.resetAsserted ∧
    (s.resetItem i).now = s.now ∧ (s.resetItem i).freeCount = s.freeCount ∧ (s.resetItem i).rc = s.rc ∧
    (s.resetItem i).env = s.env ∧ (s.resetItem i).split = s.split ∧ (s.resetItem i).gen = s.gen ∧
    (s.resetItem i).pending = s.pending := by
  simp [State.resetItem]

/-! ### The genset manager -/

@[simp] theorem raiseZoneBreach_untouched :
    (s.raiseZoneBreach).powered = s.powered ∧ (s.raiseZoneBreach).resetAsserted = s.resetAsserted ∧
    (s.raiseZoneBreach).now = s.now ∧ (s.raiseZoneBreach).freeCount = s.freeCount ∧
    (s.raiseZoneBreach).rc = s.rc ∧ (s.raiseZoneBreach).env = s.env ∧ (s.raiseZoneBreach).split = s.split ∧
    (s.raiseZoneBreach).gen = s.gen ∧ (s.raiseZoneBreach).wear = s.wear ∧
    (s.raiseZoneBreach).store = s.store ∧ (s.raiseZoneBreach).rcd = s.rcd ∧
    (s.raiseZoneBreach).pending = s.pending := by
  unfold State.raiseZoneBreach
  split_ifs <;> simp

@[simp] theorem enterOff_untouched :
    (s.enterOff).powered = s.powered ∧ (s.enterOff).resetAsserted = s.resetAsserted ∧
    (s.enterOff).now = s.now ∧ (s.enterOff).freeCount = s.freeCount ∧ (s.enterOff).rc = s.rc ∧
    (s.enterOff).env = s.env ∧ (s.enterOff).split = s.split ∧ (s.enterOff).wear = s.wear ∧
    (s.enterOff).store = s.store ∧ (s.enterOff).rcd = s.rcd ∧ (s.enterOff).pending = s.pending := by
  simp [State.enterOff]

@[simp] theorem sendOff_untouched :
    (s.sendOff).powered = s.powered ∧ (s.sendOff).resetAsserted = s.resetAsserted ∧ (s.sendOff).now = s.now ∧
    (s.sendOff).freeCount = s.freeCount ∧ (s.sendOff).rc = s.rc ∧ (s.sendOff).env = s.env ∧
    (s.sendOff).split = s.split ∧ (s.sendOff).wear = s.wear ∧ (s.sendOff).store = s.store ∧
    (s.sendOff).rcd = s.rcd ∧ (s.sendOff).pending = s.pending := by
  unfold State.sendOff
  split_ifs <;> simp

@[simp] theorem sendStop_untouched :
    (s.sendStop).powered = s.powered ∧ (s.sendStop).resetAsserted = s.resetAsserted ∧
    (s.sendStop).now = s.now ∧ (s.sendStop).freeCount = s.freeCount ∧ (s.sendStop).rc = s.rc ∧
    (s.sendStop).env = s.env ∧ (s.sendStop).split = s.split ∧ (s.sendStop).wear = s.wear ∧
    (s.sendStop).store = s.store ∧ (s.sendStop).rcd = s.rcd ∧ (s.sendStop).pending = s.pending := by
  unfold State.sendStop
  split_ifs <;> simp

@[simp] theorem startReached_untouched :
    (s.startReached).powered = s.powered ∧ (s.startReached).resetAsserted = s.resetAsserted ∧
    (s.startReached).now = s.now ∧ (s.startReached).freeCount = s.freeCount ∧ (s.startReached).rc = s.rc ∧
    (s.startReached).env = s.env ∧ (s.startReached).split = s.split ∧ (s.startReached).wear = s.wear ∧
    (s.startReached).store = s.store ∧ (s.startReached).rcd = s.rcd ∧ (s.startReached).pending = s.pending := by
  simp [State.startReached]

@[simp] theorem leaveAbsorb_untouched :
    (s.leaveAbsorb).powered = s.powered ∧ (s.leaveAbsorb).resetAsserted = s.resetAsserted ∧
    (s.leaveAbsorb).now = s.now ∧ (s.leaveAbsorb).freeCount = s.freeCount ∧ (s.leaveAbsorb).rc = s.rc ∧
    (s.leaveAbsorb).env = s.env ∧ (s.leaveAbsorb).cut = s.cut ∧ (s.leaveAbsorb).split = s.split ∧
    (s.leaveAbsorb).wear = s.wear ∧ (s.leaveAbsorb).store = s.store ∧ (s.leaveAbsorb).rcd = s.rcd ∧
    (s.leaveAbsorb).ports = s.ports ∧ (s.leaveAbsorb).pending = s.pending := by
  simp [State.leaveAbsorb]

@[simp] theorem failedStart_untouched :
    (s.failedStart).powered = s.powered ∧ (s.failedStart).resetAsserted = s.resetAsserted ∧
    (s.failedStart).now = s.now ∧ (s.failedStart).freeCount = s.freeCount ∧ (s.failedStart).rc = s.rc ∧
    (s.failedStart).env = s.env ∧ (s.failedStart).split = s.split ∧ (s.failedStart).wear = s.wear ∧
    (s.failedStart).store = s.store ∧ (s.failedStart).pending = s.pending := by
  simp [State.failedStart]

@[simp] theorem stoppedUnasked_untouched :
    (s.stoppedUnasked).powered = s.powered ∧ (s.stoppedUnasked).resetAsserted = s.resetAsserted ∧
    (s.stoppedUnasked).now = s.now ∧ (s.stoppedUnasked).freeCount = s.freeCount ∧
    (s.stoppedUnasked).rc = s.rc ∧ (s.stoppedUnasked).env = s.env ∧ (s.stoppedUnasked).split = s.split ∧
    (s.stoppedUnasked).wear = s.wear ∧ (s.stoppedUnasked).store = s.store ∧ (s.stoppedUnasked).rcd = s.rcd ∧
    (s.stoppedUnasked).pending = s.pending := by
  simp [State.stoppedUnasked]

@[simp] theorem stepOff_untouched :
    (s.stepOff).powered = s.powered ∧ (s.stepOff).resetAsserted = s.resetAsserted ∧ (s.stepOff).now = s.now ∧
    (s.stepOff).freeCount = s.freeCount ∧ (s.stepOff).rc = s.rc ∧ (s.stepOff).env = s.env ∧
    (s.stepOff).cut = s.cut ∧ (s.stepOff).split = s.split ∧ (s.stepOff).wear = s.wear ∧
    (s.stepOff).store = s.store ∧ (s.stepOff).rcd = s.rcd ∧ (s.stepOff).ports = s.ports ∧
    (s.stepOff).pending = s.pending := by
  unfold State.stepOff
  split_ifs <;> simp

/-- The test of the minimum off timer makes that timer idle or changes nothing. -/
theorem testMinOff_eq : s.testMinOff = s.setGen { s.gen with
    minOff := if elapsed s.gen.minOff s.now then none else s.gen.minOff } := by
  unfold State.testMinOff
  split_ifs <;> rfl

@[simp] theorem testMinOff_untouched :
    (s.testMinOff).powered = s.powered ∧ (s.testMinOff).resetAsserted = s.resetAsserted ∧
    (s.testMinOff).now = s.now ∧ (s.testMinOff).freeCount = s.freeCount ∧ (s.testMinOff).rc = s.rc ∧
    (s.testMinOff).env = s.env ∧ (s.testMinOff).cut = s.cut ∧ (s.testMinOff).split = s.split ∧
    (s.testMinOff).wear = s.wear ∧ (s.testMinOff).store = s.store ∧ (s.testMinOff).rcd = s.rcd ∧
    (s.testMinOff).ports = s.ports ∧ (s.testMinOff).pending = s.pending := by
  simp [testMinOff_eq]

@[simp] theorem stepStartRequested_untouched :
    (s.stepStartRequested).powered = s.powered ∧ (s.stepStartRequested).resetAsserted = s.resetAsserted ∧
    (s.stepStartRequested).now = s.now ∧ (s.stepStartRequested).freeCount = s.freeCount ∧
    (s.stepStartRequested).rc = s.rc ∧ (s.stepStartRequested).env = s.env ∧
    (s.stepStartRequested).split = s.split ∧ (s.stepStartRequested).wear = s.wear ∧
    (s.stepStartRequested).store = s.store ∧ (s.stepStartRequested).pending = s.pending := by
  unfold State.stepStartRequested
  split_ifs <;> simp

@[simp] theorem stepRun_untouched :
    (s.stepRun).powered = s.powered ∧ (s.stepRun).resetAsserted = s.resetAsserted ∧ (s.stepRun).now = s.now ∧
    (s.stepRun).freeCount = s.freeCount ∧ (s.stepRun).rc = s.rc ∧ (s.stepRun).env = s.env ∧
    (s.stepRun).split = s.split ∧ (s.stepRun).wear = s.wear ∧ (s.stepRun).store = s.store ∧
    (s.stepRun).rcd = s.rcd ∧ (s.stepRun).pending = s.pending := by
  unfold State.stepRun
  split_ifs <;> simp

@[simp] theorem stepAbsorb_untouched :
    (s.stepAbsorb).powered = s.powered ∧ (s.stepAbsorb).resetAsserted = s.resetAsserted ∧
    (s.stepAbsorb).now = s.now ∧ (s.stepAbsorb).freeCount = s.freeCount ∧ (s.stepAbsorb).rc = s.rc ∧
    (s.stepAbsorb).env = s.env ∧ (s.stepAbsorb).split = s.split ∧ (s.stepAbsorb).wear = s.wear ∧
    (s.stepAbsorb).store = s.store ∧ (s.stepAbsorb).rcd = s.rcd ∧ (s.stepAbsorb).pending = s.pending := by
  unfold State.stepAbsorb
  split_ifs <;> simp

@[simp] theorem stepStopRequested_untouched :
    (s.stepStopRequested).powered = s.powered ∧ (s.stepStopRequested).resetAsserted = s.resetAsserted ∧
    (s.stepStopRequested).now = s.now ∧ (s.stepStopRequested).freeCount = s.freeCount ∧
    (s.stepStopRequested).rc = s.rc ∧ (s.stepStopRequested).env = s.env ∧
    (s.stepStopRequested).split = s.split ∧ (s.stepStopRequested).wear = s.wear ∧
    (s.stepStopRequested).store = s.store ∧ (s.stepStopRequested).rcd = s.rcd ∧
    (s.stepStopRequested).pending = s.pending := by
  unfold State.stepStopRequested
  split_ifs <;> simp

@[simp] theorem managerTransition_untouched :
    (s.managerTransition).powered = s.powered ∧ (s.managerTransition).resetAsserted = s.resetAsserted ∧
    (s.managerTransition).now = s.now ∧ (s.managerTransition).freeCount = s.freeCount ∧
    (s.managerTransition).rc = s.rc ∧ (s.managerTransition).env = s.env ∧
    (s.managerTransition).split = s.split ∧ (s.managerTransition).wear = s.wear ∧
    (s.managerTransition).store = s.store ∧ (s.managerTransition).pending = s.pending := by
  unfold State.managerTransition
  split_ifs
  all_goals first | simp | (split <;> simp)

@[simp] theorem settleZoneBreach_untouched :
    (s.settleZoneBreach).powered = s.powered ∧ (s.settleZoneBreach).resetAsserted = s.resetAsserted ∧
    (s.settleZoneBreach).now = s.now ∧ (s.settleZoneBreach).freeCount = s.freeCount ∧
    (s.settleZoneBreach).rc = s.rc ∧ (s.settleZoneBreach).env = s.env ∧
    (s.settleZoneBreach).split = s.split ∧ (s.settleZoneBreach).gen = s.gen ∧
    (s.settleZoneBreach).wear = s.wear ∧ (s.settleZoneBreach).store = s.store ∧
    (s.settleZoneBreach).rcd = s.rcd ∧ (s.settleZoneBreach).pending = s.pending := by
  unfold State.settleZoneBreach
  split_ifs <;> simp

@[simp] theorem filterDemand_untouched :
    (s.filterDemand).powered = s.powered ∧ (s.filterDemand).resetAsserted = s.resetAsserted ∧
    (s.filterDemand).now = s.now ∧ (s.filterDemand).freeCount = s.freeCount ∧ (s.filterDemand).rc = s.rc ∧
    (s.filterDemand).env = s.env ∧ (s.filterDemand).cut = s.cut ∧ (s.filterDemand).split = s.split ∧
    (s.filterDemand).wear = s.wear ∧ (s.filterDemand).store = s.store ∧ (s.filterDemand).rcd = s.rcd ∧
    (s.filterDemand).ports = s.ports ∧ (s.filterDemand).pending = s.pending := by
  unfold State.filterDemand
  dsimp only
  split_ifs <;> simp

@[simp] theorem gensetStep_untouched :
    (s.gensetStep).powered = s.powered ∧ (s.gensetStep).resetAsserted = s.resetAsserted ∧
    (s.gensetStep).now = s.now ∧ (s.gensetStep).freeCount = s.freeCount ∧ (s.gensetStep).rc = s.rc ∧
    (s.gensetStep).env = s.env ∧ (s.gensetStep).split = s.split ∧ (s.gensetStep).wear = s.wear ∧
    (s.gensetStep).store = s.store ∧ (s.gensetStep).pending = s.pending := by
  simp [State.gensetStep]

@[simp] theorem zoneAtCommit_untouched :
    (s.zoneAtCommit).powered = s.powered ∧ (s.zoneAtCommit).resetAsserted = s.resetAsserted ∧
    (s.zoneAtCommit).now = s.now ∧ (s.zoneAtCommit).freeCount = s.freeCount ∧ (s.zoneAtCommit).rc = s.rc ∧
    (s.zoneAtCommit).env = s.env ∧ (s.zoneAtCommit).split = s.split ∧ (s.zoneAtCommit).wear = s.wear ∧
    (s.zoneAtCommit).store = s.store ∧ (s.zoneAtCommit).rcd = s.rcd ∧ (s.zoneAtCommit).pending = s.pending := by
  unfold State.zoneAtCommit
  dsimp only
  cases s.gen.mgr <;> dsimp only <;> split_ifs <;> simp

/-! ### The evaluation and the energy counters -/

@[simp] theorem countEnergy_untouched :
    (s.countEnergy).powered = s.powered ∧ (s.countEnergy).resetAsserted = s.resetAsserted ∧
    (s.countEnergy).now = s.now ∧ (s.countEnergy).freeCount = s.freeCount ∧ (s.countEnergy).rc = s.rc ∧
    (s.countEnergy).env = s.env ∧ (s.countEnergy).cut = s.cut ∧ (s.countEnergy).split = s.split ∧
    (s.countEnergy).gen = s.gen ∧ (s.countEnergy).wear = s.wear ∧ (s.countEnergy).store = s.store ∧
    (s.countEnergy).rcd = s.rcd ∧ (s.countEnergy).pending = s.pending := by
  simp [State.countEnergy]

@[simp] theorem countFriction_untouched (dt : Nat) :
    (s.countFriction dt).powered = s.powered ∧ (s.countFriction dt).resetAsserted = s.resetAsserted ∧
    (s.countFriction dt).now = s.now ∧ (s.countFriction dt).freeCount = s.freeCount ∧
    (s.countFriction dt).rc = s.rc ∧ (s.countFriction dt).env = s.env ∧ (s.countFriction dt).cut = s.cut ∧
    (s.countFriction dt).split = s.split ∧ (s.countFriction dt).gen = s.gen ∧
    (s.countFriction dt).wear = s.wear ∧ (s.countFriction dt).store = s.store ∧
    (s.countFriction dt).rcd = s.rcd ∧ (s.countFriction dt).pending = s.pending := by
  simp [State.countFriction]

@[simp] theorem evaluate_untouched :
    (s.evaluate).powered = s.powered ∧ (s.evaluate).resetAsserted = s.resetAsserted ∧
    (s.evaluate).now = s.now ∧ (s.evaluate).freeCount = s.freeCount ∧ (s.evaluate).rc = s.rc ∧
    (s.evaluate).env = s.env ∧ (s.evaluate).wear = s.wear ∧ (s.evaluate).store = s.store ∧
    (s.evaluate).pending = s.pending := by
  simp [State.evaluate]

/-! ### Run control -/

@[simp] theorem releaseClaim_untouched :
    (s.releaseClaim).powered = s.powered ∧ (s.releaseClaim).resetAsserted = s.resetAsserted ∧
    (s.releaseClaim).now = s.now ∧ (s.releaseClaim).freeCount = s.freeCount ∧ (s.releaseClaim).env = s.env ∧
    (s.releaseClaim).cut = s.cut ∧ (s.releaseClaim).split = s.split ∧ (s.releaseClaim).gen = s.gen ∧
    (s.releaseClaim).wear = s.wear ∧ (s.releaseClaim).store = s.store ∧ (s.releaseClaim).rcd = s.rcd ∧
    (s.releaseClaim).pending = s.pending := by
  unfold State.releaseClaim
  split <;> simp

@[simp] theorem discardStaged_untouched :
    (s.discardStaged).powered = s.powered ∧ (s.discardStaged).resetAsserted = s.resetAsserted ∧
    (s.discardStaged).now = s.now ∧ (s.discardStaged).freeCount = s.freeCount ∧
    (s.discardStaged).env = s.env ∧ (s.discardStaged).cut = s.cut ∧ (s.discardStaged).split = s.split ∧
    (s.discardStaged).gen = s.gen ∧ (s.discardStaged).wear = s.wear ∧ (s.discardStaged).store = s.store ∧
    (s.discardStaged).rcd = s.rcd ∧ (s.discardStaged).pending = s.pending := by
  simp [State.discardStaged]

@[simp] theorem discardUnbound_untouched :
    (s.discardUnbound).powered = s.powered ∧ (s.discardUnbound).resetAsserted = s.resetAsserted ∧
    (s.discardUnbound).now = s.now ∧ (s.discardUnbound).freeCount = s.freeCount ∧
    (s.discardUnbound).env = s.env ∧ (s.discardUnbound).cut = s.cut ∧ (s.discardUnbound).split = s.split ∧
    (s.discardUnbound).gen = s.gen ∧ (s.discardUnbound).wear = s.wear ∧ (s.discardUnbound).store = s.store ∧
    (s.discardUnbound).rcd = s.rcd ∧ (s.discardUnbound).pending = s.pending := by
  unfold State.discardUnbound
  split <;> [simp; (split_ifs <;> simp)]

@[simp] theorem discardStale_untouched (r : Role) :
    (s.discardStale r).powered = s.powered ∧ (s.discardStale r).resetAsserted = s.resetAsserted ∧
    (s.discardStale r).now = s.now ∧ (s.discardStale r).freeCount = s.freeCount ∧
    (s.discardStale r).env = s.env ∧ (s.discardStale r).cut = s.cut ∧ (s.discardStale r).split = s.split ∧
    (s.discardStale r).gen = s.gen ∧ (s.discardStale r).wear = s.wear ∧ (s.discardStale r).store = s.store ∧
    (s.discardStale r).rcd = s.rcd ∧ (s.discardStale r).pending = s.pending := by
  unfold State.discardStale
  split <;> [simp; (split_ifs <;> simp)]

@[simp] theorem changeRunState_untouched (x : RunState) :
    (s.changeRunState x).powered = s.powered ∧ (s.changeRunState x).resetAsserted = s.resetAsserted ∧
    (s.changeRunState x).now = s.now ∧ (s.changeRunState x).freeCount = s.freeCount ∧
    (s.changeRunState x).env = s.env ∧ (s.changeRunState x).cut = s.cut ∧
    (s.changeRunState x).split = s.split ∧ (s.changeRunState x).gen = s.gen ∧
    (s.changeRunState x).wear = s.wear ∧ (s.changeRunState x).store = s.store ∧
    (s.changeRunState x).pending = s.pending := by
  simp [State.changeRunState]

@[simp] theorem stopSplit_untouched :
    (s.stopSplit).powered = s.powered ∧ (s.stopSplit).resetAsserted = s.resetAsserted ∧
    (s.stopSplit).now = s.now ∧ (s.stopSplit).freeCount = s.freeCount ∧ (s.stopSplit).rc = s.rc ∧
    (s.stopSplit).env = s.env ∧ (s.stopSplit).cut = s.cut ∧ (s.stopSplit).gen = s.gen ∧
    (s.stopSplit).wear = s.wear ∧ (s.stopSplit).store = s.store ∧ (s.stopSplit).rcd = s.rcd ∧
    (s.stopSplit).ports = s.ports ∧ (s.stopSplit).pending = s.pending := by
  simp [State.stopSplit]

@[simp] theorem stopDeadlines_untouched :
    (s.stopDeadlines).powered = s.powered ∧ (s.stopDeadlines).resetAsserted = s.resetAsserted ∧
    (s.stopDeadlines).now = s.now ∧ (s.stopDeadlines).freeCount = s.freeCount ∧ (s.stopDeadlines).rc = s.rc ∧
    (s.stopDeadlines).cut = s.cut ∧ (s.stopDeadlines).split = s.split ∧ (s.stopDeadlines).gen = s.gen ∧
    (s.stopDeadlines).wear = s.wear ∧ (s.stopDeadlines).store = s.store ∧ (s.stopDeadlines).rcd = s.rcd ∧
    (s.stopDeadlines).ports = s.ports ∧ (s.stopDeadlines).pending = s.pending := by
  simp [State.stopDeadlines]

@[simp] theorem startDeadlines_untouched :
    (s.startDeadlines).powered = s.powered ∧ (s.startDeadlines).resetAsserted = s.resetAsserted ∧
    (s.startDeadlines).now = s.now ∧ (s.startDeadlines).freeCount = s.freeCount ∧
    (s.startDeadlines).rc = s.rc ∧ (s.startDeadlines).cut = s.cut ∧ (s.startDeadlines).split = s.split ∧
    (s.startDeadlines).gen = s.gen ∧ (s.startDeadlines).wear = s.wear ∧ (s.startDeadlines).store = s.store ∧
    (s.startDeadlines).rcd = s.rcd ∧ (s.startDeadlines).ports = s.ports ∧
    (s.startDeadlines).pending = s.pending := by
  simp [State.startDeadlines]

@[simp] theorem leaveActive_untouched :
    (s.leaveActive).powered = s.powered ∧ (s.leaveActive).resetAsserted = s.resetAsserted ∧
    (s.leaveActive).now = s.now ∧ (s.leaveActive).freeCount = s.freeCount ∧ (s.leaveActive).rc = s.rc ∧
    (s.leaveActive).env = s.env ∧ (s.leaveActive).cut = s.cut ∧ (s.leaveActive).wear = s.wear ∧
    (s.leaveActive).rcd = s.rcd ∧ (s.leaveActive).ports = s.ports ∧ (s.leaveActive).pending = s.pending := by
  simp [State.leaveActive]

@[simp] theorem enterHalted_untouched :
    (s.enterHalted).powered = s.powered ∧ (s.enterHalted).resetAsserted = s.resetAsserted ∧
    (s.enterHalted).now = s.now ∧ (s.enterHalted).freeCount = s.freeCount ∧ (s.enterHalted).wear = s.wear ∧
    (s.enterHalted).pending = s.pending := by
  unfold State.enterHalted
  dsimp only
  split_ifs <;> simp

@[simp] theorem enterStandby_untouched :
    (s.enterStandby).powered = s.powered ∧ (s.enterStandby).resetAsserted = s.resetAsserted ∧
    (s.enterStandby).now = s.now ∧ (s.enterStandby).freeCount = s.freeCount ∧ (s.enterStandby).gen = s.gen ∧
    (s.enterStandby).wear = s.wear ∧ (s.enterStandby).store = s.store ∧ (s.enterStandby).pending = s.pending := by
  simp [State.enterStandby]

@[simp] theorem dropToStandby_untouched :
    (s.dropToStandby).powered = s.powered ∧ (s.dropToStandby).resetAsserted = s.resetAsserted ∧
    (s.dropToStandby).now = s.now ∧ (s.dropToStandby).freeCount = s.freeCount ∧
    (s.dropToStandby).env = s.env ∧ (s.dropToStandby).wear = s.wear ∧ (s.dropToStandby).pending = s.pending := by
  simp [State.dropToStandby]

@[simp] theorem enterActive_untouched :
    (s.enterActive).powered = s.powered ∧ (s.enterActive).resetAsserted = s.resetAsserted ∧
    (s.enterActive).now = s.now ∧ (s.enterActive).freeCount = s.freeCount ∧ (s.enterActive).env = s.env ∧
    (s.enterActive).wear = s.wear ∧ (s.enterActive).pending = s.pending := by
  simp [State.enterActive]

@[simp] theorem startSelfCheck_untouched (b : Bool) :
    (s.startSelfCheck b).powered = s.powered ∧ (s.startSelfCheck b).resetAsserted = s.resetAsserted ∧
    (s.startSelfCheck b).now = s.now ∧ (s.startSelfCheck b).freeCount = s.freeCount ∧
    (s.startSelfCheck b).cut = s.cut ∧ (s.startSelfCheck b).gen = s.gen ∧
    (s.startSelfCheck b).wear = s.wear ∧ (s.startSelfCheck b).store = s.store ∧
    (s.startSelfCheck b).pending = s.pending := by
  simp [State.startSelfCheck]

@[simp] theorem endSelfCheck_untouched (f : StepFailures) :
    (s.endSelfCheck f).powered = s.powered ∧ (s.endSelfCheck f).resetAsserted = s.resetAsserted ∧
    (s.endSelfCheck f).now = s.now ∧ (s.endSelfCheck f).freeCount = s.freeCount ∧
    (s.endSelfCheck f).wear = s.wear ∧ (s.endSelfCheck f).pending = s.pending := by
  unfold State.endSelfCheck
  dsimp only
  split_ifs <;> simp

/-! ### Report intake -/

@[simp] theorem writeEntry_untouched (r : Role) (v : List Int) (c : BitVec 6) :
    (s.writeEntry r v c).powered = s.powered ∧ (s.writeEntry r v c).resetAsserted = s.resetAsserted ∧
    (s.writeEntry r v c).now = s.now ∧ (s.writeEntry r v c).freeCount = s.freeCount ∧
    (s.writeEntry r v c).rc = s.rc ∧ (s.writeEntry r v c).cut = s.cut ∧
    (s.writeEntry r v c).split = s.split ∧ (s.writeEntry r v c).gen = s.gen ∧
    (s.writeEntry r v c).wear = s.wear ∧ (s.writeEntry r v c).store = s.store ∧
    (s.writeEntry r v c).rcd = s.rcd ∧ (s.writeEntry r v c).ports = s.ports ∧
    (s.writeEntry r v c).pending = s.pending := by
  simp [State.writeEntry]

@[simp] theorem vehicleCommitted_untouched :
    (s.vehicleCommitted).powered = s.powered ∧ (s.vehicleCommitted).resetAsserted = s.resetAsserted ∧
    (s.vehicleCommitted).now = s.now ∧ (s.vehicleCommitted).freeCount = s.freeCount ∧
    (s.vehicleCommitted).rc = s.rc ∧ (s.vehicleCommitted).env = s.env ∧
    (s.vehicleCommitted).split = s.split ∧ (s.vehicleCommitted).wear = s.wear ∧
    (s.vehicleCommitted).store = s.store ∧ (s.vehicleCommitted).pending = s.pending := by
  unfold State.vehicleCommitted
  dsimp only
  split_ifs <;> simp

@[simp] theorem brakeCommitted_untouched (b : BrakeReport) (dt : Nat) :
    (s.brakeCommitted b dt).powered = s.powered ∧ (s.brakeCommitted b dt).resetAsserted = s.resetAsserted ∧
    (s.brakeCommitted b dt).now = s.now ∧ (s.brakeCommitted b dt).freeCount = s.freeCount ∧
    (s.brakeCommitted b dt).rc = s.rc ∧ (s.brakeCommitted b dt).env = s.env ∧
    (s.brakeCommitted b dt).split = s.split ∧ (s.brakeCommitted b dt).gen = s.gen ∧
    (s.brakeCommitted b dt).pending = s.pending := by
  unfold State.brakeCommitted
  dsimp only
  split_ifs <;> simp

@[simp] theorem handOn_untouched (r : Role) (e : Envelope) (dt : Nat) :
    (s.handOn r e dt).powered = s.powered ∧ (s.handOn r e dt).resetAsserted = s.resetAsserted ∧
    (s.handOn r e dt).now = s.now ∧ (s.handOn r e dt).freeCount = s.freeCount ∧ (s.handOn r e dt).rc = s.rc ∧
    (s.handOn r e dt).env = s.env ∧ (s.handOn r e dt).split = s.split ∧ (s.handOn r e dt).pending = s.pending := by
  unfold State.handOn
  split <;> simp

@[simp] theorem commit_untouched (r : Role) (v : List Int) (c : BitVec 6) :
    (s.commit r v c).powered = s.powered ∧ (s.commit r v c).resetAsserted = s.resetAsserted ∧
    (s.commit r v c).now = s.now ∧ (s.commit r v c).freeCount = s.freeCount ∧ (s.commit r v c).rc = s.rc ∧
    (s.commit r v c).split = s.split ∧ (s.commit r v c).pending = s.pending := by
  unfold State.commit
  dsimp only
  split_ifs <;> simp

@[simp] theorem stopDeadline_untouched (r : Role) :
    (s.stopDeadline r).powered = s.powered ∧ (s.stopDeadline r).resetAsserted = s.resetAsserted ∧
    (s.stopDeadline r).now = s.now ∧ (s.stopDeadline r).freeCount = s.freeCount ∧
    (s.stopDeadline r).rc = s.rc ∧ (s.stopDeadline r).cut = s.cut ∧ (s.stopDeadline r).split = s.split ∧
    (s.stopDeadline r).gen = s.gen ∧ (s.stopDeadline r).wear = s.wear ∧ (s.stopDeadline r).store = s.store ∧
    (s.stopDeadline r).rcd = s.rcd ∧ (s.stopDeadline r).ports = s.ports ∧
    (s.stopDeadline r).pending = s.pending := by
  simp [State.stopDeadline]

@[simp] theorem becomeStale_untouched (r : Role) :
    (s.becomeStale r).powered = s.powered ∧ (s.becomeStale r).resetAsserted = s.resetAsserted ∧
    (s.becomeStale r).now = s.now ∧ (s.becomeStale r).freeCount = s.freeCount ∧
    (s.becomeStale r).wear = s.wear ∧ (s.becomeStale r).store = s.store ∧
    (s.becomeStale r).pending = s.pending := by
  unfold State.becomeStale
  dsimp only
  split_ifs <;> simp

@[simp] theorem deadlineExpired_untouched (r : Role) :
    (s.deadlineExpired r).powered = s.powered ∧ (s.deadlineExpired r).resetAsserted = s.resetAsserted ∧
    (s.deadlineExpired r).now = s.now ∧ (s.deadlineExpired r).freeCount = s.freeCount ∧
    (s.deadlineExpired r).wear = s.wear ∧ (s.deadlineExpired r).store = s.store ∧
    (s.deadlineExpired r).pending = s.pending := by
  unfold State.deadlineExpired
  dsimp only
  split_ifs <;> simp

/-! ### Reading and writing the record space -/

@[simp] theorem captureRecord_untouched (p : Port) (r : RecordId) :
    (s.captureRecord p r).powered = s.powered ∧ (s.captureRecord p r).resetAsserted = s.resetAsserted ∧
    (s.captureRecord p r).now = s.now ∧ (s.captureRecord p r).freeCount = s.freeCount ∧
    (s.captureRecord p r).rc = s.rc ∧ (s.captureRecord p r).env = s.env ∧ (s.captureRecord p r).cut = s.cut ∧
    (s.captureRecord p r).split = s.split ∧ (s.captureRecord p r).gen = s.gen ∧
    (s.captureRecord p r).wear = s.wear ∧ (s.captureRecord p r).store = s.store ∧
    (s.captureRecord p r).rcd = s.rcd ∧ (s.captureRecord p r).pending = s.pending := by
  simp [State.captureRecord]

@[simp] theorem readRecord_untouched (p : Port) (r : RecordId) (k : Nat) :
    ((s.readRecord p r k).1).powered = s.powered ∧ ((s.readRecord p r k).1).resetAsserted = s.resetAsserted ∧
    ((s.readRecord p r k).1).now = s.now ∧ ((s.readRecord p r k).1).freeCount = s.freeCount ∧
    ((s.readRecord p r k).1).rc = s.rc ∧ ((s.readRecord p r k).1).env = s.env ∧
    ((s.readRecord p r k).1).cut = s.cut ∧ ((s.readRecord p r k).1).split = s.split ∧
    ((s.readRecord p r k).1).gen = s.gen ∧ ((s.readRecord p r k).1).wear = s.wear ∧
    ((s.readRecord p r k).1).store = s.store ∧ ((s.readRecord p r k).1).rcd = s.rcd ∧
    ((s.readRecord p r k).1).pending = s.pending := by
  unfold State.readRecord
  dsimp only
  split_ifs <;> simp

@[simp] theorem readStream_untouched (p : Port) :
    ((s.readStream p).1).powered = s.powered ∧ ((s.readStream p).1).resetAsserted = s.resetAsserted ∧
    ((s.readStream p).1).now = s.now ∧ ((s.readStream p).1).freeCount = s.freeCount ∧
    ((s.readStream p).1).rc = s.rc ∧ ((s.readStream p).1).env = s.env ∧ ((s.readStream p).1).cut = s.cut ∧
    ((s.readStream p).1).split = s.split ∧ ((s.readStream p).1).gen = s.gen ∧
    ((s.readStream p).1).wear = s.wear ∧ ((s.readStream p).1).store = s.store ∧
    ((s.readStream p).1).rcd = s.rcd ∧ ((s.readStream p).1).pending = s.pending := by
  unfold State.readStream
  dsimp only
  split <;> [simp; (split <;> simp)]

@[simp] theorem readAt_untouched (p : Port) (a : Nat) :
    ((s.readAt p a).1).powered = s.powered ∧ ((s.readAt p a).1).resetAsserted = s.resetAsserted ∧
    ((s.readAt p a).1).now = s.now ∧ ((s.readAt p a).1).freeCount = s.freeCount ∧
    ((s.readAt p a).1).rc = s.rc ∧ ((s.readAt p a).1).env = s.env ∧ ((s.readAt p a).1).cut = s.cut ∧
    ((s.readAt p a).1).split = s.split ∧ ((s.readAt p a).1).gen = s.gen ∧ ((s.readAt p a).1).wear = s.wear ∧
    ((s.readAt p a).1).store = s.store ∧ ((s.readAt p a).1).rcd = s.rcd ∧
    ((s.readAt p a).1).pending = s.pending := by
  unfold State.readAt
  split <;> [simp; (split_ifs <;> [simp; (split <;> simp)])]

@[simp] theorem readFrame_untouched (p : Port) (b : Bool) :
    ((s.readFrame p b).1).powered = s.powered ∧ ((s.readFrame p b).1).resetAsserted = s.resetAsserted ∧
    ((s.readFrame p b).1).now = s.now ∧ ((s.readFrame p b).1).freeCount = s.freeCount ∧
    ((s.readFrame p b).1).rc = s.rc ∧ ((s.readFrame p b).1).env = s.env ∧ ((s.readFrame p b).1).cut = s.cut ∧
    ((s.readFrame p b).1).split = s.split ∧ ((s.readFrame p b).1).gen = s.gen ∧
    ((s.readFrame p b).1).wear = s.wear ∧ ((s.readFrame p b).1).store = s.store ∧
    ((s.readFrame p b).1).rcd = s.rcd ∧ ((s.readFrame p b).1).pending = s.pending := by
  unfold State.readFrame
  dsimp only
  split_ifs <;> simp

@[simp] theorem hold_untouched (p : Port) (k : AssemblyKind) (l : List Word) (w : Word) :
    ((s.hold p k l w).1).powered = s.powered ∧ ((s.hold p k l w).1).resetAsserted = s.resetAsserted ∧
    ((s.hold p k l w).1).now = s.now ∧ ((s.hold p k l w).1).freeCount = s.freeCount ∧
    ((s.hold p k l w).1).rc = s.rc ∧ ((s.hold p k l w).1).env = s.env ∧ ((s.hold p k l w).1).cut = s.cut ∧
    ((s.hold p k l w).1).split = s.split ∧ ((s.hold p k l w).1).gen = s.gen ∧
    ((s.hold p k l w).1).wear = s.wear ∧ ((s.hold p k l w).1).store = s.store ∧
    ((s.hold p k l w).1).rcd = s.rcd ∧ ((s.hold p k l w).1).pending = s.pending := by
  simp [State.hold]

@[simp] theorem refuseWrite_untouched (p : Port) (r : Reply) :
    ((s.refuseWrite p r).1).powered = s.powered ∧ ((s.refuseWrite p r).1).resetAsserted = s.resetAsserted ∧
    ((s.refuseWrite p r).1).now = s.now ∧ ((s.refuseWrite p r).1).freeCount = s.freeCount ∧
    ((s.refuseWrite p r).1).rc = s.rc ∧ ((s.refuseWrite p r).1).env = s.env ∧
    ((s.refuseWrite p r).1).cut = s.cut ∧ ((s.refuseWrite p r).1).split = s.split ∧
    ((s.refuseWrite p r).1).gen = s.gen ∧ ((s.refuseWrite p r).1).wear = s.wear ∧
    ((s.refuseWrite p r).1).store = s.store ∧ ((s.refuseWrite p r).1).rcd = s.rcd ∧
    ((s.refuseWrite p r).1).pending = s.pending := by
  simp [State.refuseWrite]

@[simp] theorem completeReport_untouched (p : Port) (r : Role) (l : List Word) :
    ((s.completeReport p r l).1).powered = s.powered ∧
    ((s.completeReport p r l).1).resetAsserted = s.resetAsserted ∧ ((s.completeReport p r l).1).now = s.now ∧
    ((s.completeReport p r l).1).freeCount = s.freeCount ∧ ((s.completeReport p r l).1).rc = s.rc ∧
    ((s.completeReport p r l).1).split = s.split ∧ ((s.completeReport p r l).1).pending = s.pending := by
  unfold State.completeReport
  dsimp only
  split <;> simp

@[simp] theorem writeReportWord_untouched (p : Port) (r : Role) (k : Nat) (w : Word) :
    ((s.writeReportWord p r k w).1).powered = s.powered ∧
    ((s.writeReportWord p r k w).1).resetAsserted = s.resetAsserted ∧
    ((s.writeReportWord p r k w).1).now = s.now ∧ ((s.writeReportWord p r k w).1).freeCount = s.freeCount ∧
    ((s.writeReportWord p r k w).1).rc = s.rc ∧ ((s.writeReportWord p r k w).1).split = s.split ∧
    ((s.writeReportWord p r k w).1).pending = s.pending := by
  unfold State.writeReportWord
  dsimp only
  split_ifs <;> first | simp | (split <;> simp)

@[simp] theorem takeClaim_untouched (p : Port) :
    (s.takeClaim p).powered = s.powered ∧ (s.takeClaim p).resetAsserted = s.resetAsserted ∧
    (s.takeClaim p).now = s.now ∧ (s.takeClaim p).freeCount = s.freeCount ∧ (s.takeClaim p).env = s.env ∧
    (s.takeClaim p).cut = s.cut ∧ (s.takeClaim p).split = s.split ∧ (s.takeClaim p).gen = s.gen ∧
    (s.takeClaim p).wear = s.wear ∧ (s.takeClaim p).store = s.store ∧ (s.takeClaim p).rcd = s.rcd ∧
    (s.takeClaim p).ports = s.ports ∧ (s.takeClaim p).pending = s.pending := by
  simp [State.takeClaim]

@[simp] theorem storeSettingWord_untouched (p : Port) (x : SettingWord) (w : Word) :
    ((s.storeSettingWord p x w).1).powered = s.powered ∧
    ((s.storeSettingWord p x w).1).resetAsserted = s.resetAsserted ∧
    ((s.storeSettingWord p x w).1).now = s.now ∧ ((s.storeSettingWord p x w).1).freeCount = s.freeCount ∧
    ((s.storeSettingWord p x w).1).env = s.env ∧ ((s.storeSettingWord p x w).1).cut = s.cut ∧
    ((s.storeSettingWord p x w).1).split = s.split ∧ ((s.storeSettingWord p x w).1).gen = s.gen ∧
    ((s.storeSettingWord p x w).1).wear = s.wear ∧ ((s.storeSettingWord p x w).1).store = s.store ∧
    ((s.storeSettingWord p x w).1).rcd = s.rcd ∧ ((s.storeSettingWord p x w).1).pending = s.pending := by
  unfold State.storeSettingWord
  split <;> [simp; simp; (split <;> simp)]

@[simp] theorem writeStaged_untouched (p : Port) (k : Nat) (w : Word) :
    ((s.writeStaged p k w).1).powered = s.powered ∧
    ((s.writeStaged p k w).1).resetAsserted = s.resetAsserted ∧ ((s.writeStaged p k w).1).now = s.now ∧
    ((s.writeStaged p k w).1).freeCount = s.freeCount ∧ ((s.writeStaged p k w).1).env = s.env ∧
    ((s.writeStaged p k w).1).cut = s.cut ∧ ((s.writeStaged p k w).1).split = s.split ∧
    ((s.writeStaged p k w).1).gen = s.gen ∧ ((s.writeStaged p k w).1).wear = s.wear ∧
    ((s.writeStaged p k w).1).store = s.store ∧ ((s.writeStaged p k w).1).rcd = s.rcd ∧
    ((s.writeStaged p k w).1).pending = s.pending := by
  unfold State.writeStaged
  split <;> [simp; (split_ifs <;> simp)]

@[simp] theorem writeDumpRange_untouched (p : Port) (k : Nat) (w : Word) :
    ((s.writeDumpRange p k w).1).powered = s.powered ∧
    ((s.writeDumpRange p k w).1).resetAsserted = s.resetAsserted ∧ ((s.writeDumpRange p k w).1).now = s.now ∧
    ((s.writeDumpRange p k w).1).freeCount = s.freeCount ∧ ((s.writeDumpRange p k w).1).rc = s.rc ∧
    ((s.writeDumpRange p k w).1).env = s.env ∧ ((s.writeDumpRange p k w).1).cut = s.cut ∧
    ((s.writeDumpRange p k w).1).split = s.split ∧ ((s.writeDumpRange p k w).1).gen = s.gen ∧
    ((s.writeDumpRange p k w).1).wear = s.wear ∧ ((s.writeDumpRange p k w).1).store = s.store ∧
    ((s.writeDumpRange p k w).1).rcd = s.rcd ∧ ((s.writeDumpRange p k w).1).pending = s.pending := by
  unfold State.writeDumpRange
  dsimp only
  split <;> [simp; (split_ifs <;> simp)]

@[simp] theorem writeAt_untouched (p : Port) (a : Nat) (w : Word) :
    ((s.writeAt p a w).1).powered = s.powered ∧ ((s.writeAt p a w).1).resetAsserted = s.resetAsserted ∧
    ((s.writeAt p a w).1).now = s.now ∧ ((s.writeAt p a w).1).freeCount = s.freeCount ∧
    ((s.writeAt p a w).1).split = s.split ∧ ((s.writeAt p a w).1).pending = s.pending := by
  unfold State.writeAt
  split <;> [simp; (split_ifs <;> simp)]

@[simp] theorem writeFrame_untouched (p : Port) (b : Bool) (w : Word) :
    ((s.writeFrame p b w).1).powered = s.powered ∧ ((s.writeFrame p b w).1).resetAsserted = s.resetAsserted ∧
    ((s.writeFrame p b w).1).now = s.now ∧ ((s.writeFrame p b w).1).freeCount = s.freeCount ∧
    ((s.writeFrame p b w).1).split = s.split ∧ ((s.writeFrame p b w).1).pending = s.pending := by
  unfold State.writeFrame
  dsimp only
  split_ifs <;> simp

@[simp] theorem moveCursor_untouched (p : Port) (a : Address) (w : Word) :
    ((s.moveCursor p a w).1).powered = s.powered ∧ ((s.moveCursor p a w).1).resetAsserted = s.resetAsserted ∧
    ((s.moveCursor p a w).1).now = s.now ∧ ((s.moveCursor p a w).1).freeCount = s.freeCount ∧
    ((s.moveCursor p a w).1).rc = s.rc ∧ ((s.moveCursor p a w).1).env = s.env ∧
    ((s.moveCursor p a w).1).cut = s.cut ∧ ((s.moveCursor p a w).1).split = s.split ∧
    ((s.moveCursor p a w).1).gen = s.gen ∧ ((s.moveCursor p a w).1).wear = s.wear ∧
    ((s.moveCursor p a w).1).store = s.store ∧ ((s.moveCursor p a w).1).rcd = s.rcd ∧
    ((s.moveCursor p a w).1).pending = s.pending := by
  unfold State.moveCursor
  dsimp only
  split <;> [simp; (split_ifs <;> simp)]

end Sys2Proof.Machine
end

