-- ==== Sys2Proof/Laws/PortsUntouched.lean ====
section
/-! SUPPORT. What each shared operation leaves alone at a port: one lemma for each operation that reaches the ports. -/

namespace Sys2Proof.Machine

variable (s : State)

@[simp] theorem dropSettingWord_untouched (x : PortState) :
    x.dropSettingWord.cursors = x.cursors ∧ x.dropSettingWord.holding = x.holding ∧
    x.dropSettingWord.response = x.response ∧ x.dropSettingWord.dataOut = x.dataOut ∧
    x.dropSettingWord.notices = x.notices ∧ x.dropSettingWord.missed = x.missed ∧
    x.dropSettingWord.latch = x.latch ∧ x.dropSettingWord.counters = x.counters ∧
    x.dropSettingWord.codes = x.codes ∧ x.dropSettingWord.dump = x.dump ∧
    x.dropSettingWord.dumpRange = x.dumpRange := by
  unfold PortState.dropSettingWord
  split <;> simp

@[simp] theorem noticeAll_port_untouched (k : NoticeKind) (q : Port) :
    ((s.noticeAll k).ports.get q).cursors = (s.ports.get q).cursors ∧
    ((s.noticeAll k).ports.get q).assembly = (s.ports.get q).assembly ∧
    ((s.noticeAll k).ports.get q).holding = (s.ports.get q).holding ∧
    ((s.noticeAll k).ports.get q).response = (s.ports.get q).response ∧
    ((s.noticeAll k).ports.get q).dataOut = (s.ports.get q).dataOut ∧
    ((s.noticeAll k).ports.get q).missed = (s.ports.get q).missed ∧
    ((s.noticeAll k).ports.get q).latch = (s.ports.get q).latch ∧
    ((s.noticeAll k).ports.get q).counters = (s.ports.get q).counters ∧
    ((s.noticeAll k).ports.get q).codes = (s.ports.get q).codes ∧
    ((s.noticeAll k).ports.get q).dump = (s.ports.get q).dump ∧
    ((s.noticeAll k).ports.get q).dumpRange = (s.ports.get q).dumpRange := by
  simp [State.noticeAll, PortState.addNotice]

@[simp] theorem noticeTo_port_untouched (k : NoticeKind) (x : PerPort Bool) (q : Port) :
    ((s.noticeTo k x).ports.get q).cursors = (s.ports.get q).cursors ∧
    ((s.noticeTo k x).ports.get q).assembly = (s.ports.get q).assembly ∧
    ((s.noticeTo k x).ports.get q).holding = (s.ports.get q).holding ∧
    ((s.noticeTo k x).ports.get q).response = (s.ports.get q).response ∧
    ((s.noticeTo k x).ports.get q).dataOut = (s.ports.get q).dataOut ∧
    ((s.noticeTo k x).ports.get q).missed = (s.ports.get q).missed ∧
    ((s.noticeTo k x).ports.get q).latch = (s.ports.get q).latch ∧
    ((s.noticeTo k x).ports.get q).counters = (s.ports.get q).counters ∧
    ((s.noticeTo k x).ports.get q).codes = (s.ports.get q).codes ∧
    ((s.noticeTo k x).ports.get q).dump = (s.ports.get q).dump ∧
    ((s.noticeTo k x).ports.get q).dumpRange = (s.ports.get q).dumpRange := by
  simp only [State.noticeTo, setPorts_ports, get_mapWith]
  split_ifs <;> simp [PortState.addNotice]

@[simp] theorem worsenCodes_port_untouched (q : Port) :
    ((s.worsenCodes).ports.get q).cursors = (s.ports.get q).cursors ∧
    ((s.worsenCodes).ports.get q).assembly = (s.ports.get q).assembly ∧
    ((s.worsenCodes).ports.get q).holding = (s.ports.get q).holding ∧
    ((s.worsenCodes).ports.get q).response = (s.ports.get q).response ∧
    ((s.worsenCodes).ports.get q).dataOut = (s.ports.get q).dataOut ∧
    ((s.worsenCodes).ports.get q).notices = (s.ports.get q).notices ∧
    ((s.worsenCodes).ports.get q).missed = (s.ports.get q).missed ∧
    ((s.worsenCodes).ports.get q).latch = (s.ports.get q).latch ∧
    ((s.worsenCodes).ports.get q).counters = (s.ports.get q).counters ∧
    ((s.worsenCodes).ports.get q).dump = (s.ports.get q).dump ∧
    ((s.worsenCodes).ports.get q).dumpRange = (s.ports.get q).dumpRange := by
  simp [State.worsenCodes]

@[simp] theorem respond_port_untouched (p : Port) (c : BitVec 4) (r : Reply) (q : Port) :
    ((s.respond p c r).ports.get q).cursors = (s.ports.get q).cursors ∧
    ((s.respond p c r).ports.get q).assembly = (s.ports.get q).assembly ∧
    ((s.respond p c r).ports.get q).holding = (s.ports.get q).holding ∧
    ((s.respond p c r).ports.get q).dataOut = (s.ports.get q).dataOut ∧
    ((s.respond p c r).ports.get q).notices = (s.ports.get q).notices ∧
    ((s.respond p c r).ports.get q).missed = (s.ports.get q).missed ∧
    ((s.respond p c r).ports.get q).latch = (s.ports.get q).latch ∧
    ((s.respond p c r).ports.get q).counters = (s.ports.get q).counters ∧
    ((s.respond p c r).ports.get q).codes = (s.ports.get q).codes ∧
    ((s.respond p c r).ports.get q).dump = (s.ports.get q).dump ∧
    ((s.respond p c r).ports.get q).dumpRange = (s.ports.get q).dumpRange := by
  simp only [State.respond, modPort_get]
  split_ifs <;> simp

@[simp] theorem discardAssembly_port_untouched (p : Port) (q : Port) :
    ((s.discardAssembly p).ports.get q).cursors = (s.ports.get q).cursors ∧
    ((s.discardAssembly p).ports.get q).holding = (s.ports.get q).holding ∧
    ((s.discardAssembly p).ports.get q).response = (s.ports.get q).response ∧
    ((s.discardAssembly p).ports.get q).dataOut = (s.ports.get q).dataOut ∧
    ((s.discardAssembly p).ports.get q).notices = (s.ports.get q).notices ∧
    ((s.discardAssembly p).ports.get q).missed = (s.ports.get q).missed ∧
    ((s.discardAssembly p).ports.get q).latch = (s.ports.get q).latch ∧
    ((s.discardAssembly p).ports.get q).counters = (s.ports.get q).counters ∧
    ((s.discardAssembly p).ports.get q).codes = (s.ports.get q).codes ∧
    ((s.discardAssembly p).ports.get q).dump = (s.ports.get q).dump ∧
    ((s.discardAssembly p).ports.get q).dumpRange = (s.ports.get q).dumpRange := by
  simp only [State.discardAssembly, modPort_get]
  split_ifs <;> simp

@[simp] theorem completed_port_untouched (q : Port) :
    ((s.completed).ports.get q).cursors = (s.ports.get q).cursors ∧
    ((s.completed).ports.get q).assembly = (s.ports.get q).assembly ∧
    ((s.completed).ports.get q).holding = (s.ports.get q).holding ∧
    ((s.completed).ports.get q).response = (s.ports.get q).response ∧
    ((s.completed).ports.get q).dataOut = (s.ports.get q).dataOut ∧
    ((s.completed).ports.get q).missed = (s.ports.get q).missed ∧
    ((s.completed).ports.get q).latch = (s.ports.get q).latch ∧
    ((s.completed).ports.get q).counters = (s.ports.get q).counters ∧
    ((s.completed).ports.get q).codes = (s.ports.get q).codes ∧
    ((s.completed).ports.get q).dump = (s.ports.get q).dump ∧
    ((s.completed).ports.get q).dumpRange = (s.ports.get q).dumpRange := by
  simp [State.completed]

@[simp] theorem openSnapshot_port_untouched (c : TriggerCause) (id : BitVec 2) (q : Port) :
    ((s.openSnapshot c id).ports.get q).cursors = (s.ports.get q).cursors ∧
    ((s.openSnapshot c id).ports.get q).assembly = (s.ports.get q).assembly ∧
    ((s.openSnapshot c id).ports.get q).holding = (s.ports.get q).holding ∧
    ((s.openSnapshot c id).ports.get q).response = (s.ports.get q).response ∧
    ((s.openSnapshot c id).ports.get q).dataOut = (s.ports.get q).dataOut ∧
    ((s.openSnapshot c id).ports.get q).missed = (s.ports.get q).missed ∧
    ((s.openSnapshot c id).ports.get q).latch = (s.ports.get q).latch ∧
    ((s.openSnapshot c id).ports.get q).counters = (s.ports.get q).counters ∧
    ((s.openSnapshot c id).ports.get q).codes = (s.ports.get q).codes ∧
    ((s.openSnapshot c id).ports.get q).dump = (s.ports.get q).dump ∧
    ((s.openSnapshot c id).ports.get q).dumpRange = (s.ports.get q).dumpRange := by
  unfold State.openSnapshot
  dsimp only
  split_ifs <;> simp

@[simp] theorem fireTrigger_port_untouched (c : TriggerCause) (q : Port) :
    (((s.fireTrigger c).1).ports.get q).cursors = (s.ports.get q).cursors ∧
    (((s.fireTrigger c).1).ports.get q).assembly = (s.ports.get q).assembly ∧
    (((s.fireTrigger c).1).ports.get q).holding = (s.ports.get q).holding ∧
    (((s.fireTrigger c).1).ports.get q).response = (s.ports.get q).response ∧
    (((s.fireTrigger c).1).ports.get q).dataOut = (s.ports.get q).dataOut ∧
    (((s.fireTrigger c).1).ports.get q).latch = (s.ports.get q).latch ∧
    (((s.fireTrigger c).1).ports.get q).counters = (s.ports.get q).counters ∧
    (((s.fireTrigger c).1).ports.get q).codes = (s.ports.get q).codes ∧
    (((s.fireTrigger c).1).ports.get q).dump = (s.ports.get q).dump ∧
    (((s.fireTrigger c).1).ports.get q).dumpRange = (s.ports.get q).dumpRange := by
  unfold State.fireTrigger
  dsimp only
  split <;> [simp; (split_ifs <;> [simp; (split <;> simp)])]

@[simp] theorem trigger_port_untouched (c : TriggerCause) (q : Port) :
    ((s.trigger c).ports.get q).cursors = (s.ports.get q).cursors ∧
    ((s.trigger c).ports.get q).assembly = (s.ports.get q).assembly ∧
    ((s.trigger c).ports.get q).holding = (s.ports.get q).holding ∧
    ((s.trigger c).ports.get q).response = (s.ports.get q).response ∧
    ((s.trigger c).ports.get q).dataOut = (s.ports.get q).dataOut ∧
    ((s.trigger c).ports.get q).latch = (s.ports.get q).latch ∧
    ((s.trigger c).ports.get q).counters = (s.ports.get q).counters ∧
    ((s.trigger c).ports.get q).codes = (s.ports.get q).codes ∧
    ((s.trigger c).ports.get q).dump = (s.ports.get q).dump ∧
    ((s.trigger c).ports.get q).dumpRange = (s.ports.get q).dumpRange := by
  simp [State.trigger]

@[simp] theorem dropSample_port_untouched (k : Nat) (q : Port) :
    ((s.dropSample k).ports.get q).cursors = (s.ports.get q).cursors ∧
    ((s.dropSample k).ports.get q).assembly = (s.ports.get q).assembly ∧
    ((s.dropSample k).ports.get q).holding = (s.ports.get q).holding ∧
    ((s.dropSample k).ports.get q).response = (s.ports.get q).response ∧
    ((s.dropSample k).ports.get q).dataOut = (s.ports.get q).dataOut ∧
    ((s.dropSample k).ports.get q).missed = (s.ports.get q).missed ∧
    ((s.dropSample k).ports.get q).latch = (s.ports.get q).latch ∧
    ((s.dropSample k).ports.get q).counters = (s.ports.get q).counters ∧
    ((s.dropSample k).ports.get q).codes = (s.ports.get q).codes ∧
    ((s.dropSample k).ports.get q).dumpRange = (s.ports.get q).dumpRange := by
  unfold State.dropSample
  dsimp only
  split_ifs <;> simp

@[simp] theorem completeSnapshots_port_untouched (k : Nat) (q : Port) :
    ((s.completeSnapshots k).ports.get q).cursors = (s.ports.get q).cursors ∧
    ((s.completeSnapshots k).ports.get q).assembly = (s.ports.get q).assembly ∧
    ((s.completeSnapshots k).ports.get q).holding = (s.ports.get q).holding ∧
    ((s.completeSnapshots k).ports.get q).response = (s.ports.get q).response ∧
    ((s.completeSnapshots k).ports.get q).dataOut = (s.ports.get q).dataOut ∧
    ((s.completeSnapshots k).ports.get q).missed = (s.ports.get q).missed ∧
    ((s.completeSnapshots k).ports.get q).latch = (s.ports.get q).latch ∧
    ((s.completeSnapshots k).ports.get q).counters = (s.ports.get q).counters ∧
    ((s.completeSnapshots k).ports.get q).codes = (s.ports.get q).codes ∧
    ((s.completeSnapshots k).ports.get q).dump = (s.ports.get q).dump ∧
    ((s.completeSnapshots k).ports.get q).dumpRange = (s.ports.get q).dumpRange := by
  unfold State.completeSnapshots
  dsimp only
  split_ifs <;> simp

@[simp] theorem recordEvent_port_untouched (q : Port) :
    ((s.recordEvent).ports.get q).cursors = (s.ports.get q).cursors ∧
    ((s.recordEvent).ports.get q).assembly = (s.ports.get q).assembly ∧
    ((s.recordEvent).ports.get q).holding = (s.ports.get q).holding ∧
    ((s.recordEvent).ports.get q).response = (s.ports.get q).response ∧
    ((s.recordEvent).ports.get q).dataOut = (s.ports.get q).dataOut ∧
    ((s.recordEvent).ports.get q).missed = (s.ports.get q).missed ∧
    ((s.recordEvent).ports.get q).latch = (s.ports.get q).latch ∧
    ((s.recordEvent).ports.get q).counters = (s.ports.get q).counters ∧
    ((s.recordEvent).ports.get q).codes = (s.ports.get q).codes ∧
    ((s.recordEvent).ports.get q).dumpRange = (s.ports.get q).dumpRange := by
  unfold State.recordEvent
  dsimp only
  split_ifs <;> simp [PortState.fetch]

@[simp] theorem sampleEvent_port_untouched (q : Port) :
    ((s.sampleEvent).ports.get q).cursors = (s.ports.get q).cursors ∧
    ((s.sampleEvent).ports.get q).assembly = (s.ports.get q).assembly ∧
    ((s.sampleEvent).ports.get q).holding = (s.ports.get q).holding ∧
    ((s.sampleEvent).ports.get q).response = (s.ports.get q).response ∧
    ((s.sampleEvent).ports.get q).dataOut = (s.ports.get q).dataOut ∧
    ((s.sampleEvent).ports.get q).missed = (s.ports.get q).missed ∧
    ((s.sampleEvent).ports.get q).latch = (s.ports.get q).latch ∧
    ((s.sampleEvent).ports.get q).counters = (s.ports.get q).counters ∧
    ((s.sampleEvent).ports.get q).codes = (s.ports.get q).codes ∧
    ((s.sampleEvent).ports.get q).dumpRange = (s.ports.get q).dumpRange := by
  unfold State.sampleEvent
  split_ifs <;> simp

@[simp] theorem markRaised_port_untouched (c : Cause) (q : Port) :
    ((s.markRaised c).ports.get q).cursors = (s.ports.get q).cursors ∧
    ((s.markRaised c).ports.get q).assembly = (s.ports.get q).assembly ∧
    ((s.markRaised c).ports.get q).holding = (s.ports.get q).holding ∧
    ((s.markRaised c).ports.get q).response = (s.ports.get q).response ∧
    ((s.markRaised c).ports.get q).dataOut = (s.ports.get q).dataOut ∧
    ((s.markRaised c).ports.get q).missed = (s.ports.get q).missed ∧
    ((s.markRaised c).ports.get q).counters = (s.ports.get q).counters ∧
    ((s.markRaised c).ports.get q).codes = (s.ports.get q).codes ∧
    ((s.markRaised c).ports.get q).dump = (s.ports.get q).dump ∧
    ((s.markRaised c).ports.get q).dumpRange = (s.ports.get q).dumpRange := by
  simp [State.markRaised]

@[simp] theorem raiseTrigger_port_untouched (c : Cause) (q : Port) :
    ((s.raiseTrigger c).ports.get q).cursors = (s.ports.get q).cursors ∧
    ((s.raiseTrigger c).ports.get q).assembly = (s.ports.get q).assembly ∧
    ((s.raiseTrigger c).ports.get q).holding = (s.ports.get q).holding ∧
    ((s.raiseTrigger c).ports.get q).response = (s.ports.get q).response ∧
    ((s.raiseTrigger c).ports.get q).dataOut = (s.ports.get q).dataOut ∧
    ((s.raiseTrigger c).ports.get q).latch = (s.ports.get q).latch ∧
    ((s.raiseTrigger c).ports.get q).counters = (s.ports.get q).counters ∧
    ((s.raiseTrigger c).ports.get q).codes = (s.ports.get q).codes ∧
    ((s.raiseTrigger c).ports.get q).dump = (s.ports.get q).dump ∧
    ((s.raiseTrigger c).ports.get q).dumpRange = (s.ports.get q).dumpRange := by
  unfold State.raiseTrigger
  split <;> simp

@[simp] theorem raise_port_untouched (c : Cause) (q : Port) :
    ((s.raise c).ports.get q).cursors = (s.ports.get q).cursors ∧
    ((s.raise c).ports.get q).assembly = (s.ports.get q).assembly ∧
    ((s.raise c).ports.get q).holding = (s.ports.get q).holding ∧
    ((s.raise c).ports.get q).response = (s.ports.get q).response ∧
    ((s.raise c).ports.get q).dataOut = (s.ports.get q).dataOut ∧
    ((s.raise c).ports.get q).counters = (s.ports.get q).counters ∧
    ((s.raise c).ports.get q).codes = (s.ports.get q).codes ∧
    ((s.raise c).ports.get q).dump = (s.ports.get q).dump ∧
    ((s.raise c).ports.get q).dumpRange = (s.ports.get q).dumpRange := by
  unfold State.raise
  split_ifs <;> simp

@[simp] theorem clear_port_untouched (c : Cause) (q : Port) :
    ((s.clear c).ports.get q).cursors = (s.ports.get q).cursors ∧
    ((s.clear c).ports.get q).assembly = (s.ports.get q).assembly ∧
    ((s.clear c).ports.get q).holding = (s.ports.get q).holding ∧
    ((s.clear c).ports.get q).response = (s.ports.get q).response ∧
    ((s.clear c).ports.get q).dataOut = (s.ports.get q).dataOut ∧
    ((s.clear c).ports.get q).missed = (s.ports.get q).missed ∧
    ((s.clear c).ports.get q).latch = (s.ports.get q).latch ∧
    ((s.clear c).ports.get q).counters = (s.ports.get q).counters ∧
    ((s.clear c).ports.get q).codes = (s.ports.get q).codes ∧
    ((s.clear c).ports.get q).dump = (s.ports.get q).dump ∧
    ((s.clear c).ports.get q).dumpRange = (s.ports.get q).dumpRange := by
  unfold State.clear
  split_ifs <;> simp

@[simp] theorem setCause_port_untouched (c : Cause) (b : Bool) (q : Port) :
    ((s.setCause c b).ports.get q).cursors = (s.ports.get q).cursors ∧
    ((s.setCause c b).ports.get q).assembly = (s.ports.get q).assembly ∧
    ((s.setCause c b).ports.get q).holding = (s.ports.get q).holding ∧
    ((s.setCause c b).ports.get q).response = (s.ports.get q).response ∧
    ((s.setCause c b).ports.get q).dataOut = (s.ports.get q).dataOut ∧
    ((s.setCause c b).ports.get q).counters = (s.ports.get q).counters ∧
    ((s.setCause c b).ports.get q).codes = (s.ports.get q).codes ∧
    ((s.setCause c b).ports.get q).dump = (s.ports.get q).dump ∧
    ((s.setCause c b).ports.get q).dumpRange = (s.ports.get q).dumpRange := by
  unfold State.setCause
  split_ifs <;> simp

@[simp] theorem readDoor_port_untouched (q : Port) :
    ((s.readDoor).ports.get q).cursors = (s.ports.get q).cursors ∧
    ((s.readDoor).ports.get q).assembly = (s.ports.get q).assembly ∧
    ((s.readDoor).ports.get q).holding = (s.ports.get q).holding ∧
    ((s.readDoor).ports.get q).response = (s.ports.get q).response ∧
    ((s.readDoor).ports.get q).dataOut = (s.ports.get q).dataOut ∧
    ((s.readDoor).ports.get q).counters = (s.ports.get q).counters ∧
    ((s.readDoor).ports.get q).codes = (s.ports.get q).codes ∧
    ((s.readDoor).ports.get q).dump = (s.ports.get q).dump ∧
    ((s.readDoor).ports.get q).dumpRange = (s.ports.get q).dumpRange := by
  unfold State.readDoor State.setCause
  split_ifs <;> simp

@[simp] theorem readSlip_port_untouched (q : Port) :
    ((s.readSlip).ports.get q).cursors = (s.ports.get q).cursors ∧
    ((s.readSlip).ports.get q).assembly = (s.ports.get q).assembly ∧
    ((s.readSlip).ports.get q).holding = (s.ports.get q).holding ∧
    ((s.readSlip).ports.get q).response = (s.ports.get q).response ∧
    ((s.readSlip).ports.get q).dataOut = (s.ports.get q).dataOut ∧
    ((s.readSlip).ports.get q).counters = (s.ports.get q).counters ∧
    ((s.readSlip).ports.get q).codes = (s.ports.get q).codes ∧
    ((s.readSlip).ports.get q).dump = (s.ports.get q).dump ∧
    ((s.readSlip).ports.get q).dumpRange = (s.ports.get q).dumpRange := by
  unfold State.readSlip
  split_ifs <;> simp

@[simp] theorem slipGivenUp_port_untouched (q : Port) :
    ((s.slipGivenUp).ports.get q).cursors = (s.ports.get q).cursors ∧
    ((s.slipGivenUp).ports.get q).assembly = (s.ports.get q).assembly ∧
    ((s.slipGivenUp).ports.get q).holding = (s.ports.get q).holding ∧
    ((s.slipGivenUp).ports.get q).response = (s.ports.get q).response ∧
    ((s.slipGivenUp).ports.get q).dataOut = (s.ports.get q).dataOut ∧
    ((s.slipGivenUp).ports.get q).missed = (s.ports.get q).missed ∧
    ((s.slipGivenUp).ports.get q).latch = (s.ports.get q).latch ∧
    ((s.slipGivenUp).ports.get q).counters = (s.ports.get q).counters ∧
    ((s.slipGivenUp).ports.get q).codes = (s.ports.get q).codes ∧
    ((s.slipGivenUp).ports.get q).dump = (s.ports.get q).dump ∧
    ((s.slipGivenUp).ports.get q).dumpRange = (s.ports.get q).dumpRange := by
  simp [State.slipGivenUp]

@[simp] theorem storeFault_port_untouched (q : Port) :
    ((s.storeFault).ports.get q).cursors = (s.ports.get q).cursors ∧
    ((s.storeFault).ports.get q).assembly = (s.ports.get q).assembly ∧
    ((s.storeFault).ports.get q).holding = (s.ports.get q).holding ∧
    ((s.storeFault).ports.get q).response = (s.ports.get q).response ∧
    ((s.storeFault).ports.get q).dataOut = (s.ports.get q).dataOut ∧
    ((s.storeFault).ports.get q).counters = (s.ports.get q).counters ∧
    ((s.storeFault).ports.get q).codes = (s.ports.get q).codes ∧
    ((s.storeFault).ports.get q).dump = (s.ports.get q).dump ∧
    ((s.storeFault).ports.get q).dumpRange = (s.ports.get q).dumpRange := by
  simp [State.storeFault]

@[simp] theorem writeAttempt_port_untouched (q : Port) :
    ((s.writeAttempt).ports.get q).cursors = (s.ports.get q).cursors ∧
    ((s.writeAttempt).ports.get q).assembly = (s.ports.get q).assembly ∧
    ((s.writeAttempt).ports.get q).holding = (s.ports.get q).holding ∧
    ((s.writeAttempt).ports.get q).response = (s.ports.get q).response ∧
    ((s.writeAttempt).ports.get q).dataOut = (s.ports.get q).dataOut ∧
    ((s.writeAttempt).ports.get q).counters = (s.ports.get q).counters ∧
    ((s.writeAttempt).ports.get q).codes = (s.ports.get q).codes ∧
    ((s.writeAttempt).ports.get q).dump = (s.ports.get q).dump ∧
    ((s.writeAttempt).ports.get q).dumpRange = (s.ports.get q).dumpRange := by
  unfold State.writeAttempt
  split <;> simp

@[simp] theorem writeOrErase_port_untouched (q : Port) :
    ((s.writeOrErase).ports.get q).cursors = (s.ports.get q).cursors ∧
    ((s.writeOrErase).ports.get q).assembly = (s.ports.get q).assembly ∧
    ((s.writeOrErase).ports.get q).holding = (s.ports.get q).holding ∧
    ((s.writeOrErase).ports.get q).response = (s.ports.get q).response ∧
    ((s.writeOrErase).ports.get q).dataOut = (s.ports.get q).dataOut ∧
    ((s.writeOrErase).ports.get q).counters = (s.ports.get q).counters ∧
    ((s.writeOrErase).ports.get q).codes = (s.ports.get q).codes ∧
    ((s.writeOrErase).ports.get q).dump = (s.ports.get q).dump ∧
    ((s.writeOrErase).ports.get q).dumpRange = (s.ports.get q).dumpRange := by
  unfold State.writeOrErase
  split_ifs <;> simp

@[simp] theorem startCheckpoint_port_untouched (q : Port) :
    ((s.startCheckpoint).ports.get q).cursors = (s.ports.get q).cursors ∧
    ((s.startCheckpoint).ports.get q).assembly = (s.ports.get q).assembly ∧
    ((s.startCheckpoint).ports.get q).holding = (s.ports.get q).holding ∧
    ((s.startCheckpoint).ports.get q).response = (s.ports.get q).response ∧
    ((s.startCheckpoint).ports.get q).dataOut = (s.ports.get q).dataOut ∧
    ((s.startCheckpoint).ports.get q).counters = (s.ports.get q).counters ∧
    ((s.startCheckpoint).ports.get q).codes = (s.ports.get q).codes ∧
    ((s.startCheckpoint).ports.get q).dump = (s.ports.get q).dump ∧
    ((s.startCheckpoint).ports.get q).dumpRange = (s.ports.get q).dumpRange := by
  simp [State.startCheckpoint]

@[simp] theorem requestCheckpoint_port_untouched (q : Port) :
    ((s.requestCheckpoint).ports.get q).cursors = (s.ports.get q).cursors ∧
    ((s.requestCheckpoint).ports.get q).assembly = (s.ports.get q).assembly ∧
    ((s.requestCheckpoint).ports.get q).holding = (s.ports.get q).holding ∧
    ((s.requestCheckpoint).ports.get q).response = (s.ports.get q).response ∧
    ((s.requestCheckpoint).ports.get q).dataOut = (s.ports.get q).dataOut ∧
    ((s.requestCheckpoint).ports.get q).counters = (s.ports.get q).counters ∧
    ((s.requestCheckpoint).ports.get q).codes = (s.ports.get q).codes ∧
    ((s.requestCheckpoint).ports.get q).dump = (s.ports.get q).dump ∧
    ((s.requestCheckpoint).ports.get q).dumpRange = (s.ports.get q).dumpRange := by
  unfold State.requestCheckpoint
  split_ifs <;> simp

@[simp] theorem endCheckpoint_port_untouched (q : Port) :
    ((s.endCheckpoint).ports.get q).cursors = (s.ports.get q).cursors ∧
    ((s.endCheckpoint).ports.get q).assembly = (s.ports.get q).assembly ∧
    ((s.endCheckpoint).ports.get q).holding = (s.ports.get q).holding ∧
    ((s.endCheckpoint).ports.get q).response = (s.ports.get q).response ∧
    ((s.endCheckpoint).ports.get q).dataOut = (s.ports.get q).dataOut ∧
    ((s.endCheckpoint).ports.get q).counters = (s.ports.get q).counters ∧
    ((s.endCheckpoint).ports.get q).codes = (s.ports.get q).codes ∧
    ((s.endCheckpoint).ports.get q).dump = (s.ports.get q).dump ∧
    ((s.endCheckpoint).ports.get q).dumpRange = (s.ports.get q).dumpRange := by
  unfold State.endCheckpoint
  dsimp only
  split_ifs <;> simp

@[simp] theorem verifyWrite_port_untouched (f : CellFaults) (q : Port) :
    ((s.verifyWrite f).ports.get q).cursors = (s.ports.get q).cursors ∧
    ((s.verifyWrite f).ports.get q).assembly = (s.ports.get q).assembly ∧
    ((s.verifyWrite f).ports.get q).holding = (s.ports.get q).holding ∧
    ((s.verifyWrite f).ports.get q).response = (s.ports.get q).response ∧
    ((s.verifyWrite f).ports.get q).dataOut = (s.ports.get q).dataOut ∧
    ((s.verifyWrite f).ports.get q).counters = (s.ports.get q).counters ∧
    ((s.verifyWrite f).ports.get q).codes = (s.ports.get q).codes ∧
    ((s.verifyWrite f).ports.get q).dump = (s.ports.get q).dump ∧
    ((s.verifyWrite f).ports.get q).dumpRange = (s.ports.get q).dumpRange := by
  unfold State.verifyWrite
  dsimp only
  split_ifs <;> simp

@[simp] theorem verifyErase_port_untouched (f : CellFaults) (q : Port) :
    ((s.verifyErase f).ports.get q).cursors = (s.ports.get q).cursors ∧
    ((s.verifyErase f).ports.get q).assembly = (s.ports.get q).assembly ∧
    ((s.verifyErase f).ports.get q).holding = (s.ports.get q).holding ∧
    ((s.verifyErase f).ports.get q).response = (s.ports.get q).response ∧
    ((s.verifyErase f).ports.get q).dataOut = (s.ports.get q).dataOut ∧
    ((s.verifyErase f).ports.get q).counters = (s.ports.get q).counters ∧
    ((s.verifyErase f).ports.get q).codes = (s.ports.get q).codes ∧
    ((s.verifyErase f).ports.get q).dump = (s.ports.get q).dump ∧
    ((s.verifyErase f).ports.get q).dumpRange = (s.ports.get q).dumpRange := by
  unfold State.verifyErase
  dsimp only
  split_ifs <;> simp

@[simp] theorem recomputeLevels_port_untouched (q : Port) :
    ((s.recomputeLevels).ports.get q).cursors = (s.ports.get q).cursors ∧
    ((s.recomputeLevels).ports.get q).assembly = (s.ports.get q).assembly ∧
    ((s.recomputeLevels).ports.get q).holding = (s.ports.get q).holding ∧
    ((s.recomputeLevels).ports.get q).response = (s.ports.get q).response ∧
    ((s.recomputeLevels).ports.get q).dataOut = (s.ports.get q).dataOut ∧
    ((s.recomputeLevels).ports.get q).counters = (s.ports.get q).counters ∧
    ((s.recomputeLevels).ports.get q).dump = (s.ports.get q).dump ∧
    ((s.recomputeLevels).ports.get q).dumpRange = (s.ports.get q).dumpRange := by
  unfold State.recomputeLevels
  dsimp only
  split_ifs <;> simp

@[simp] theorem heatLinings_port_untouched (dt : Nat) (q : Port) :
    ((s.heatLinings dt).ports.get q).cursors = (s.ports.get q).cursors ∧
    ((s.heatLinings dt).ports.get q).assembly = (s.ports.get q).assembly ∧
    ((s.heatLinings dt).ports.get q).holding = (s.ports.get q).holding ∧
    ((s.heatLinings dt).ports.get q).response = (s.ports.get q).response ∧
    ((s.heatLinings dt).ports.get q).dataOut = (s.ports.get q).dataOut ∧
    ((s.heatLinings dt).ports.get q).counters = (s.ports.get q).counters ∧
    ((s.heatLinings dt).ports.get q).codes = (s.ports.get q).codes ∧
    ((s.heatLinings dt).ports.get q).dump = (s.ports.get q).dump ∧
    ((s.heatLinings dt).ports.get q).dumpRange = (s.ports.get q).dumpRange := by
  unfold State.heatLinings State.setCause
  dsimp only
  split_ifs <;> simp

@[simp] theorem brakeWear_port_untouched (dt : Nat) (q : Port) :
    ((s.brakeWear dt).ports.get q).cursors = (s.ports.get q).cursors ∧
    ((s.brakeWear dt).ports.get q).assembly = (s.ports.get q).assembly ∧
    ((s.brakeWear dt).ports.get q).holding = (s.ports.get q).holding ∧
    ((s.brakeWear dt).ports.get q).response = (s.ports.get q).response ∧
    ((s.brakeWear dt).ports.get q).dataOut = (s.ports.get q).dataOut ∧
    ((s.brakeWear dt).ports.get q).counters = (s.ports.get q).counters ∧
    ((s.brakeWear dt).ports.get q).dump = (s.ports.get q).dump ∧
    ((s.brakeWear dt).ports.get q).dumpRange = (s.ports.get q).dumpRange := by
  simp [State.brakeWear]

@[simp] theorem batteryWear_port_untouched (dt : Nat) (q : Port) :
    ((s.batteryWear dt).ports.get q).cursors = (s.ports.get q).cursors ∧
    ((s.batteryWear dt).ports.get q).assembly = (s.ports.get q).assembly ∧
    ((s.batteryWear dt).ports.get q).holding = (s.ports.get q).holding ∧
    ((s.batteryWear dt).ports.get q).response = (s.ports.get q).response ∧
    ((s.batteryWear dt).ports.get q).dataOut = (s.ports.get q).dataOut ∧
    ((s.batteryWear dt).ports.get q).counters = (s.ports.get q).counters ∧
    ((s.batteryWear dt).ports.get q).dump = (s.ports.get q).dump ∧
    ((s.batteryWear dt).ports.get q).dumpRange = (s.ports.get q).dumpRange := by
  simp [State.batteryWear]

@[simp] theorem countStart_port_untouched (b : GensetState) (q : Port) :
    ((s.countStart b).ports.get q).cursors = (s.ports.get q).cursors ∧
    ((s.countStart b).ports.get q).assembly = (s.ports.get q).assembly ∧
    ((s.countStart b).ports.get q).holding = (s.ports.get q).holding ∧
    ((s.countStart b).ports.get q).response = (s.ports.get q).response ∧
    ((s.countStart b).ports.get q).dataOut = (s.ports.get q).dataOut ∧
    ((s.countStart b).ports.get q).counters = (s.ports.get q).counters ∧
    ((s.countStart b).ports.get q).dump = (s.ports.get q).dump ∧
    ((s.countStart b).ports.get q).dumpRange = (s.ports.get q).dumpRange := by
  simp [State.countStart]

@[simp] theorem resetItem_port_untouched (i : WearItem) (q : Port) :
    ((s.resetItem i).ports.get q).cursors = (s.ports.get q).cursors ∧
    ((s.resetItem i).ports.get q).assembly = (s.ports.get q).assembly ∧
    ((s.resetItem i).ports.get q).holding = (s.ports.get q).holding ∧
    ((s.resetItem i).ports.get q).response = (s.ports.get q).response ∧
    ((s.resetItem i).ports.get q).dataOut = (s.ports.get q).dataOut ∧
    ((s.resetItem i).ports.get q).counters = (s.ports.get q).counters ∧
    ((s.resetItem i).ports.get q).dump = (s.ports.get q).dump ∧
    ((s.resetItem i).ports.get q).dumpRange = (s.ports.get q).dumpRange := by
  simp [State.resetItem]

@[simp] theorem raiseZoneBreach_port_untouched (q : Port) :
    ((s.raiseZoneBreach).ports.get q).cursors = (s.ports.get q).cursors ∧
    ((s.raiseZoneBreach).ports.get q).assembly = (s.ports.get q).assembly ∧
    ((s.raiseZoneBreach).ports.get q).holding = (s.ports.get q).holding ∧
    ((s.raiseZoneBreach).ports.get q).response = (s.ports.get q).response ∧
    ((s.raiseZoneBreach).ports.get q).dataOut = (s.ports.get q).dataOut ∧
    ((s.raiseZoneBreach).ports.get q).counters = (s.ports.get q).counters ∧
    ((s.raiseZoneBreach).ports.get q).codes = (s.ports.get q).codes ∧
    ((s.raiseZoneBreach).ports.get q).dump = (s.ports.get q).dump ∧
    ((s.raiseZoneBreach).ports.get q).dumpRange = (s.ports.get q).dumpRange := by
  unfold State.raiseZoneBreach
  split_ifs <;> simp

@[simp] theorem enterOff_port_untouched (q : Port) :
    ((s.enterOff).ports.get q).cursors = (s.ports.get q).cursors ∧
    ((s.enterOff).ports.get q).assembly = (s.ports.get q).assembly ∧
    ((s.enterOff).ports.get q).holding = (s.ports.get q).holding ∧
    ((s.enterOff).ports.get q).response = (s.ports.get q).response ∧
    ((s.enterOff).ports.get q).dataOut = (s.ports.get q).dataOut ∧
    ((s.enterOff).ports.get q).missed = (s.ports.get q).missed ∧
    ((s.enterOff).ports.get q).latch = (s.ports.get q).latch ∧
    ((s.enterOff).ports.get q).counters = (s.ports.get q).counters ∧
    ((s.enterOff).ports.get q).codes = (s.ports.get q).codes ∧
    ((s.enterOff).ports.get q).dump = (s.ports.get q).dump ∧
    ((s.enterOff).ports.get q).dumpRange = (s.ports.get q).dumpRange := by
  simp [State.enterOff]

@[simp] theorem sendOff_port_untouched (q : Port) :
    ((s.sendOff).ports.get q).cursors = (s.ports.get q).cursors ∧
    ((s.sendOff).ports.get q).assembly = (s.ports.get q).assembly ∧
    ((s.sendOff).ports.get q).holding = (s.ports.get q).holding ∧
    ((s.sendOff).ports.get q).response = (s.ports.get q).response ∧
    ((s.sendOff).ports.get q).dataOut = (s.ports.get q).dataOut ∧
    ((s.sendOff).ports.get q).missed = (s.ports.get q).missed ∧
    ((s.sendOff).ports.get q).latch = (s.ports.get q).latch ∧
    ((s.sendOff).ports.get q).counters = (s.ports.get q).counters ∧
    ((s.sendOff).ports.get q).codes = (s.ports.get q).codes ∧
    ((s.sendOff).ports.get q).dump = (s.ports.get q).dump ∧
    ((s.sendOff).ports.get q).dumpRange = (s.ports.get q).dumpRange := by
  unfold State.sendOff
  split_ifs <;> simp

@[simp] theorem sendStop_port_untouched (q : Port) :
    ((s.sendStop).ports.get q).cursors = (s.ports.get q).cursors ∧
    ((s.sendStop).ports.get q).assembly = (s.ports.get q).assembly ∧
    ((s.sendStop).ports.get q).holding = (s.ports.get q).holding ∧
    ((s.sendStop).ports.get q).response = (s.ports.get q).response ∧
    ((s.sendStop).ports.get q).dataOut = (s.ports.get q).dataOut ∧
    ((s.sendStop).ports.get q).missed = (s.ports.get q).missed ∧
    ((s.sendStop).ports.get q).latch = (s.ports.get q).latch ∧
    ((s.sendStop).ports.get q).counters = (s.ports.get q).counters ∧
    ((s.sendStop).ports.get q).codes = (s.ports.get q).codes ∧
    ((s.sendStop).ports.get q).dump = (s.ports.get q).dump ∧
    ((s.sendStop).ports.get q).dumpRange = (s.ports.get q).dumpRange := by
  unfold State.sendStop
  split_ifs <;> simp

@[simp] theorem startReached_port_untouched (q : Port) :
    ((s.startReached).ports.get q).cursors = (s.ports.get q).cursors ∧
    ((s.startReached).ports.get q).assembly = (s.ports.get q).assembly ∧
    ((s.startReached).ports.get q).holding = (s.ports.get q).holding ∧
    ((s.startReached).ports.get q).response = (s.ports.get q).response ∧
    ((s.startReached).ports.get q).dataOut = (s.ports.get q).dataOut ∧
    ((s.startReached).ports.get q).missed = (s.ports.get q).missed ∧
    ((s.startReached).ports.get q).latch = (s.ports.get q).latch ∧
    ((s.startReached).ports.get q).counters = (s.ports.get q).counters ∧
    ((s.startReached).ports.get q).codes = (s.ports.get q).codes ∧
    ((s.startReached).ports.get q).dump = (s.ports.get q).dump ∧
    ((s.startReached).ports.get q).dumpRange = (s.ports.get q).dumpRange := by
  simp [State.startReached]

@[simp] theorem failedStart_port_untouched (q : Port) :
    ((s.failedStart).ports.get q).cursors = (s.ports.get q).cursors ∧
    ((s.failedStart).ports.get q).assembly = (s.ports.get q).assembly ∧
    ((s.failedStart).ports.get q).holding = (s.ports.get q).holding ∧
    ((s.failedStart).ports.get q).response = (s.ports.get q).response ∧
    ((s.failedStart).ports.get q).dataOut = (s.ports.get q).dataOut ∧
    ((s.failedStart).ports.get q).counters = (s.ports.get q).counters ∧
    ((s.failedStart).ports.get q).codes = (s.ports.get q).codes ∧
    ((s.failedStart).ports.get q).dump = (s.ports.get q).dump ∧
    ((s.failedStart).ports.get q).dumpRange = (s.ports.get q).dumpRange := by
  simp [State.failedStart]

@[simp] theorem stoppedUnasked_port_untouched (q : Port) :
    ((s.stoppedUnasked).ports.get q).cursors = (s.ports.get q).cursors ∧
    ((s.stoppedUnasked).ports.get q).assembly = (s.ports.get q).assembly ∧
    ((s.stoppedUnasked).ports.get q).holding = (s.ports.get q).holding ∧
    ((s.stoppedUnasked).ports.get q).response = (s.ports.get q).response ∧
    ((s.stoppedUnasked).ports.get q).dataOut = (s.ports.get q).dataOut ∧
    ((s.stoppedUnasked).ports.get q).missed = (s.ports.get q).missed ∧
    ((s.stoppedUnasked).ports.get q).latch = (s.ports.get q).latch ∧
    ((s.stoppedUnasked).ports.get q).counters = (s.ports.get q).counters ∧
    ((s.stoppedUnasked).ports.get q).codes = (s.ports.get q).codes ∧
    ((s.stoppedUnasked).ports.get q).dump = (s.ports.get q).dump ∧
    ((s.stoppedUnasked).ports.get q).dumpRange = (s.ports.get q).dumpRange := by
  simp [State.stoppedUnasked]

@[simp] theorem stepStartRequested_port_untouched (q : Port) :
    ((s.stepStartRequested).ports.get q).cursors = (s.ports.get q).cursors ∧
    ((s.stepStartRequested).ports.get q).assembly = (s.ports.get q).assembly ∧
    ((s.stepStartRequested).ports.get q).holding = (s.ports.get q).holding ∧
    ((s.stepStartRequested).ports.get q).response = (s.ports.get q).response ∧
    ((s.stepStartRequested).ports.get q).dataOut = (s.ports.get q).dataOut ∧
    ((s.stepStartRequested).ports.get q).counters = (s.ports.get q).counters ∧
    ((s.stepStartRequested).ports.get q).codes = (s.ports.get q).codes ∧
    ((s.stepStartRequested).ports.get q).dump = (s.ports.get q).dump ∧
    ((s.stepStartRequested).ports.get q).dumpRange = (s.ports.get q).dumpRange := by
  unfold State.stepStartRequested
  split_ifs <;> simp

@[simp] theorem stepRun_port_untouched (q : Port) :
    ((s.stepRun).ports.get q).cursors = (s.ports.get q).cursors ∧
    ((s.stepRun).ports.get q).assembly = (s.ports.get q).assembly ∧
    ((s.stepRun).ports.get q).holding = (s.ports.get q).holding ∧
    ((s.stepRun).ports.get q).response = (s.ports.get q).response ∧
    ((s.stepRun).ports.get q).dataOut = (s.ports.get q).dataOut ∧
    ((s.stepRun).ports.get q).missed = (s.ports.get q).missed ∧
    ((s.stepRun).ports.get q).latch = (s.ports.get q).latch ∧
    ((s.stepRun).ports.get q).counters = (s.ports.get q).counters ∧
    ((s.stepRun).ports.get q).codes = (s.ports.get q).codes ∧
    ((s.stepRun).ports.get q).dump = (s.ports.get q).dump ∧
    ((s.stepRun).ports.get q).dumpRange = (s.ports.get q).dumpRange := by
  unfold State.stepRun
  split_ifs <;> simp

@[simp] theorem stepAbsorb_port_untouched (q : Port) :
    ((s.stepAbsorb).ports.get q).cursors = (s.ports.get q).cursors ∧
    ((s.stepAbsorb).ports.get q).assembly = (s.ports.get q).assembly ∧
    ((s.stepAbsorb).ports.get q).holding = (s.ports.get q).holding ∧
    ((s.stepAbsorb).ports.get q).response = (s.ports.get q).response ∧
    ((s.stepAbsorb).ports.get q).dataOut = (s.ports.get q).dataOut ∧
    ((s.stepAbsorb).ports.get q).missed = (s.ports.get q).missed ∧
    ((s.stepAbsorb).ports.get q).latch = (s.ports.get q).latch ∧
    ((s.stepAbsorb).ports.get q).counters = (s.ports.get q).counters ∧
    ((s.stepAbsorb).ports.get q).codes = (s.ports.get q).codes ∧
    ((s.stepAbsorb).ports.get q).dump = (s.ports.get q).dump ∧
    ((s.stepAbsorb).ports.get q).dumpRange = (s.ports.get q).dumpRange := by
  unfold State.stepAbsorb
  split_ifs <;> simp

@[simp] theorem stepStopRequested_port_untouched (q : Port) :
    ((s.stepStopRequested).ports.get q).cursors = (s.ports.get q).cursors ∧
    ((s.stepStopRequested).ports.get q).assembly = (s.ports.get q).assembly ∧
    ((s.stepStopRequested).ports.get q).holding = (s.ports.get q).holding ∧
    ((s.stepStopRequested).ports.get q).response = (s.ports.get q).response ∧
    ((s.stepStopRequested).ports.get q).dataOut = (s.ports.get q).dataOut ∧
    ((s.stepStopRequested).ports.get q).missed = (s.ports.get q).missed ∧
    ((s.stepStopRequested).ports.get q).latch = (s.ports.get q).latch ∧
    ((s.stepStopRequested).ports.get q).counters = (s.ports.get q).counters ∧
    ((s.stepStopRequested).ports.get q).codes = (s.ports.get q).codes ∧
    ((s.stepStopRequested).ports.get q).dump = (s.ports.get q).dump ∧
    ((s.stepStopRequested).ports.get q).dumpRange = (s.ports.get q).dumpRange := by
  unfold State.stepStopRequested
  split_ifs <;> simp

@[simp] theorem managerTransition_port_untouched (q : Port) :
    ((s.managerTransition).ports.get q).cursors = (s.ports.get q).cursors ∧
    ((s.managerTransition).ports.get q).assembly = (s.ports.get q).assembly ∧
    ((s.managerTransition).ports.get q).holding = (s.ports.get q).holding ∧
    ((s.managerTransition).ports.get q).response = (s.ports.get q).response ∧
    ((s.managerTransition).ports.get q).dataOut = (s.ports.get q).dataOut ∧
    ((s.managerTransition).ports.get q).counters = (s.ports.get q).counters ∧
    ((s.managerTransition).ports.get q).codes = (s.ports.get q).codes ∧
    ((s.managerTransition).ports.get q).dump = (s.ports.get q).dump ∧
    ((s.managerTransition).ports.get q).dumpRange = (s.ports.get q).dumpRange := by
  unfold State.managerTransition
  split_ifs
  all_goals first | simp | (split <;> simp)

@[simp] theorem settleZoneBreach_port_untouched (q : Port) :
    ((s.settleZoneBreach).ports.get q).cursors = (s.ports.get q).cursors ∧
    ((s.settleZoneBreach).ports.get q).assembly = (s.ports.get q).assembly ∧
    ((s.settleZoneBreach).ports.get q).holding = (s.ports.get q).holding ∧
    ((s.settleZoneBreach).ports.get q).response = (s.ports.get q).response ∧
    ((s.settleZoneBreach).ports.get q).dataOut = (s.ports.get q).dataOut ∧
    ((s.settleZoneBreach).ports.get q).counters = (s.ports.get q).counters ∧
    ((s.settleZoneBreach).ports.get q).codes = (s.ports.get q).codes ∧
    ((s.settleZoneBreach).ports.get q).dump = (s.ports.get q).dump ∧
    ((s.settleZoneBreach).ports.get q).dumpRange = (s.ports.get q).dumpRange := by
  unfold State.settleZoneBreach
  split_ifs <;> simp

@[simp] theorem gensetStep_port_untouched (q : Port) :
    ((s.gensetStep).ports.get q).cursors = (s.ports.get q).cursors ∧
    ((s.gensetStep).ports.get q).assembly = (s.ports.get q).assembly ∧
    ((s.gensetStep).ports.get q).holding = (s.ports.get q).holding ∧
    ((s.gensetStep).ports.get q).response = (s.ports.get q).response ∧
    ((s.gensetStep).ports.get q).dataOut = (s.ports.get q).dataOut ∧
    ((s.gensetStep).ports.get q).counters = (s.ports.get q).counters ∧
    ((s.gensetStep).ports.get q).codes = (s.ports.get q).codes ∧
    ((s.gensetStep).ports.get q).dump = (s.ports.get q).dump ∧
    ((s.gensetStep).ports.get q).dumpRange = (s.ports.get q).dumpRange := by
  simp [State.gensetStep]

@[simp] theorem zoneAtCommit_port_untouched (q : Port) :
    ((s.zoneAtCommit).ports.get q).cursors = (s.ports.get q).cursors ∧
    ((s.zoneAtCommit).ports.get q).assembly = (s.ports.get q).assembly ∧
    ((s.zoneAtCommit).ports.get q).holding = (s.ports.get q).holding ∧
    ((s.zoneAtCommit).ports.get q).response = (s.ports.get q).response ∧
    ((s.zoneAtCommit).ports.get q).dataOut = (s.ports.get q).dataOut ∧
    ((s.zoneAtCommit).ports.get q).counters = (s.ports.get q).counters ∧
    ((s.zoneAtCommit).ports.get q).codes = (s.ports.get q).codes ∧
    ((s.zoneAtCommit).ports.get q).dump = (s.ports.get q).dump ∧
    ((s.zoneAtCommit).ports.get q).dumpRange = (s.ports.get q).dumpRange := by
  unfold State.zoneAtCommit
  dsimp only
  cases s.gen.mgr <;> dsimp only <;> split_ifs <;> simp

@[simp] theorem countEnergy_port_untouched (q : Port) :
    ((s.countEnergy).ports.get q).cursors = (s.ports.get q).cursors ∧
    ((s.countEnergy).ports.get q).assembly = (s.ports.get q).assembly ∧
    ((s.countEnergy).ports.get q).holding = (s.ports.get q).holding ∧
    ((s.countEnergy).ports.get q).response = (s.ports.get q).response ∧
    ((s.countEnergy).ports.get q).dataOut = (s.ports.get q).dataOut ∧
    ((s.countEnergy).ports.get q).notices = (s.ports.get q).notices ∧
    ((s.countEnergy).ports.get q).missed = (s.ports.get q).missed ∧
    ((s.countEnergy).ports.get q).latch = (s.ports.get q).latch ∧
    ((s.countEnergy).ports.get q).codes = (s.ports.get q).codes ∧
    ((s.countEnergy).ports.get q).dump = (s.ports.get q).dump ∧
    ((s.countEnergy).ports.get q).dumpRange = (s.ports.get q).dumpRange := by
  simp [State.countEnergy]

@[simp] theorem countFriction_port_untouched (dt : Nat) (q : Port) :
    ((s.countFriction dt).ports.get q).cursors = (s.ports.get q).cursors ∧
    ((s.countFriction dt).ports.get q).assembly = (s.ports.get q).assembly ∧
    ((s.countFriction dt).ports.get q).holding = (s.ports.get q).holding ∧
    ((s.countFriction dt).ports.get q).response = (s.ports.get q).response ∧
    ((s.countFriction dt).ports.get q).dataOut = (s.ports.get q).dataOut ∧
    ((s.countFriction dt).ports.get q).notices = (s.ports.get q).notices ∧
    ((s.countFriction dt).ports.get q).missed = (s.ports.get q).missed ∧
    ((s.countFriction dt).ports.get q).latch = (s.ports.get q).latch ∧
    ((s.countFriction dt).ports.get q).codes = (s.ports.get q).codes ∧
    ((s.countFriction dt).ports.get q).dump = (s.ports.get q).dump ∧
    ((s.countFriction dt).ports.get q).dumpRange = (s.ports.get q).dumpRange := by
  simp [State.countFriction]

@[simp] theorem evaluate_port_untouched (q : Port) :
    ((s.evaluate).ports.get q).cursors = (s.ports.get q).cursors ∧
    ((s.evaluate).ports.get q).assembly = (s.ports.get q).assembly ∧
    ((s.evaluate).ports.get q).holding = (s.ports.get q).holding ∧
    ((s.evaluate).ports.get q).response = (s.ports.get q).response ∧
    ((s.evaluate).ports.get q).dataOut = (s.ports.get q).dataOut ∧
    ((s.evaluate).ports.get q).codes = (s.ports.get q).codes ∧
    ((s.evaluate).ports.get q).dump = (s.ports.get q).dump ∧
    ((s.evaluate).ports.get q).dumpRange = (s.ports.get q).dumpRange := by
  simp [State.evaluate]

@[simp] theorem releaseClaim_port_untouched (q : Port) :
    ((s.releaseClaim).ports.get q).cursors = (s.ports.get q).cursors ∧
    ((s.releaseClaim).ports.get q).holding = (s.ports.get q).holding ∧
    ((s.releaseClaim).ports.get q).response = (s.ports.get q).response ∧
    ((s.releaseClaim).ports.get q).dataOut = (s.ports.get q).dataOut ∧
    ((s.releaseClaim).ports.get q).notices = (s.ports.get q).notices ∧
    ((s.releaseClaim).ports.get q).missed = (s.ports.get q).missed ∧
    ((s.releaseClaim).ports.get q).latch = (s.ports.get q).latch ∧
    ((s.releaseClaim).ports.get q).counters = (s.ports.get q).counters ∧
    ((s.releaseClaim).ports.get q).codes = (s.ports.get q).codes ∧
    ((s.releaseClaim).ports.get q).dump = (s.ports.get q).dump ∧
    ((s.releaseClaim).ports.get q).dumpRange = (s.ports.get q).dumpRange := by
  unfold State.releaseClaim
  split
  · simp
  · (simp only [modPort_get]; split_ifs <;> simp)

@[simp] theorem discardStaged_port_untouched (q : Port) :
    ((s.discardStaged).ports.get q).cursors = (s.ports.get q).cursors ∧
    ((s.discardStaged).ports.get q).holding = (s.ports.get q).holding ∧
    ((s.discardStaged).ports.get q).response = (s.ports.get q).response ∧
    ((s.discardStaged).ports.get q).dataOut = (s.ports.get q).dataOut ∧
    ((s.discardStaged).ports.get q).notices = (s.ports.get q).notices ∧
    ((s.discardStaged).ports.get q).missed = (s.ports.get q).missed ∧
    ((s.discardStaged).ports.get q).latch = (s.ports.get q).latch ∧
    ((s.discardStaged).ports.get q).counters = (s.ports.get q).counters ∧
    ((s.discardStaged).ports.get q).codes = (s.ports.get q).codes ∧
    ((s.discardStaged).ports.get q).dump = (s.ports.get q).dump ∧
    ((s.discardStaged).ports.get q).dumpRange = (s.ports.get q).dumpRange := by
  simp [State.discardStaged]

@[simp] theorem discardUnbound_port_untouched (q : Port) :
    ((s.discardUnbound).ports.get q).cursors = (s.ports.get q).cursors ∧
    ((s.discardUnbound).ports.get q).holding = (s.ports.get q).holding ∧
    ((s.discardUnbound).ports.get q).response = (s.ports.get q).response ∧
    ((s.discardUnbound).ports.get q).dataOut = (s.ports.get q).dataOut ∧
    ((s.discardUnbound).ports.get q).notices = (s.ports.get q).notices ∧
    ((s.discardUnbound).ports.get q).missed = (s.ports.get q).missed ∧
    ((s.discardUnbound).ports.get q).latch = (s.ports.get q).latch ∧
    ((s.discardUnbound).ports.get q).counters = (s.ports.get q).counters ∧
    ((s.discardUnbound).ports.get q).codes = (s.ports.get q).codes ∧
    ((s.discardUnbound).ports.get q).dump = (s.ports.get q).dump ∧
    ((s.discardUnbound).ports.get q).dumpRange = (s.ports.get q).dumpRange := by
  unfold State.discardUnbound
  split <;> [simp; (split_ifs <;> simp)]

@[simp] theorem discardStale_port_untouched (r : Role) (q : Port) :
    ((s.discardStale r).ports.get q).cursors = (s.ports.get q).cursors ∧
    ((s.discardStale r).ports.get q).holding = (s.ports.get q).holding ∧
    ((s.discardStale r).ports.get q).response = (s.ports.get q).response ∧
    ((s.discardStale r).ports.get q).dataOut = (s.ports.get q).dataOut ∧
    ((s.discardStale r).ports.get q).notices = (s.ports.get q).notices ∧
    ((s.discardStale r).ports.get q).missed = (s.ports.get q).missed ∧
    ((s.discardStale r).ports.get q).latch = (s.ports.get q).latch ∧
    ((s.discardStale r).ports.get q).counters = (s.ports.get q).counters ∧
    ((s.discardStale r).ports.get q).codes = (s.ports.get q).codes ∧
    ((s.discardStale r).ports.get q).dump = (s.ports.get q).dump ∧
    ((s.discardStale r).ports.get q).dumpRange = (s.ports.get q).dumpRange := by
  unfold State.discardStale
  split <;> [simp; (split_ifs <;> simp)]

@[simp] theorem changeRunState_port_untouched (x : RunState) (q : Port) :
    ((s.changeRunState x).ports.get q).cursors = (s.ports.get q).cursors ∧
    ((s.changeRunState x).ports.get q).assembly = (s.ports.get q).assembly ∧
    ((s.changeRunState x).ports.get q).holding = (s.ports.get q).holding ∧
    ((s.changeRunState x).ports.get q).response = (s.ports.get q).response ∧
    ((s.changeRunState x).ports.get q).dataOut = (s.ports.get q).dataOut ∧
    ((s.changeRunState x).ports.get q).missed = (s.ports.get q).missed ∧
    ((s.changeRunState x).ports.get q).latch = (s.ports.get q).latch ∧
    ((s.changeRunState x).ports.get q).counters = (s.ports.get q).counters ∧
    ((s.changeRunState x).ports.get q).codes = (s.ports.get q).codes ∧
    ((s.changeRunState x).ports.get q).dump = (s.ports.get q).dump ∧
    ((s.changeRunState x).ports.get q).dumpRange = (s.ports.get q).dumpRange := by
  simp [State.changeRunState]

@[simp] theorem enterHalted_port_untouched (q : Port) :
    ((s.enterHalted).ports.get q).cursors = (s.ports.get q).cursors ∧
    ((s.enterHalted).ports.get q).holding = (s.ports.get q).holding ∧
    ((s.enterHalted).ports.get q).response = (s.ports.get q).response ∧
    ((s.enterHalted).ports.get q).dataOut = (s.ports.get q).dataOut ∧
    ((s.enterHalted).ports.get q).counters = (s.ports.get q).counters ∧
    ((s.enterHalted).ports.get q).codes = (s.ports.get q).codes ∧
    ((s.enterHalted).ports.get q).dump = (s.ports.get q).dump ∧
    ((s.enterHalted).ports.get q).dumpRange = (s.ports.get q).dumpRange := by
  unfold State.enterHalted
  dsimp only
  split_ifs <;> simp

@[simp] theorem enterStandby_port_untouched (q : Port) :
    ((s.enterStandby).ports.get q).cursors = (s.ports.get q).cursors ∧
    ((s.enterStandby).ports.get q).holding = (s.ports.get q).holding ∧
    ((s.enterStandby).ports.get q).response = (s.ports.get q).response ∧
    ((s.enterStandby).ports.get q).dataOut = (s.ports.get q).dataOut ∧
    ((s.enterStandby).ports.get q).missed = (s.ports.get q).missed ∧
    ((s.enterStandby).ports.get q).latch = (s.ports.get q).latch ∧
    ((s.enterStandby).ports.get q).counters = (s.ports.get q).counters ∧
    ((s.enterStandby).ports.get q).codes = (s.ports.get q).codes ∧
    ((s.enterStandby).ports.get q).dump = (s.ports.get q).dump ∧
    ((s.enterStandby).ports.get q).dumpRange = (s.ports.get q).dumpRange := by
  simp [State.enterStandby]

@[simp] theorem dropToStandby_port_untouched (q : Port) :
    ((s.dropToStandby).ports.get q).cursors = (s.ports.get q).cursors ∧
    ((s.dropToStandby).ports.get q).assembly = (s.ports.get q).assembly ∧
    ((s.dropToStandby).ports.get q).holding = (s.ports.get q).holding ∧
    ((s.dropToStandby).ports.get q).response = (s.ports.get q).response ∧
    ((s.dropToStandby).ports.get q).dataOut = (s.ports.get q).dataOut ∧
    ((s.dropToStandby).ports.get q).missed = (s.ports.get q).missed ∧
    ((s.dropToStandby).ports.get q).latch = (s.ports.get q).latch ∧
    ((s.dropToStandby).ports.get q).counters = (s.ports.get q).counters ∧
    ((s.dropToStandby).ports.get q).codes = (s.ports.get q).codes ∧
    ((s.dropToStandby).ports.get q).dump = (s.ports.get q).dump ∧
    ((s.dropToStandby).ports.get q).dumpRange = (s.ports.get q).dumpRange := by
  simp [State.dropToStandby]

@[simp] theorem enterActive_port_untouched (q : Port) :
    ((s.enterActive).ports.get q).cursors = (s.ports.get q).cursors ∧
    ((s.enterActive).ports.get q).assembly = (s.ports.get q).assembly ∧
    ((s.enterActive).ports.get q).holding = (s.ports.get q).holding ∧
    ((s.enterActive).ports.get q).response = (s.ports.get q).response ∧
    ((s.enterActive).ports.get q).dataOut = (s.ports.get q).dataOut ∧
    ((s.enterActive).ports.get q).missed = (s.ports.get q).missed ∧
    ((s.enterActive).ports.get q).latch = (s.ports.get q).latch ∧
    ((s.enterActive).ports.get q).counters = (s.ports.get q).counters ∧
    ((s.enterActive).ports.get q).codes = (s.ports.get q).codes ∧
    ((s.enterActive).ports.get q).dump = (s.ports.get q).dump ∧
    ((s.enterActive).ports.get q).dumpRange = (s.ports.get q).dumpRange := by
  simp [State.enterActive]

@[simp] theorem startSelfCheck_port_untouched (b : Bool) (q : Port) :
    ((s.startSelfCheck b).ports.get q).cursors = (s.ports.get q).cursors ∧
    ((s.startSelfCheck b).ports.get q).assembly = (s.ports.get q).assembly ∧
    ((s.startSelfCheck b).ports.get q).holding = (s.ports.get q).holding ∧
    ((s.startSelfCheck b).ports.get q).response = (s.ports.get q).response ∧
    ((s.startSelfCheck b).ports.get q).dataOut = (s.ports.get q).dataOut ∧
    ((s.startSelfCheck b).ports.get q).missed = (s.ports.get q).missed ∧
    ((s.startSelfCheck b).ports.get q).latch = (s.ports.get q).latch ∧
    ((s.startSelfCheck b).ports.get q).counters = (s.ports.get q).counters ∧
    ((s.startSelfCheck b).ports.get q).codes = (s.ports.get q).codes ∧
    ((s.startSelfCheck b).ports.get q).dump = (s.ports.get q).dump ∧
    ((s.startSelfCheck b).ports.get q).dumpRange = (s.ports.get q).dumpRange := by
  simp [State.startSelfCheck]

@[simp] theorem endSelfCheck_port_untouched (f : StepFailures) (q : Port) :
    ((s.endSelfCheck f).ports.get q).cursors = (s.ports.get q).cursors ∧
    ((s.endSelfCheck f).ports.get q).holding = (s.ports.get q).holding ∧
    ((s.endSelfCheck f).ports.get q).response = (s.ports.get q).response ∧
    ((s.endSelfCheck f).ports.get q).dataOut = (s.ports.get q).dataOut ∧
    ((s.endSelfCheck f).ports.get q).counters = (s.ports.get q).counters ∧
    ((s.endSelfCheck f).ports.get q).codes = (s.ports.get q).codes ∧
    ((s.endSelfCheck f).ports.get q).dump = (s.ports.get q).dump ∧
    ((s.endSelfCheck f).ports.get q).dumpRange = (s.ports.get q).dumpRange := by
  unfold State.endSelfCheck
  dsimp only
  split_ifs <;> simp

@[simp] theorem vehicleCommitted_port_untouched (q : Port) :
    ((s.vehicleCommitted).ports.get q).cursors = (s.ports.get q).cursors ∧
    ((s.vehicleCommitted).ports.get q).assembly = (s.ports.get q).assembly ∧
    ((s.vehicleCommitted).ports.get q).holding = (s.ports.get q).holding ∧
    ((s.vehicleCommitted).ports.get q).response = (s.ports.get q).response ∧
    ((s.vehicleCommitted).ports.get q).dataOut = (s.ports.get q).dataOut ∧
    ((s.vehicleCommitted).ports.get q).counters = (s.ports.get q).counters ∧
    ((s.vehicleCommitted).ports.get q).codes = (s.ports.get q).codes ∧
    ((s.vehicleCommitted).ports.get q).dump = (s.ports.get q).dump ∧
    ((s.vehicleCommitted).ports.get q).dumpRange = (s.ports.get q).dumpRange := by
  unfold State.vehicleCommitted
  dsimp only
  split_ifs <;> simp

@[simp] theorem brakeCommitted_port_untouched (b : BrakeReport) (dt : Nat) (q : Port) :
    ((s.brakeCommitted b dt).ports.get q).cursors = (s.ports.get q).cursors ∧
    ((s.brakeCommitted b dt).ports.get q).assembly = (s.ports.get q).assembly ∧
    ((s.brakeCommitted b dt).ports.get q).holding = (s.ports.get q).holding ∧
    ((s.brakeCommitted b dt).ports.get q).response = (s.ports.get q).response ∧
    ((s.brakeCommitted b dt).ports.get q).dataOut = (s.ports.get q).dataOut ∧
    ((s.brakeCommitted b dt).ports.get q).dump = (s.ports.get q).dump ∧
    ((s.brakeCommitted b dt).ports.get q).dumpRange = (s.ports.get q).dumpRange := by
  unfold State.brakeCommitted
  dsimp only
  split_ifs <;> simp

@[simp] theorem handOn_port_untouched (r : Role) (e : Envelope) (dt : Nat) (q : Port) :
    ((s.handOn r e dt).ports.get q).cursors = (s.ports.get q).cursors ∧
    ((s.handOn r e dt).ports.get q).assembly = (s.ports.get q).assembly ∧
    ((s.handOn r e dt).ports.get q).holding = (s.ports.get q).holding ∧
    ((s.handOn r e dt).ports.get q).response = (s.ports.get q).response ∧
    ((s.handOn r e dt).ports.get q).dataOut = (s.ports.get q).dataOut ∧
    ((s.handOn r e dt).ports.get q).dump = (s.ports.get q).dump ∧
    ((s.handOn r e dt).ports.get q).dumpRange = (s.ports.get q).dumpRange := by
  unfold State.handOn
  split <;> simp

@[simp] theorem commit_port_untouched (r : Role) (v : List Int) (c : BitVec 6) (q : Port) :
    ((s.commit r v c).ports.get q).cursors = (s.ports.get q).cursors ∧
    ((s.commit r v c).ports.get q).assembly = (s.ports.get q).assembly ∧
    ((s.commit r v c).ports.get q).holding = (s.ports.get q).holding ∧
    ((s.commit r v c).ports.get q).response = (s.ports.get q).response ∧
    ((s.commit r v c).ports.get q).dataOut = (s.ports.get q).dataOut ∧
    ((s.commit r v c).ports.get q).dump = (s.ports.get q).dump ∧
    ((s.commit r v c).ports.get q).dumpRange = (s.ports.get q).dumpRange := by
  unfold State.commit
  dsimp only
  split_ifs <;> simp

@[simp] theorem becomeStale_port_untouched (r : Role) (q : Port) :
    ((s.becomeStale r).ports.get q).cursors = (s.ports.get q).cursors ∧
    ((s.becomeStale r).ports.get q).holding = (s.ports.get q).holding ∧
    ((s.becomeStale r).ports.get q).response = (s.ports.get q).response ∧
    ((s.becomeStale r).ports.get q).dataOut = (s.ports.get q).dataOut ∧
    ((s.becomeStale r).ports.get q).counters = (s.ports.get q).counters ∧
    ((s.becomeStale r).ports.get q).dump = (s.ports.get q).dump ∧
    ((s.becomeStale r).ports.get q).dumpRange = (s.ports.get q).dumpRange := by
  unfold State.becomeStale
  dsimp only
  split_ifs <;> simp

@[simp] theorem deadlineExpired_port_untouched (r : Role) (q : Port) :
    ((s.deadlineExpired r).ports.get q).cursors = (s.ports.get q).cursors ∧
    ((s.deadlineExpired r).ports.get q).holding = (s.ports.get q).holding ∧
    ((s.deadlineExpired r).ports.get q).response = (s.ports.get q).response ∧
    ((s.deadlineExpired r).ports.get q).dataOut = (s.ports.get q).dataOut ∧
    ((s.deadlineExpired r).ports.get q).counters = (s.ports.get q).counters ∧
    ((s.deadlineExpired r).ports.get q).dump = (s.ports.get q).dump ∧
    ((s.deadlineExpired r).ports.get q).dumpRange = (s.ports.get q).dumpRange := by
  unfold State.deadlineExpired
  dsimp only
  split_ifs <;> simp

@[simp] theorem captureRecord_port_untouched (p : Port) (r : RecordId) (q : Port) :
    ((s.captureRecord p r).ports.get q).cursors = (s.ports.get q).cursors ∧
    ((s.captureRecord p r).ports.get q).assembly = (s.ports.get q).assembly ∧
    ((s.captureRecord p r).ports.get q).response = (s.ports.get q).response ∧
    ((s.captureRecord p r).ports.get q).dataOut = (s.ports.get q).dataOut ∧
    ((s.captureRecord p r).ports.get q).dump = (s.ports.get q).dump ∧
    ((s.captureRecord p r).ports.get q).dumpRange = (s.ports.get q).dumpRange := by
  simp only [State.captureRecord, modPort_get]
  split_ifs
  · (unfold State.captureEffect; split <;> simp)
  · simp

@[simp] theorem readRecord_port_untouched (p : Port) (r : RecordId) (k : Nat) (q : Port) :
    (((s.readRecord p r k).1).ports.get q).cursors = (s.ports.get q).cursors ∧
    (((s.readRecord p r k).1).ports.get q).assembly = (s.ports.get q).assembly ∧
    (((s.readRecord p r k).1).ports.get q).response = (s.ports.get q).response ∧
    (((s.readRecord p r k).1).ports.get q).dataOut = (s.ports.get q).dataOut ∧
    (((s.readRecord p r k).1).ports.get q).dump = (s.ports.get q).dump ∧
    (((s.readRecord p r k).1).ports.get q).dumpRange = (s.ports.get q).dumpRange := by
  unfold State.readRecord
  dsimp only
  split_ifs <;> simp

@[simp] theorem readStream_port_untouched (p : Port) (q : Port) :
    (((s.readStream p).1).ports.get q).cursors = (s.ports.get q).cursors ∧
    (((s.readStream p).1).ports.get q).assembly = (s.ports.get q).assembly ∧
    (((s.readStream p).1).ports.get q).holding = (s.ports.get q).holding ∧
    (((s.readStream p).1).ports.get q).response = (s.ports.get q).response ∧
    (((s.readStream p).1).ports.get q).dataOut = (s.ports.get q).dataOut ∧
    (((s.readStream p).1).ports.get q).notices = (s.ports.get q).notices ∧
    (((s.readStream p).1).ports.get q).missed = (s.ports.get q).missed ∧
    (((s.readStream p).1).ports.get q).latch = (s.ports.get q).latch ∧
    (((s.readStream p).1).ports.get q).counters = (s.ports.get q).counters ∧
    (((s.readStream p).1).ports.get q).codes = (s.ports.get q).codes ∧
    (((s.readStream p).1).ports.get q).dumpRange = (s.ports.get q).dumpRange := by
  unfold State.readStream
  dsimp only
  split
  · (simp only [modPort_get]; split_ifs <;> simp)
  · split <;> simp

@[simp] theorem readAt_port_untouched (p : Port) (a : Nat) (q : Port) :
    (((s.readAt p a).1).ports.get q).cursors = (s.ports.get q).cursors ∧
    (((s.readAt p a).1).ports.get q).assembly = (s.ports.get q).assembly ∧
    (((s.readAt p a).1).ports.get q).response = (s.ports.get q).response ∧
    (((s.readAt p a).1).ports.get q).dataOut = (s.ports.get q).dataOut ∧
    (((s.readAt p a).1).ports.get q).dumpRange = (s.ports.get q).dumpRange := by
  unfold State.readAt
  split <;> [simp; (split_ifs <;> [simp; (split <;> simp)])]

@[simp] theorem readFrame_port_untouched (p : Port) (b : Bool) (q : Port) :
    (((s.readFrame p b).1).ports.get q).assembly = (s.ports.get q).assembly ∧
    (((s.readFrame p b).1).ports.get q).response = (s.ports.get q).response ∧
    (((s.readFrame p b).1).ports.get q).dataOut = (s.ports.get q).dataOut ∧
    (((s.readFrame p b).1).ports.get q).dumpRange = (s.ports.get q).dumpRange := by
  unfold State.readFrame
  dsimp only
  split_ifs
  · (simp only [modPort_get]; split_ifs <;> simp)
  · simp

@[simp] theorem hold_port_untouched (p : Port) (k : AssemblyKind) (l : List Word) (w : Word) (q : Port) :
    (((s.hold p k l w).1).ports.get q).cursors = (s.ports.get q).cursors ∧
    (((s.hold p k l w).1).ports.get q).holding = (s.ports.get q).holding ∧
    (((s.hold p k l w).1).ports.get q).response = (s.ports.get q).response ∧
    (((s.hold p k l w).1).ports.get q).dataOut = (s.ports.get q).dataOut ∧
    (((s.hold p k l w).1).ports.get q).notices = (s.ports.get q).notices ∧
    (((s.hold p k l w).1).ports.get q).missed = (s.ports.get q).missed ∧
    (((s.hold p k l w).1).ports.get q).latch = (s.ports.get q).latch ∧
    (((s.hold p k l w).1).ports.get q).counters = (s.ports.get q).counters ∧
    (((s.hold p k l w).1).ports.get q).codes = (s.ports.get q).codes ∧
    (((s.hold p k l w).1).ports.get q).dump = (s.ports.get q).dump ∧
    (((s.hold p k l w).1).ports.get q).dumpRange = (s.ports.get q).dumpRange := by
  simp only [State.hold, modPort_get]
  split_ifs <;> simp

@[simp] theorem refuseWrite_port_untouched (p : Port) (r : Reply) (q : Port) :
    (((s.refuseWrite p r).1).ports.get q).cursors = (s.ports.get q).cursors ∧
    (((s.refuseWrite p r).1).ports.get q).holding = (s.ports.get q).holding ∧
    (((s.refuseWrite p r).1).ports.get q).response = (s.ports.get q).response ∧
    (((s.refuseWrite p r).1).ports.get q).dataOut = (s.ports.get q).dataOut ∧
    (((s.refuseWrite p r).1).ports.get q).notices = (s.ports.get q).notices ∧
    (((s.refuseWrite p r).1).ports.get q).missed = (s.ports.get q).missed ∧
    (((s.refuseWrite p r).1).ports.get q).latch = (s.ports.get q).latch ∧
    (((s.refuseWrite p r).1).ports.get q).counters = (s.ports.get q).counters ∧
    (((s.refuseWrite p r).1).ports.get q).codes = (s.ports.get q).codes ∧
    (((s.refuseWrite p r).1).ports.get q).dump = (s.ports.get q).dump ∧
    (((s.refuseWrite p r).1).ports.get q).dumpRange = (s.ports.get q).dumpRange := by
  simp [State.refuseWrite]

@[simp] theorem completeReport_port_untouched (p : Port) (r : Role) (l : List Word) (q : Port) :
    (((s.completeReport p r l).1).ports.get q).cursors = (s.ports.get q).cursors ∧
    (((s.completeReport p r l).1).ports.get q).holding = (s.ports.get q).holding ∧
    (((s.completeReport p r l).1).ports.get q).response = (s.ports.get q).response ∧
    (((s.completeReport p r l).1).ports.get q).dataOut = (s.ports.get q).dataOut ∧
    (((s.completeReport p r l).1).ports.get q).dump = (s.ports.get q).dump ∧
    (((s.completeReport p r l).1).ports.get q).dumpRange = (s.ports.get q).dumpRange := by
  unfold State.completeReport
  dsimp only
  split <;> simp

@[simp] theorem writeReportWord_port_untouched (p : Port) (r : Role) (k : Nat) (w : Word) (q : Port) :
    (((s.writeReportWord p r k w).1).ports.get q).cursors = (s.ports.get q).cursors ∧
    (((s.writeReportWord p r k w).1).ports.get q).holding = (s.ports.get q).holding ∧
    (((s.writeReportWord p r k w).1).ports.get q).response = (s.ports.get q).response ∧
    (((s.writeReportWord p r k w).1).ports.get q).dataOut = (s.ports.get q).dataOut ∧
    (((s.writeReportWord p r k w).1).ports.get q).dump = (s.ports.get q).dump ∧
    (((s.writeReportWord p r k w).1).ports.get q).dumpRange = (s.ports.get q).dumpRange := by
  unfold State.writeReportWord
  dsimp only
  split_ifs <;> first | simp | (split <;> simp)

@[simp] theorem storeSettingWord_port_untouched (p : Port) (x : SettingWord) (w : Word) (q : Port) :
    (((s.storeSettingWord p x w).1).ports.get q).cursors = (s.ports.get q).cursors ∧
    (((s.storeSettingWord p x w).1).ports.get q).holding = (s.ports.get q).holding ∧
    (((s.storeSettingWord p x w).1).ports.get q).response = (s.ports.get q).response ∧
    (((s.storeSettingWord p x w).1).ports.get q).dataOut = (s.ports.get q).dataOut ∧
    (((s.storeSettingWord p x w).1).ports.get q).notices = (s.ports.get q).notices ∧
    (((s.storeSettingWord p x w).1).ports.get q).missed = (s.ports.get q).missed ∧
    (((s.storeSettingWord p x w).1).ports.get q).latch = (s.ports.get q).latch ∧
    (((s.storeSettingWord p x w).1).ports.get q).counters = (s.ports.get q).counters ∧
    (((s.storeSettingWord p x w).1).ports.get q).codes = (s.ports.get q).codes ∧
    (((s.storeSettingWord p x w).1).ports.get q).dump = (s.ports.get q).dump ∧
    (((s.storeSettingWord p x w).1).ports.get q).dumpRange = (s.ports.get q).dumpRange := by
  unfold State.storeSettingWord
  split <;> [simp; simp; (split <;> simp)]

@[simp] theorem writeStaged_port_untouched (p : Port) (k : Nat) (w : Word) (q : Port) :
    (((s.writeStaged p k w).1).ports.get q).cursors = (s.ports.get q).cursors ∧
    (((s.writeStaged p k w).1).ports.get q).holding = (s.ports.get q).holding ∧
    (((s.writeStaged p k w).1).ports.get q).response = (s.ports.get q).response ∧
    (((s.writeStaged p k w).1).ports.get q).dataOut = (s.ports.get q).dataOut ∧
    (((s.writeStaged p k w).1).ports.get q).notices = (s.ports.get q).notices ∧
    (((s.writeStaged p k w).1).ports.get q).missed = (s.ports.get q).missed ∧
    (((s.writeStaged p k w).1).ports.get q).latch = (s.ports.get q).latch ∧
    (((s.writeStaged p k w).1).ports.get q).counters = (s.ports.get q).counters ∧
    (((s.writeStaged p k w).1).ports.get q).codes = (s.ports.get q).codes ∧
    (((s.writeStaged p k w).1).ports.get q).dump = (s.ports.get q).dump ∧
    (((s.writeStaged p k w).1).ports.get q).dumpRange = (s.ports.get q).dumpRange := by
  unfold State.writeStaged
  split <;> [simp; (split_ifs <;> simp)]

@[simp] theorem writeDumpRange_port_untouched (p : Port) (k : Nat) (w : Word) (q : Port) :
    (((s.writeDumpRange p k w).1).ports.get q).cursors = (s.ports.get q).cursors ∧
    (((s.writeDumpRange p k w).1).ports.get q).holding = (s.ports.get q).holding ∧
    (((s.writeDumpRange p k w).1).ports.get q).response = (s.ports.get q).response ∧
    (((s.writeDumpRange p k w).1).ports.get q).dataOut = (s.ports.get q).dataOut ∧
    (((s.writeDumpRange p k w).1).ports.get q).notices = (s.ports.get q).notices ∧
    (((s.writeDumpRange p k w).1).ports.get q).missed = (s.ports.get q).missed ∧
    (((s.writeDumpRange p k w).1).ports.get q).latch = (s.ports.get q).latch ∧
    (((s.writeDumpRange p k w).1).ports.get q).counters = (s.ports.get q).counters ∧
    (((s.writeDumpRange p k w).1).ports.get q).codes = (s.ports.get q).codes ∧
    (((s.writeDumpRange p k w).1).ports.get q).dump = (s.ports.get q).dump := by
  unfold State.writeDumpRange
  dsimp only
  split
  · simp
  · (split_ifs <;> [(simp only [modPort_get]; split_ifs <;> simp); simp])

@[simp] theorem writeAt_port_untouched (p : Port) (a : Nat) (w : Word) (q : Port) :
    (((s.writeAt p a w).1).ports.get q).cursors = (s.ports.get q).cursors ∧
    (((s.writeAt p a w).1).ports.get q).holding = (s.ports.get q).holding ∧
    (((s.writeAt p a w).1).ports.get q).response = (s.ports.get q).response ∧
    (((s.writeAt p a w).1).ports.get q).dataOut = (s.ports.get q).dataOut ∧
    (((s.writeAt p a w).1).ports.get q).dump = (s.ports.get q).dump := by
  unfold State.writeAt
  split <;> [simp; (split_ifs <;> simp)]

@[simp] theorem writeFrame_port_untouched (p : Port) (b : Bool) (w : Word) (q : Port) :
    (((s.writeFrame p b w).1).ports.get q).holding = (s.ports.get q).holding ∧
    (((s.writeFrame p b w).1).ports.get q).response = (s.ports.get q).response ∧
    (((s.writeFrame p b w).1).ports.get q).dataOut = (s.ports.get q).dataOut ∧
    (((s.writeFrame p b w).1).ports.get q).dump = (s.ports.get q).dump := by
  unfold State.writeFrame
  dsimp only
  split_ifs
  · (simp only [modPort_get]; split_ifs <;> simp)
  · simp

@[simp] theorem moveCursor_port_untouched (p : Port) (a : Address) (w : Word) (q : Port) :
    (((s.moveCursor p a w).1).ports.get q).holding = (s.ports.get q).holding ∧
    (((s.moveCursor p a w).1).ports.get q).response = (s.ports.get q).response ∧
    (((s.moveCursor p a w).1).ports.get q).dataOut = (s.ports.get q).dataOut ∧
    (((s.moveCursor p a w).1).ports.get q).notices = (s.ports.get q).notices ∧
    (((s.moveCursor p a w).1).ports.get q).missed = (s.ports.get q).missed ∧
    (((s.moveCursor p a w).1).ports.get q).latch = (s.ports.get q).latch ∧
    (((s.moveCursor p a w).1).ports.get q).counters = (s.ports.get q).counters ∧
    (((s.moveCursor p a w).1).ports.get q).codes = (s.ports.get q).codes ∧
    (((s.moveCursor p a w).1).ports.get q).dump = (s.ports.get q).dump ∧
    (((s.moveCursor p a w).1).ports.get q).dumpRange = (s.ports.get q).dumpRange := by
  unfold State.moveCursor
  dsimp only
  split
  · (simp only [modPort_get]; split_ifs <;> simp)
  · split_ifs <;> (simp only [modPort_get]; split_ifs <;> simp)

end Sys2Proof.Machine
end

