-- ==== Sys2Proof/Laws/Keeping.lean ====
section
/-! SUPPORT. What a step can do, said once: a property that the operations listed in `OperationsKeep` keep is kept by
every step. -/

namespace Sys2Proof.Machine

/-- The operations that every command is made of keep a property. Each comes with what is known where it is used. -/
structure OperationsKeep (inv : State → Prop) : Prop where
  queue : ∀ s q, inv s → inv (s.setPending q)
  clock : ∀ s n, inv s → inv (s.setNow n)
  shiftOut : ∀ s p, inv s → inv (s.modPort p PortState.shiftOut)
  respond : ∀ s p c r, inv s → inv (s.respond p c r)
  powerUp : ∀ s x, s.powered = false → inv s → inv (s.powerUp x)
  loseSupply : ∀ s c, inv s → inv (s.loseSupply c)
  assertReset : ∀ s c, inv s → inv (s.assertReset c)
  releaseReset : ∀ s x, inv s → inv (s.releaseReset x)
  endSelfCheck : ∀ s f, s.rc.runState = .selfCheck → inv s → inv (s.endSelfCheck f)
  takeLevel : ∀ s l, s.drivesHold = false → inv s → inv (s.takeLevel l)
  cursors : ∀ s p c, inv s → inv (s.modPort p fun x => { x with cursors := c })
  assembly : ∀ s p a, inv s → inv (s.modPort p fun x => { x with assembly := a })
  dumpRange : ∀ s p d, inv s → inv (s.modPort p fun x => { x with dumpRange := d })
  staging : ∀ s p st, (s.roleOf p = none → s.rc.runState = .halted) → s.claimedByOther p = false → inv s →
    inv (s.setRc { s.rc with claim := some p, staged := st })
  commit : ∀ s r ws, s.rc.runState ≠ .selfCheck → firstOutside r ws = none → ws.length = reportLength r → inv s →
    inv (s.commit r (reportValues r ws) (clampedSet r ws))
  capture : ∀ s p r, inv s → inv (s.captureRecord p r)
  readStream : ∀ s p w rest, (s.ports.get p).dump.queue = w :: rest → inv s →
    inv (s.modPort p fun x => { x with dump := { (s.ports.get p).dump with queue := rest }.fetch s.rcd })
  enterStandby : ∀ s, s.rc.runState = .halted → bindingComplete s.rc.straps = true → inv s → inv s.enterStandby
  dropToStandby : ∀ s, s.rc.runState = .active → inv s → inv s.dropToStandby
  enterActive : ∀ s, s.rc.runState = .standby → s.activeBlocker = none → inv s → inv s.enterActive
  enterHalted : ∀ s, s.rc.runState = .standby ∨ s.rc.runState = .active → inv s → inv s.enterHalted
  takeSelfCheck : ∀ s, s.rc.runState = .halted → inv s → inv s.takeSelfCheck
  applyStaged : ∀ s, s.rc.runState ≠ .active → s.rc.staged.firstFailing = none → inv s → inv s.applyStaged
  discardStaged : ∀ s, inv s → inv s.discardStaged
  startCheckpoint : ∀ s p, s.store.fault = false → s.store.phase = .idle → inv s →
    inv (s.setStore { s.store with current := s.store.current.set p true }).startCheckpoint
  mergeCheckpoint : ∀ s p, s.store.fault = false → s.store.phase ≠ .idle → inv s →
    inv (s.setStore { s.store with pendingFlag := true, waiting := s.store.waiting.set p true })
  resetItem : ∀ s i, s.rc.runState = .halted → s.causeActive .wearStoreFault = false → inv s → inv (s.resetItem i)
  fireTrigger : ∀ s, inv s → inv (s.fireTrigger .manual).1
  releaseDescriptor : ∀ s id, inv s → inv (s.releaseDescriptor id)
  startDump : ∀ s p src first last, inv s → inv (s.startDump p src first last)
  cancelDump : ∀ s p, inv s → inv (s.modPort p fun x => { x with dump := (s.ports.get p).dump.cancelled })
  freeCount : ∀ s n, inv s → inv (s.setFreeCount n)
  evaluate : ∀ s, s.rc.runState = .standby ∨ s.rc.runState = .active → inv s → inv s.evaluate
  deadlineExpired : ∀ s r, inv s → inv (s.deadlineExpired r)
  slipExpired : ∀ s, s.rc.runState ≠ .selfCheck → inv s → inv (s.setSlipTimer .expired)
  periodicExpiry : ∀ s t, s.store.timer = some t → inv s → inv s.periodicExpiry
  verifyWrite : ∀ s f, s.store.phase = .writing → inv s → inv (s.verifyWrite f)
  verifyErase : ∀ s f, s.store.phase = .erasing → inv s → inv (s.verifyErase f)
  sampleEvent : ∀ s, inv s → inv s.sampleEvent

variable {inv : State → Prop} (k : OperationsKeep inv)

include k

/-- An event of a timer keeps what its effect keeps. -/
theorem keep_timed {s : State} {timer : Option Nat} {effect : State → State} (h : inv s)
    (he : ∀ n t, timer = some t → inv (s.setNow n) → inv (effect (s.setNow n))) : inv (s.timed timer effect) := by
  unfold State.timed
  split_ifs
  · cases timer with
    | none => exact h
    | some due => exact he _ due rfl (k.clock _ _ h)
  · exact h

/-- An exchange keeps what the effect of its frame keeps. -/
theorem keep_exchange {s : State} {p : Port} {c : BitVec 4} {effect : State → State × Reply} (h : inv s)
    (he : ∀ u : State, u.rc = s.rc → inv u → inv (effect u).1) : inv (s.exchange p c effect) := by
  unfold State.exchange
  split_ifs
  · exact k.respond _ _ _ _ (he _ rfl (k.shiftOut _ _ h))
  · exact h

/-- An exchange that a self-check holds keeps what the effect of its frame keeps outside one. -/
theorem keep_heldExchange {s : State} {p : Port} {c : BitVec 4} {effect : State → State × Reply} (h : inv s)
    (he : ∀ u : State, u.rc.runState ≠ .selfCheck → inv u → inv (effect u).1) : inv (s.heldExchange p c effect) := by
  unfold State.heldExchange
  refine keep_exchange k h fun u _ hu => ?_
  split_ifs with hs
  · exact hu
  · exact he u hs hu

theorem keep_discardAssembly {s : State} (p : Port) (h : inv s) : inv (s.discardAssembly p) := k.assembly s p none h

theorem keep_cursorMove {s : State} (p : Port) (a : Address) (w : Word) (h : inv s) : inv (s.moveCursor p a w).1 := by
  have both : ∀ c, inv (s.modPort p fun x => { x with cursors := c, assembly := none }) := by
    intro c
    have e : (s.modPort p fun x => { x with cursors := c, assembly := none }) =
        (s.modPort p fun x => { x with cursors := c }).modPort p fun x => { x with assembly := none } := by
      cases p <;> rfl
    rw [e]
    exact k.assembly _ _ _ (k.cursors _ _ _ h)
  unfold State.moveCursor
  dsimp only
  split
  · exact both _
  · split_ifs
    · exact both _
    · exact k.cursors _ _ _ h

theorem keep_completeReport {s : State} (p : Port) (r : Role) (ws : List Word) (hs : s.rc.runState ≠ .selfCheck)
    (hl : ws.length = reportLength r) (h : inv s) : inv (s.completeReport p r ws).1 := by
  unfold State.completeReport
  dsimp only
  split
  · exact keep_discardAssembly k p h
  · next hf => exact k.commit _ _ _ (by simpa using hs) hf hl (keep_discardAssembly k p h)

omit k in
/-- The words a buffer holds when it expects offset `n` are `n`. -/
theorem expects_length {x : PortState} {kind : AssemblyKind} {n : Nat} {ws : List Word}
    (h : x.expects kind n = some ws) : ws.length = n := by
  unfold PortState.expects at h
  split_ifs at h with h0
  · cases h
    simp [h0]
  · cases ha : x.assembled kind with
    | none => simp [ha] at h
    | some vs =>
      simp only [ha] at h
      split_ifs at h with hl
      · cases h
        exact hl

theorem keep_hold {s : State} (p : Port) (kind : AssemblyKind) (ws : List Word) (w : Word) (h : inv s) :
    inv (s.hold p kind ws w).1 := k.assembly s p _ h

theorem keep_refuseWrite {s : State} (p : Port) (r : Reply) (h : inv s) : inv (s.refuseWrite p r).1 :=
  keep_discardAssembly k p h

theorem keep_writeReportWord {s : State} (p : Port) (r : Role) (n : Nat) (w : Word)
    (hs : s.rc.runState ≠ .selfCheck) (h : inv s) : inv (s.writeReportWord p r n w).1 := by
  unfold State.writeReportWord
  dsimp only
  split_ifs
  · exact keep_refuseWrite k p _ h
  all_goals
    split
    · exact keep_refuseWrite k p _ h
    · next he =>
      first
        | exact keep_hold k p _ _ _ h
        | exact keep_completeReport k p r _ hs (by simp [expects_length he, *]) h

theorem keep_storeSetting {s : State} (p : Port) (x : SettingWord) (w : Word)
    (hb : s.roleOf p = none → s.rc.runState = .halted) (hc : s.claimedByOther p = false) (h : inv s) :
    inv (s.storeSettingWord p x w).1 := by
  have stored : ∀ st, inv ((s.discardAssembly p).setRc { s.rc with claim := some p, staged := st }) := by
    intro st
    exact k.staging (s.discardAssembly p) p st hb hc (keep_discardAssembly k p h)
  unfold State.storeSettingWord
  cases x with
  | one i => exact stored _
  | high i => exact keep_hold k p _ _ _ (k.staging s p s.rc.staged hb hc h)
  | low i =>
    dsimp only
    split
    · exact stored _
    · exact keep_refuseWrite k p _ h
    · exact keep_refuseWrite k p _ h

theorem keep_writeStaged {s : State} (p : Port) (n : Nat) (w : Word) (h : inv s) : inv (s.writeStaged p n w).1 := by
  unfold State.writeStaged
  split
  · exact keep_refuseWrite k p _ h
  · split_ifs with h1 h2
    · exact keep_refuseWrite k p _ h
    · exact keep_refuseWrite k p _ h
    · refine keep_storeSetting k p _ w (fun hn => ?_) (by simpa using h2) h
      by_contra hh
      exact h1 ⟨hn, hh⟩

theorem keep_writeDumpRange {s : State} (p : Port) (n : Nat) (w : Word) (h : inv s) :
    inv (s.writeDumpRange p n w).1 := by
  unfold State.writeDumpRange
  dsimp only
  split
  · exact keep_refuseWrite k p _ h
  · split_ifs
    · exact k.dumpRange _ _ _ (keep_discardAssembly k p h)
    · exact keep_hold k p _ _ _ h

theorem keep_writeFrame {s : State} (p : Port) (b : Bool) (w : Word) (hs : s.rc.runState ≠ .selfCheck) (h : inv s) :
    inv (s.writeFrame p b w).1 := by
  have at_ : ∀ a, inv (s.writeAt p a w).1 := by
    intro a
    unfold State.writeAt
    split
    · exact keep_writeReportWord k p _ _ w hs h
    · split_ifs
      · exact keep_writeStaged k p _ w h
      · exact keep_writeDumpRange k p _ w h
      · exact keep_refuseWrite k p _ h
  unfold State.writeFrame
  dsimp only
  split_ifs
  · have e : ∀ t : State, (t.modPort p fun y => { y with cursors := y.cursors.advancedWrite }) =
        t.modPort p fun y => { y with cursors := (t.ports.get p).cursors.advancedWrite } := by
      intro t
      cases p <;> rfl
    rw [e]
    exact k.cursors _ _ _ (at_ _)
  · exact at_ _

theorem keep_readFrame {s : State} (p : Port) (b : Bool) (h : inv s) : inv (s.readFrame p b).1 := by
  have at_ : ∀ a, inv (s.readAt p a).1 := by
    intro a
    unfold State.readAt
    split
    · unfold State.readRecord
      dsimp only
      split_ifs
      · exact h
      · exact k.capture _ _ _ h
    · split_ifs
      · unfold State.readStream
        dsimp only
        split
        · next he => exact k.readStream _ _ _ _ he h
        · split <;> exact h
      · split <;> exact h
  unfold State.readFrame
  dsimp only
  split_ifs
  · have e : ∀ t : State, (t.modPort p fun y => { y with cursors := y.cursors.advancedRead }) =
        t.modPort p fun y => { y with cursors := (t.ports.get p).cursors.advancedRead } := by
      intro t
      cases p <;> rfl
    rw [e]
    exact k.cursors _ _ _ (at_ _)
  · exact at_ _

/-! ### Requests -/

theorem keep_requestStandby {s : State} (p : Port) (h : inv s) : inv (s.requestStandby p).1 := by
  unfold State.requestStandby
  split_ifs with _ hb
  · exact h
  all_goals
    split
    · exact h
    · next hr => first | exact h | exact k.enterStandby s hr hb h
    · exact h
    · next hr =>
      try split_ifs
      all_goals first | exact h | exact k.dropToStandby s hr h

theorem keep_requestActive {s : State} (p : Port) (h : inv s) : inv (s.requestActive p).1 := by
  unfold State.requestActive
  split_ifs
  · exact h
  · split
    · exact h
    · exact h
    · next hr =>
      split
      · exact h
      · next hb => exact k.enterActive s hr hb h
    · exact h

theorem keep_requestHalt {s : State} (p : Port) (h : inv s) : inv (s.requestHalt p).1 := by
  unfold State.requestHalt
  split_ifs
  · exact h
  all_goals
    split
    · exact h
    · exact h
    · next hr => exact k.enterHalted s (Or.inl hr) h
    · next hr => first | exact h | exact k.enterHalted s (Or.inr hr) h

theorem keep_requestSelfCheck {s : State} (p : Port) (h : inv s) : inv (s.requestSelfCheck p).1 := by
  unfold State.requestSelfCheck
  split_ifs
  · exact h
  · split
    · exact h
    · next hr => exact k.takeSelfCheck s hr h
    · exact h
    · exact h

theorem keep_requestApply {s : State} (p : Port) (h : inv s) : inv (s.requestApply p).1 := by
  unfold State.requestApply
  split
  · exact h
  · split_ifs with hr
    · exact h
    · split
      · exact h
      · next hf => exact k.applyStaged s hr hf h

theorem keep_requestDiscard {s : State} (p : Port) (h : inv s) : inv (s.requestDiscard p).1 := by
  unfold State.requestDiscard
  split
  · exact h
  · exact k.discardStaged s h

theorem keep_requestSaveWear {s : State} (p : Port) (h : inv s) : inv (s.requestSaveWear p).1 := by
  unfold State.requestSaveWear
  split_ifs with hf hi
  · exact h
  · exact k.startCheckpoint s p (by simpa using hf) hi h
  · exact k.mergeCheckpoint s p (by simpa using hf) hi h

theorem keep_requestWearReset {s : State} (p : Port) (o : BitVec 5) (h : inv s) :
    inv (s.requestWearReset p o).1 := by
  unfold State.requestWearReset
  split_ifs
  · exact h
  all_goals
    split
    · exact h
    · exact h
    · exact h
    · next hr =>
      split
      · exact h
      · next i _ => first | exact h | exact k.resetItem s i hr (Bool.eq_false_iff.mpr ‹_›) h

theorem keep_requestRelease {s : State} (o : BitVec 5) (h : inv s) : inv (s.requestRelease o).1 := by
  unfold State.requestRelease
  split
  · exact h
  · exact k.releaseDescriptor s _ h

theorem keep_requestDumpSnapshot {s : State} (p : Port) (o : BitVec 5) (h : inv s) :
    inv (s.requestDumpSnapshot p o).1 := by
  unfold State.requestDumpSnapshot
  split
  · exact h
  · dsimp only
    split
    · exact h
    · exact h
    · exact k.startDump _ _ _ _ _ h
    · exact k.startDump _ _ _ _ _ h

theorem keep_requestDumpRange {s : State} (p : Port) (h : inv s) : inv (s.requestDumpRange p).1 := by
  unfold State.requestDumpRange
  dsimp only
  split_ifs
  · exact h
  · exact h
  · exact k.freeCount _ _ (k.startDump _ _ _ _ _ h)

theorem keep_requestDumpCancel {s : State} (p : Port) (h : inv s) : inv (s.requestDumpCancel p).1 := by
  unfold State.requestDumpCancel
  dsimp only
  split
  · exact h
  · exact k.cancelDump _ _ h
  · split_ifs
    · exact k.cancelDump _ _ h
    · exact h

theorem keep_requestCursorMode {s : State} (p : Port) (o : BitVec 5) (h : inv s) :
    inv (s.requestCursorMode p o).1 := by
  unfold State.requestCursorMode
  split_ifs
  · exact h
  · have e : (s.modPort p fun x => { x with cursors := x.cursors.inMode (o == 1#5) }) =
        s.modPort p fun x => { x with cursors := (s.ports.get p).cursors.inMode (o == 1#5) } := by
      cases p <;> rfl
    show inv (s.modPort p fun x => { x with cursors := x.cursors.inMode (o == 1#5) })
    rw [e]
    exact k.cursors _ _ _ h

/-! ### Commands and steps -/

/-- Every command keeps what the operations keep. -/
theorem keep_exec {c : Instr} {s t : State} (h : inv s) (e : exec c s = .next t) : inv t := by
  cases c with
  | powerOn x =>
    cases e
    show inv (s.powerOn x)
    unfold State.powerOn
    split_ifs with hp
    · exact k.powerUp _ _ rfl (k.loseSupply _ _ h)
    · exact k.powerUp _ _ (by simpa using hp) h
  | resetAssert x =>
    simp only [exec, execResetAssert] at e
    cases e
    split_ifs
    · exact k.assertReset _ _ h
    · exact h
  | resetLineRelease x =>
    simp only [exec, execResetLineRelease] at e
    cases e
    split_ifs
    · exact k.releaseReset _ _ h
    · exact h
  | selfCheckEnd f =>
    cases e
    refine keep_timed k h fun n t ht hn => k.endSelfCheck _ f ?_ hn
    unfold State.checkTimer at ht
    split_ifs at ht with hr
    exact hr
  | holdLineSample l =>
    cases e
    refine keep_timed k h fun n t ht hn => k.takeLevel _ l ?_ hn
    unfold State.samplerTimer at ht
    split_ifs at ht with hr <;> simpa [State.drivesHold, State.causeActive] using hr
  | brokenExchange p => cases e; exact keep_exchange k h fun _ _ hu => hu
  | badframe p o => cases e; exact keep_exchange k h fun _ _ hu => hu
  | poll p => cases e; exact keep_exchange k h fun _ _ hu => hu
  | cursor p a w => cases e; exact keep_heldExchange k h fun _ _ hu => keep_cursorMove k p a w hu
  | write p b w => cases e; exact keep_heldExchange k h fun _ hs hu => keep_writeFrame k p b w hs hu
  | reportWordWrite p b w => cases e; exact keep_heldExchange k h fun _ hs hu => keep_writeFrame k p b w hs hu
  | stagedSettingWrite p b w => cases e; exact keep_heldExchange k h fun _ hs hu => keep_writeFrame k p b w hs hu
  | dumpRangeRecordWrite p b w => cases e; exact keep_heldExchange k h fun _ hs hu => keep_writeFrame k p b w hs hu
  | capture p b => cases e; exact keep_heldExchange k h fun _ _ hu => keep_readFrame k p b hu
  | counterCapture p b => cases e; exact keep_heldExchange k h fun _ _ hu => keep_readFrame k p b hu
  | latchCapture p b => cases e; exact keep_heldExchange k h fun _ _ hu => keep_readFrame k p b hu
  | noticeCapture p b => cases e; exact keep_heldExchange k h fun _ _ hu => keep_readFrame k p b hu
  | wearStatusCapture p b => cases e; exact keep_heldExchange k h fun _ _ hu => keep_readFrame k p b hu
  | dumpStreamRead p b => cases e; exact keep_heldExchange k h fun _ _ hu => keep_readFrame k p b hu
  | runStandby p => cases e; exact keep_heldExchange k h fun _ _ hu => keep_requestStandby k p hu
  | runActive p => cases e; exact keep_heldExchange k h fun _ _ hu => keep_requestActive k p hu
  | runHalt p => cases e; exact keep_heldExchange k h fun _ _ hu => keep_requestHalt k p hu
  | selfCheck p => cases e; exact keep_heldExchange k h fun _ _ hu => keep_requestSelfCheck k p hu
  | apply p => cases e; exact keep_heldExchange k h fun _ _ hu => keep_requestApply k p hu
  | discard p => cases e; exact keep_heldExchange k h fun _ _ hu => keep_requestDiscard k p hu
  | saveWear p => cases e; exact keep_heldExchange k h fun _ _ hu => keep_requestSaveWear k p hu
  | wearReset p o => cases e; exact keep_heldExchange k h fun _ _ hu => keep_requestWearReset k p o hu
  | trigger p => cases e; exact keep_heldExchange k h fun _ _ hu => k.fireTrigger _ hu
  | release p o => cases e; exact keep_heldExchange k h fun _ _ hu => keep_requestRelease k o hu
  | dumpSnapshot p o => cases e; exact keep_heldExchange k h fun _ _ hu => keep_requestDumpSnapshot k p o hu
  | dumpRange p => cases e; exact keep_heldExchange k h fun _ _ hu => keep_requestDumpRange k p hu
  | dumpCancel p => cases e; exact keep_heldExchange k h fun _ _ hu => keep_requestDumpCancel k p hu
  | cursorMode p o => cases e; exact keep_heldExchange k h fun _ _ hu => keep_requestCursorMode k p o hu
  | evaluation =>
    cases e
    refine keep_timed k h fun n t ht hn => k.evaluate _ ?_ hn
    unfold State.evaluationTimer at ht
    split at ht
    · next hr => exact Or.inl hr
    · next hr => exact Or.inr hr
    · cases ht
    · cases ht
  | linkDeadlineExpiry r => cases e; exact keep_timed k h fun _ _ _ hn => k.deadlineExpired _ r hn
  | slipHoldExpiry =>
    cases e
    refine keep_timed k h fun n t ht hn => k.slipExpired _ ?_ hn
    unfold State.slipExpiry at ht
    split_ifs at ht with hr
    exact hr
  | gensetTimerEnd t => cases e; exact keep_timed k h fun _ _ _ hn => hn
  | periodicCheckpointExpiry => cases e; exact keep_timed k h fun n t ht hn => k.periodicExpiry _ t ht hn
  | writeVerify f =>
    cases e
    refine keep_timed k h fun n t ht hn => k.verifyWrite _ f ?_ hn
    unfold State.writeEnd at ht
    split_ifs at ht with hr
    exact hr
  | eraseEnd f =>
    cases e
    refine keep_timed k h fun n t ht hn => k.verifyErase _ f ?_ hn
    unfold State.eraseEnd at ht
    split_ifs at ht with hr
    exact hr
  | sample => cases e; exact keep_timed k h fun _ _ _ hn => k.sampleEvent _ hn
  | powerFailure x =>
    simp only [exec, execPowerFailure] at e
    cases e
    split_ifs
    · exact k.loseSupply _ _ h
    · exact h

/-- Every step keeps what the operations keep. -/
theorem keep_step : Kept inv := by
  intro s t h e
  unfold step at e
  split at e
  · cases e
    unfold State.idle
    split_ifs
    · exact k.clock _ _ h
    · exact h
  · exact keep_exec k (k.queue _ _ h) e

end Sys2Proof.Machine
end

