-- ==== Sys2Proof/Laws/Effects.lean ====
section
/-! SUPPORT. What the shared operations do: the cause set, the latch sets, the hold line sampler, run control, the
recorder's sampling level and triggers. -/

namespace Sys2Proof.Machine

variable (s : State)

/-! ### Cause sets -/

theorem has_bit (c d : Cause) : BitVec.getLsbD c.bit d.code = decide (d = c) := by
  cases c <;> cases d <;> rfl

@[simp] theorem has_or_bit (x : CauseSet) (c d : Cause) :
    CauseSet.has (x ||| c.bit) d = (CauseSet.has x d || decide (d = c)) := by
  simp [CauseSet.has, BitVec.getLsbD_or, has_bit]

@[simp] theorem has_and_not_bit (x : CauseSet) (c d : Cause) :
    CauseSet.has (x &&& ~~~ c.bit) d = (CauseSet.has x d && !decide (d = c)) := by
  have h : d.code < 13 := by cases d <;> decide
  unfold CauseSet.has
  rw [BitVec.getLsbD_and, BitVec.getLsbD_not, has_bit, decide_eq_true h, Bool.true_and]

/-- Raising an active cause would leave the set as it is. -/
theorem or_bit_of_has {x : CauseSet} {c : Cause} (h : CauseSet.has x c = true) : x ||| c.bit = x := by
  apply BitVec.eq_of_getLsbD_eq
  intro i hi
  have h2 : c.bit.getLsbD i = decide (i = c.code) := by
    unfold Cause.bit
    have hc : c.code < 13 := by cases c <;> decide
    simp only [BitVec.getLsbD_shiftLeft, BitVec.getLsbD_one, hi, decide_true, Bool.true_and]
    by_cases hlt : i < c.code
    · have : i ≠ c.code := by omega
      simp [hlt, this]
    · by_cases he : i = c.code
      · subst he
        simp
      · have : i - c.code ≠ 0 := by omega
        simp [he, this]
  rw [BitVec.getLsbD_or, h2]
  by_cases he : i = c.code
  · subst he
    have h' : x.getLsbD c.code = true := h
    rw [h']
    rfl
  · simp [he]

@[simp] theorem raise_cut (c : Cause) : (s.raise c).cut = { s.cut with live := s.cut.live ||| c.bit } := by
  unfold State.raise
  split_ifs with h
  · have e : s.cut.live ||| c.bit = s.cut.live := or_bit_of_has h
    rw [e]
  · simp [State.markRaised]

/-- Clearing a cause that is not active would leave the set as it is. -/
theorem and_not_bit_of_not_has {x : CauseSet} {c : Cause} (h : CauseSet.has x c = false) :
    x &&& ~~~ c.bit = x := by
  apply BitVec.eq_of_getLsbD_eq
  intro i hi
  have hc : c.code < 13 := by cases c <;> decide
  have h2 : c.bit.getLsbD i = decide (i = c.code) := by
    unfold Cause.bit
    simp only [BitVec.getLsbD_shiftLeft, BitVec.getLsbD_one, hi, decide_true, Bool.true_and]
    by_cases hlt : i < c.code
    · have : i ≠ c.code := by omega
      simp [hlt, this]
    · by_cases he : i = c.code
      · subst he
        simp
      · have : i - c.code ≠ 0 := by omega
        simp [he, this]
  rw [BitVec.getLsbD_and, BitVec.getLsbD_not, h2]
  by_cases he : i = c.code
  · subst he
    have h' : x.getLsbD c.code = false := h
    rw [h']
    rfl
  · simp [he, hi]

@[simp] theorem clear_cut (c : Cause) : (s.clear c).cut = { s.cut with live := s.cut.live &&& ~~~ c.bit } := by
  unfold State.clear
  split_ifs with h
  · simp
  · have e : s.cut.live &&& ~~~ c.bit = s.cut.live := and_not_bit_of_not_has (Bool.eq_false_iff.mpr h)
    rw [e]

@[simp] theorem setSlipTimer_cut (t : SlipTimer) : (s.setSlipTimer t).cut = { s.cut with slipTimer := t } := rfl

theorem causeActive_of_cut {s t : State} (h : t.cut.live = s.cut.live) (c : Cause) :
    t.causeActive c = s.causeActive c := by
  simp [State.causeActive, h]

@[simp] theorem raise_causeActive (c d : Cause) :
    (s.raise c).causeActive d = (s.causeActive d || decide (d = c)) := by
  simp [State.causeActive]

@[simp] theorem clear_causeActive (c d : Cause) :
    (s.clear c).causeActive d = (s.causeActive d && !decide (d = c)) := by
  simp [State.causeActive]

@[simp] theorem setCause_causeActive (c d : Cause) (b : Bool) :
    (s.setCause c b).causeActive d = if d = c then b else s.causeActive d := by
  cases b <;> by_cases h : d = c <;> simp [State.setCause, h]

/-! ### The hold line sampler -/

/-- A level taken is remembered with its moment, and decides HOLD_LINE (R55). -/
@[simp] theorem takeLevel_cut (l : LineLevel) :
    (s.takeLevel l).cut = { s.cut with
      live := if l = .low then s.cut.live ||| Cause.holdLine.bit else s.cut.live &&& ~~~ Cause.holdLine.bit
      holdFrom := s.now
      holdLevel := some l } := by
  cases l <;> simp [State.takeLevel, State.setCause]

/-! ### Latch sets -/

@[simp] theorem markRaised_latch (c : Cause) (q : Port) :
    ((s.markRaised c).ports.get q).latch = (s.ports.get q).latch ||| c.bit := by
  simp [State.markRaised]

theorem raise_latch (c : Cause) (q : Port) :
    ((s.raise c).ports.get q).latch =
      if s.causeActive c then (s.ports.get q).latch else (s.ports.get q).latch ||| c.bit := by
  unfold State.raise
  split_ifs <;> simp

/-! ### Run control -/

@[simp] theorem changeRunState_rc (x : RunState) : (s.changeRunState x).rc = { s.rc with runState := x } := by
  simp [State.changeRunState]

@[simp] theorem releaseClaim_rc : s.releaseClaim.rc = { s.rc with claim := none } := by
  unfold State.releaseClaim
  split
  · next h => cases hr : s.rc; simp_all
  · simp

@[simp] theorem discardStaged_rc : s.discardStaged.rc = { s.rc with staged := s.rc.applied, claim := none } := by
  simp [State.discardStaged]

theorem discardUnbound_rc : s.discardUnbound.rc = s.rc ∨ s.discardUnbound.rc = s.discardStaged.rc := by
  unfold State.discardUnbound
  split
  · exact Or.inl rfl
  · split_ifs
    · exact Or.inr rfl
    · exact Or.inl rfl

theorem discardStale_rc (r : Role) :
    (s.discardStale r).rc = s.rc ∨ (s.discardStale r).rc = s.discardStaged.rc := by
  unfold State.discardStale
  split
  · exact Or.inl rfl
  · split_ifs
    · exact Or.inr rfl
    · exact Or.inl rfl

@[simp] theorem discardUnbound_rc_kept : s.discardUnbound.rc.runState = s.rc.runState ∧
    s.discardUnbound.rc.applied = s.rc.applied ∧ s.discardUnbound.rc.straps = s.rc.straps ∧
    s.discardUnbound.rc.checkEnd = s.rc.checkEnd ∧ s.discardUnbound.rc.checkDone = s.rc.checkDone ∧
    s.discardUnbound.rc.checkFail = s.rc.checkFail ∧ s.discardUnbound.rc.checkStep = s.rc.checkStep ∧
    s.discardUnbound.rc.checkRequested = s.rc.checkRequested := by
  rcases discardUnbound_rc s with h | h <;> rw [h] <;> simp

@[simp] theorem discardStale_rc_kept (r : Role) : (s.discardStale r).rc.runState = s.rc.runState ∧
    (s.discardStale r).rc.applied = s.rc.applied ∧ (s.discardStale r).rc.straps = s.rc.straps ∧
    (s.discardStale r).rc.checkEnd = s.rc.checkEnd ∧ (s.discardStale r).rc.checkDone = s.rc.checkDone ∧
    (s.discardStale r).rc.checkFail = s.rc.checkFail ∧ (s.discardStale r).rc.checkStep = s.rc.checkStep ∧
    (s.discardStale r).rc.checkRequested = s.rc.checkRequested := by
  rcases discardStale_rc s r with h | h <;> rw [h] <;> simp

/-! ### The recorder -/

/-- The return of the sampling level to RUN is a matter of the recorder and the clock alone (R165). -/
theorem returnLevel_eq : s.returnLevel = s.setRcd (s.rcd.returned s.now) := by
  unfold State.returnLevel Recorder.returned
  split_ifs <;> first | rfl | contradiction

/-- What a trigger does to the recorder follows from the recorder, the clock, the windows and the run state (R168). -/
theorem trigger_rcd_congr {s t : State} (c : TriggerCause) (hr : t.rcd = s.rcd) (hn : t.now = s.now)
    (ha : t.rc.applied = s.rc.applied) (hs : t.rc.runState = s.rc.runState) : (t.trigger c).rcd = (s.trigger c).rcd := by
  simp only [State.trigger, State.fireTrigger, returnLevel_eq, setRcd_rcd, hr, hn]
  cases (s.rcd.returned s.now).table.findId fun d => d.state == .collecting && d.cause == c with
  | some id => rfl
  | none =>
    split_ifs
    · rfl
    · cases (s.rcd.returned s.now).table.available with
      | none => simp
      | some id =>
        simp only [State.openSnapshot, State.completed, State.settleRecorder, setRcd_rcd, setRcd_rc, setRcd_now,
          noticeAll_untouched, ha, hs, hn]
        split_ifs <;> simp_all

/-! ### What the ports are told -/

theorem noticesWithin_refl (kinds : List NoticeKind) : State.NoticesWithin kinds s s :=
  fun _ _ => ⟨id, fun _ => rfl⟩

theorem noticesWithin_trans {kinds : List NoticeKind} {s t u : State} (h : State.NoticesWithin kinds s t)
    (g : State.NoticesWithin kinds t u) : State.NoticesWithin kinds s u :=
  fun p k => ⟨fun x => (g p k).1 ((h p k).1 x), fun x => ((g p k).2 x).trans ((h p k).2 x)⟩

theorem noticeBit_has (k j : NoticeKind) : k.bit.getLsbD j.code = decide (j = k) := by
  cases k <;> cases j <;> rfl

@[simp] theorem noticeAll_hasNotice (k j : NoticeKind) (p : Port) :
    ((s.noticeAll k).ports.get p).hasNotice j = ((s.ports.get p).hasNotice j || decide (j = k)) := by
  simp [State.noticeAll, PortState.hasNotice, PortState.addNotice, BitVec.getLsbD_or, noticeBit_has]

theorem levelRises_irrefl : ¬ s.LevelRises s := fun ⟨_, h⟩ => Nat.lt_irrefl _ h

theorem recordedAs_refl : s.RecordedAs s := ⟨rfl, fun _ => ⟨rfl, rfl, rfl⟩⟩

/-! ### Checkpoints (R153, R154, R156, R157) -/

/-- What an entry into fault makes of the store (R157). -/
@[simp] theorem storeFault_store : s.storeFault.store = { s.store with
    fault := true, phase := .idle, pendingFlag := false, current := noPorts, waiting := noPorts
    record := none, attempts := 0, endAt := none } := by
  simp [State.storeFault]

/-- An entry into fault, and what it tells (R157). -/
theorem storeFault_failed : Store.Failed s.store s.storeFault s.store.lastUsed :=
  ⟨by simp, by simp [State.storeFault, State.causeActive], fun p => by simp [State.storeFault]⟩

/-- Where no number is left, the last number used does not go back, and beyond the last one it stands (R156). -/
theorem nextSequence_none {used : Nat} {totals : PerItem Nat} (h : (nextSequence used totals).1 = none) :
    used ≤ (nextSequence used totals).2 ∧ (Config.lastSequence ≤ used → (nextSequence used totals).2 = used) := by
  unfold nextSequence at h ⊢
  split_ifs at h ⊢ with h1 h2 h3
  · exact ⟨Nat.le_refl _, fun _ => rfl⟩
  · exact ⟨Nat.le_succ _, fun h4 => absurd h4 h1⟩

theorem startCheckpoint_started : Store.Started s.store s.startCheckpoint.store s.totals s.now := by
  unfold State.startCheckpoint State.writeOrErase
  refine ⟨fun h => ?_, fun h n hn => ?_, fun h hn => ?_⟩
  · rw [if_neg (by simpa using h)]
    rfl
  · rw [if_pos (by simpa using h)]
    unfold State.writeAttempt
    have e : (nextSequence s.store.lastUsed s.totals) = (some n, (nextSequence s.store.lastUsed s.totals).2) := by
      rw [← hn]
    simp only [setStore_store, Store.recordTotals, Option.getD_some]
    rw [e]
    rfl
  · rw [if_pos (by simpa using h)]
    unfold State.writeAttempt
    have e : (nextSequence s.store.lastUsed s.totals) = (none, (nextSequence s.store.lastUsed s.totals).2) := by
      rw [← hn]
    simp only [setStore_store, Store.recordTotals, Option.getD_some]
    rw [e]
    exact ⟨by simp, by simpa using nextSequence_none hn⟩

/-- A checkpoint request does to the store what R153 and R154 give. -/
theorem requestCheckpoint_requested : Store.Requested s.store s.requestCheckpoint.store s.totals s.now := by
  unfold State.requestCheckpoint
  refine ⟨fun h => ?_, fun h hp => ?_, fun h hp => ?_⟩
  · rw [if_pos h]
  · rw [if_neg (by simp [h]), if_neg hp]
    rfl
  · rw [if_neg (by simp [h]), if_pos hp]
    exact startCheckpoint_started s

end Sys2Proof.Machine
end

