-- ==== Sys2Proof/Laws/Memory.lean ====
section
/-! SUPPORT. The journal as a memory: every operation keeps the canonical form, and what a read finds after it. -/

namespace Sys2Proof.Machine

/-! ### The canonical form by its head -/

/-- Every address of the memory is above `a`. -/
def Memory.above (a : Nat) (m : Memory) : Prop := ∀ c ∈ m, a < c.1

theorem Memory.above_nil (a : Nat) : Memory.above a [] := fun _ h => absurd h (List.not_mem_nil)

theorem Memory.wf_cons (c : Nat × Word) (m : Memory) :
    Memory.wf (c :: m) = true ↔ c.2 ≠ Config.erasedWord ∧ Memory.above c.1 m ∧ Memory.wf m = true := by
  induction m generalizing c with
  | nil => simp [Memory.wf, Memory.above]
  | cons d rest ih =>
    rw [Memory.wf]
    simp only [Bool.and_eq_true, decide_eq_true_eq, bne_iff_ne, ne_eq]
    constructor
    · rintro ⟨⟨h1, h2⟩, h3⟩
      refine ⟨h2, ?_, h3⟩
      have h4 := (ih d).mp h3
      intro x hx
      rcases List.mem_cons.mp hx with rfl | hx
      · exact h1
      · exact Nat.lt_trans h1 (h4.2.1 x hx)
    · rintro ⟨h1, h2, h3⟩
      exact ⟨⟨h2 d (List.mem_cons_self), h1⟩, h3⟩

@[simp] theorem Memory.wf_nil : Memory.wf [] = true := rfl

theorem Memory.above_mono {a b : Nat} (h : a ≤ b) {m : Memory} (hm : Memory.above b m) : Memory.above a m :=
  fun c hc => Nat.lt_of_le_of_lt h (hm c hc)

theorem Memory.read_of_above {a b : Nat} {m : Memory} (h : Memory.above a m) (hb : b ≤ a) :
    m.read b = Config.erasedWord := by
  induction m with
  | nil => rfl
  | cons c rest ih =>
    obtain ⟨x, w⟩ := c
    have h1 : a < x := h (x, w) (List.mem_cons_self)
    rw [Memory.read, if_neg (by omega)]
    exact ih fun c hc => h c (List.mem_cons_of_mem _ hc)

/-! ### Writing one word -/

theorem Memory.above_write {a b : Nat} {w : Word} {m : Memory} (h : Memory.above a m) (hb : a < b) :
    Memory.above a (m.write b w) := by
  induction m with
  | nil =>
    rw [Memory.write]
    split_ifs
    · exact Memory.above_nil a
    · intro c hc
      rw [List.mem_singleton] at hc
      subst hc
      exact hb
  | cons d rest ih =>
    obtain ⟨x, v⟩ := d
    have hx : a < x := h (x, v) (List.mem_cons_self)
    have hr : Memory.above a rest := fun c hc => h c (List.mem_cons_of_mem _ hc)
    rw [Memory.write]
    split_ifs with h1 h2 h3 h4
    · exact h
    · intro c hc
      rcases List.mem_cons.mp hc with rfl | hc
      · exact hb
      · exact h c hc
    · exact hr
    · intro c hc
      rcases List.mem_cons.mp hc with rfl | hc
      · exact hx
      · exact hr c hc
    · intro c hc
      rcases List.mem_cons.mp hc with rfl | hc
      · exact hx
      · exact ih hr c hc

/-- A write keeps the canonical form. -/
theorem Memory.write_wf {m : Memory} (a : Nat) (w : Word) (h : m.wf = true) : (m.write a w).wf = true := by
  induction m with
  | nil =>
    rw [Memory.write]
    split_ifs with h1
    · rfl
    · rw [Memory.wf_cons]
      exact ⟨h1, Memory.above_nil a, rfl⟩
  | cons d rest ih =>
    obtain ⟨x, v⟩ := d
    obtain ⟨h1, h2, h3⟩ := (Memory.wf_cons _ _).mp h
    rw [Memory.write]
    split_ifs with h4 h5 h6 h7
    · exact h
    · rw [Memory.wf_cons]
      refine ⟨h5, ?_, h⟩
      intro c hc
      rcases List.mem_cons.mp hc with rfl | hc
      · exact h4
      · exact Nat.lt_trans h4 (h2 c hc)
    · exact h3
    · rw [Memory.wf_cons]
      exact ⟨h7, h2, h3⟩
    · rw [Memory.wf_cons]
      exact ⟨h1, Memory.above_write h2 (show x < a by omega), ih h3⟩

/-- A read of the address written finds the word written. -/
theorem Memory.read_write_same {m : Memory} (a : Nat) (w : Word) (h : m.wf = true) : (m.write a w).read a = w := by
  induction m with
  | nil =>
    rw [Memory.write]
    split_ifs with h1
    · exact h1.symm
    · rw [Memory.read, if_pos rfl]
  | cons d rest ih =>
    obtain ⟨x, v⟩ := d
    obtain ⟨h1, h2, h3⟩ := (Memory.wf_cons _ _).mp h
    rw [Memory.write]
    split_ifs with h4 h5 h6 h7
    · rw [h5, Memory.read, if_neg (by omega)]
      exact Memory.read_of_above h2 (show a ≤ x by omega)
    · rw [Memory.read, if_pos rfl]
    · rw [h7]
      exact Memory.read_of_above h2 (show a ≤ x by omega)
    · rw [Memory.read, if_pos h6]
    · rw [Memory.read, if_neg h6]
      exact ih h3

/-- A read of another address finds what it found before. -/
theorem Memory.read_write_other (m : Memory) {a b : Nat} (w : Word) (h : b ≠ a) :
    (m.write a w).read b = m.read b := by
  induction m with
  | nil =>
    rw [Memory.write]
    split_ifs with h1
    · rfl
    · simp [Memory.read, h]
  | cons d rest ih =>
    obtain ⟨x, v⟩ := d
    rw [Memory.write]
    split_ifs with h4 h5 h6 h7
    · rfl
    · rw [Memory.read, if_neg h]
    · rw [Memory.read, if_neg (by omega)]
    · rw [Memory.read, Memory.read, if_neg (by omega), if_neg (by omega)]
    · rw [Memory.read, Memory.read, ih]

/-! ### Writing and reading several words -/

theorem Memory.writeList_wf (ws : List Word) : ∀ {m : Memory} (a : Nat), m.wf = true → (m.writeList a ws).wf = true := by
  induction ws with
  | nil => exact fun _ h => h
  | cons w ws ih => exact fun a h => ih (a + 1) (Memory.write_wf a w h)

/-- A read outside the words written finds what it found before. -/
theorem Memory.read_writeList_outside (ws : List Word) : ∀ (m : Memory) (a b : Nat), b < a ∨ a + ws.length ≤ b →
    (m.writeList a ws).read b = m.read b := by
  induction ws with
  | nil => exact fun _ _ _ _ => rfl
  | cons w ws ih =>
    intro m a b h
    rw [List.length_cons] at h
    rw [Memory.writeList, ih _ _ _ (by omega), Memory.read_write_other _ _ (by omega)]

/-- A read of a word written finds it. -/
theorem Memory.read_writeList_inside (ws : List Word) : ∀ {m : Memory} (a k : Nat) (d : Word), m.wf = true →
    k < ws.length → (m.writeList a ws).read (a + k) = ws.getD k d := by
  induction ws with
  | nil => exact fun _ k _ _ h => absurd h (Nat.not_lt_zero k)
  | cons w ws ih =>
    intro m a k d hm h
    rw [Memory.writeList]
    cases k with
    | zero =>
      rw [Memory.read_writeList_outside _ _ _ _ (by omega)]
      exact Memory.read_write_same a w hm
    | succ k =>
      rw [List.length_cons] at h
      have h1 := ih (m := m.write a w) (a + 1) k d (Memory.write_wf a w hm) (by omega)
      rw [show a + (k + 1) = a + 1 + k by omega, h1]
      rfl

@[simp] theorem Memory.readList_length (m : Memory) (a n : Nat) : (m.readList a n).length = n := by
  simp [Memory.readList]

theorem Memory.readList_congr {m n : Memory} {a k : Nat} (h : ∀ j, j < k → m.read (a + j) = n.read (a + j)) :
    m.readList a k = n.readList a k := by
  unfold Memory.readList
  refine List.map_congr_left fun j hj => ?_
  exact h j (List.mem_range.mp hj)

/-! ### Erasing -/

theorem Memory.above_filter {a : Nat} {m : Memory} (p : Nat × Word → Bool) (h : Memory.above a m) :
    Memory.above a (m.filter p) := fun c hc => h c (List.mem_of_mem_filter hc)

theorem Memory.filter_wf (p : Nat × Word → Bool) : ∀ {m : Memory}, m.wf = true → Memory.wf (m.filter p) = true := by
  intro m
  induction m with
  | nil => exact fun _ => rfl
  | cons c rest ih =>
    intro h
    obtain ⟨h1, h2, h3⟩ := (Memory.wf_cons _ _).mp h
    rw [List.filter_cons]
    split_ifs
    · rw [Memory.wf_cons]
      exact ⟨h1, Memory.above_filter p h2, ih h3⟩
    · exact ih h3

/-- An erase keeps the canonical form. -/
theorem Memory.erase_wf {m : Memory} (a n : Nat) (h : m.wf = true) : (m.erase a n).wf = true :=
  Memory.filter_wf _ h

/-- A read outside the words erased finds what it found before. -/
theorem Memory.read_erase_outside (m : Memory) {a n b : Nat} (h : b < a ∨ a + n ≤ b) : (m.erase a n).read b = m.read b := by
  induction m with
  | nil => rfl
  | cons c rest ih =>
    obtain ⟨x, v⟩ := c
    unfold Memory.erase at ih ⊢
    rw [List.filter_cons]
    split_ifs with h1
    · rw [Memory.read, Memory.read, ih]
    · rw [ih, Memory.read, if_neg]
      rintro rfl
      apply h1
      simp only [Bool.or_eq_true, decide_eq_true_eq]
      exact h

/-- A read of a word erased finds FFFFh. -/
theorem Memory.read_erase_inside (m : Memory) {a n b : Nat} (h : a ≤ b ∧ b < a + n) :
    (m.erase a n).read b = Config.erasedWord := by
  induction m with
  | nil => rfl
  | cons c rest ih =>
    obtain ⟨x, v⟩ := c
    unfold Memory.erase at ih ⊢
    rw [List.filter_cons]
    split_ifs with h1
    · simp only [Bool.or_eq_true, decide_eq_true_eq] at h1
      rw [Memory.read, if_neg (by omega), ih]
    · exact ih

/-! ### The journal of the store -/

theorem State.reset_journal_wf : State.reset.store.journal.wf = true := rfl

/-- A write in flight, cut off or whole, keeps the journal canonical. -/
theorem Store.journalWritten_wf {x : Store} (n : Nat) (f : CellFaults) (h : x.journal.wf = true) :
    (x.journalWritten n f).wf = true := Memory.writeList_wf _ _ h

@[simp] theorem withFaults_length (f : CellFaults) (ws : List Word) : (withFaults f ws).length = ws.length := by
  simp [withFaults]

@[simp] theorem withFaults_nil (ws : List Word) : withFaults [] ws = ws := by
  unfold withFaults
  simp only [List.find?_nil, Option.map_none, Option.getD_none]
  exact List.zipIdx_map_fst 0 ws

@[simp] theorem recordBody_length (n : Nat) (t : PerItem Nat) : (recordBody n t).length = 12 := rfl

@[simp] theorem journalRecord_length (n : Nat) (t : PerItem Nat) : (journalRecord n t).length = 13 := rfl

@[simp] theorem Store.intended_length (x : Store) : x.intended.length = 13 := rfl

theorem Store.journalWritten_outside (x : Store) {n : Nat} (f : CellFaults) {b : Nat} (hn : n ≤ 13)
    (h : b < slotAddress x.active x.pos ∨ slotAddress x.active x.pos + n ≤ b) :
    (x.journalWritten n f).read b = x.journal.read b := by
  unfold Store.journalWritten
  apply Memory.read_writeList_outside
  simp only [withFaults_length, List.length_zipWith, List.length_take, Store.intended_length, Memory.readList_length]
  omega

/-- Words of a slot written without cell faults: the meant word clears bits of the word before. -/
theorem Store.journalWritten_inside {x : Store} {n k : Nat} (hn : n ≤ 13) (hk : k < n) (h : x.journal.wf = true) :
    (x.journalWritten n []).read (slotAddress x.active x.pos + k) =
      x.intended.getD k 0#16 &&& x.journal.read (slotAddress x.active x.pos + k) := by
  unfold Store.journalWritten
  have hl : k < (withFaults [] ((x.intended.take n).zipWith (· &&& ·)
      (x.journal.readList (slotAddress x.active x.pos) n))).length := by
    simp only [withFaults_length, List.length_zipWith, List.length_take, Store.intended_length, Memory.readList_length]
    omega
  rw [Memory.read_writeList_inside _ _ k 0#16 h hl]
  rw [withFaults_nil] at hl ⊢
  rw [List.getD_eq_getElem _ _ hl, List.getElem_zipWith, List.getElem_take]
  have hk13 : k < x.intended.length := by
    rw [Store.intended_length]
    omega
  rw [List.getD_eq_getElem _ _ hk13]
  simp [Memory.readList]

/-! ### The CRC of R149 is that of its words fed bit by bit -/

theorem crcShift_step (c w : BitVec 16) :
    (if (c ^^^ w).msb then ((c ^^^ w) <<< 1) ^^^ 0x1021#16 else (c ^^^ w) <<< 1) = crcBit c w.msb ^^^ (w <<< 1) := by
  unfold crcBit
  rw [BitVec.shiftLeft_xor_distrib, BitVec.msb_xor]
  split_ifs <;> ac_rfl

theorem crcShift_eq_bits (k : Nat) : ∀ c w : BitVec 16, crcShift k (c ^^^ w) =
    ((List.range k).map fun i => w.getMsbD i).foldl crcBit c ^^^ (w <<< k) := by
  induction k with
  | zero => simp [crcShift]
  | succ k ih =>
    intro c w
    rw [crcShift, crcShift_step, ih, List.range_succ_eq_map]
    simp only [List.map_cons, List.map_map, List.foldl_cons, BitVec.msb_eq_getMsbD_zero]
    congr 1
    · congr 1
      apply List.map_congr_left
      intro i _
      simp [Function.comp, BitVec.getMsbD_shiftLeft]
    · rw [← BitVec.shiftLeft_add, Nat.add_comm]

theorem crc_eq_serialCrc (words : List Word) : crc words = serialCrc words := by
  unfold crc serialCrc
  generalize (0xFFFF#16) = c
  induction words generalizing c with
  | nil => rfl
  | cons w ws ih =>
    simp only [List.foldl_cons, List.flatMap_cons, List.foldl_append]
    rw [ih, crcShift_eq_bits 16 c w]
    simp

end Sys2Proof.Machine
end

