-- ==== Sys2Proof/Tests/Slice0.lean ====
section
/-! SUPPORT. The author's tests: ill-formed commands refused, worked values of the spec, and for every statement with hypotheses
a state and operands that meet them. -/

namespace Sys2Proof.Tests

open Sys2Proof Sys2Proof.Machine

/-! ### Ill-formed commands are refused -/

theorem test_too_many_words_refused : (Instr.powerFailure ⟨14, []⟩).wellFormed = false := by decide

theorem test_thirteen_words_taken : (Instr.powerFailure ⟨13, []⟩).wellFormed = true := by decide

theorem test_cell_beyond_slot_refused : (Instr.resetAssert ⟨3, [(13, 0#16)]⟩).wellFormed = false := by decide

theorem test_cells_out_of_order_refused : (Instr.writeVerify [(4, 0#16), (4, 1#16)]).wellFormed = false := by decide

theorem test_cell_beyond_segment_refused : (Instr.eraseEnd [(416, 0#16)]).wellFormed = false := by decide

theorem test_erased_cell_fault_refused : (Instr.eraseEnd [(0, 0xFFFF#16)]).wellFormed = false := by decide

/-! ### Frames written out from R194 -/

/-- POLL is 32 bits of 0. -/
theorem test_decode_poll : decodeFrame .p0 0#10 0#10 0x00000000#32 = .poll .p0 := by decide

/-- CURSOR to 010h: 0001 0 0000010000 0000000000000000 0 has two ones. -/
theorem test_decode_cursor : decodeFrame .p1 0#10 0#10 0x10200000#32 = .cursor .p1 0x010#10 0#16 := by decide

/-- READ with advance at the status record: 0010 1, even. -/
theorem test_decode_read : decodeFrame .p2 0x040#10 0#10 0x28000000#32 = .capture .p2 true := by decide

/-- WRITE of 0001h with advance into a report region: 0011 1, payload bit 1, even. -/
theorem test_decode_write : decodeFrame .p4 0#10 0x030#10 0x38000002#32 = .reportWordWrite .p4 true 1#16 := by decide

/-- RELEASE 1 is 0100 0 01001 00001 with four ones. -/
theorem test_decode_release : decodeFrame .p3 0#10 0#10 0x42420000#32 = .release .p3 1#5 := by decide

/-- One bit turned over, and request code 14. -/
theorem test_decode_bad :
    decodeFrame .p0 0#10 0#10 0x00000001#32 = .badframe .p0 0#4 ∧
      decodeFrame .p0 0#10 0#10 0x43800000#32 = .badframe .p0 4#4 ∧
      decodeFrame .p0 0#10 0#10 0x50000000#32 = .badframe .p0 5#4 := by decide

/-! ### Worked values of the spec -/

/-- R71: a rise by up_drive, a release that stops at 0, a build of regen. -/
theorem test_ramp :
    ramp .defaults 100 500 = 130 ∧ ramp .defaults 40 (-700) = 0 ∧ ramp .defaults 0 (-700) = -60 ∧
      ramp .defaults (-100) 700 = 0 ∧ ramp .defaults 50 50 = 50 := by decide

/-- Chapter 4's headroom on the floor: 100.0 kW gives 3183 N·m, capped at 3000; 10.0 kW gives 318 N·m. -/
theorem test_torque_from_power : torqueFromPower 1000 300 = 3000 ∧ torqueFromPower 100 300 = 318 := by decide

/-- R64 and R65 at the ends and the middle of their bands. -/
theorem test_tapers :
    dischargeTaper 3000 1000 1000 2500 = 0 ∧ dischargeTaper 3000 1750 1000 2500 = 1500 ∧
      dischargeTaper 3000 2500 1000 2500 = 3000 ∧ chargeTaper 2000 8500 8500 9500 = 2000 ∧
      chargeTaper 2000 9000 8500 9500 = 1000 ∧ chargeTaper 2000 9500 8500 9500 = 0 := by decide

/-- R85. -/
theorem test_fade : fadeLimit 80 30 80 = 3000 ∧ fadeLimit 30 30 80 = 0 ∧ fadeLimit 40 30 80 = 600 := by decide

/-- The table of R132. -/
theorem test_thermal_levels :
    settledLevel .normal 299 = .normal ∧ settledLevel .normal 300 = .warm ∧ settledLevel .warm 290 = .warm ∧
      settledLevel .warm 279 = .normal ∧ settledLevel .warm 470 = .hot ∧ settledLevel .hot 612 = .critical ∧
      settledLevel .critical 580 = .critical ∧ settledLevel .critical 579 = .hot ∧
      settledLevel .critical 420 = .warm := by decide

/-- Chapter 7's worked sequence: the motor power of its evaluations. -/
theorem test_motor_power : motorPower 955 1500 = 1500 ∧ motorPower (-400) 1500 = -628 := by decide

/-- R125 at the end of the range. -/
theorem test_saturation :
    Flow.add ⟨2147483640, false⟩ 7 = ⟨2147483647, false⟩ ∧ Flow.add ⟨2147483640, false⟩ 8 = ⟨2147483647, true⟩ ∧
      Flow.add ⟨2147483647, true⟩ (-5) = ⟨2147483647, true⟩ := by decide

/-- R31: 47 stores 40 and 3 stores 10. -/
theorem test_deadline_setting :
    (SettingId.deadline .brake).clamped 47 = 40 ∧ (SettingId.deadline .brake).clamped 3 = 10 := by decide

/-- R198: the first and the last offsets of the settings region, and the gap between them. -/
theorem test_setting_addresses :
    settingAt 0 = some (.one .socMin) ∧ settingAt 0x24 = some (.high .tau) ∧ settingAt 0x35 = some (.one (.post .manual)) ∧
      settingAt 0x36 = none ∧ settingAt 0x40 = some (.high (.threshold .liningFront 0)) ∧
      settingAt 0x5D = some (.low (.threshold .gensetStarts 2)) ∧ settingAt 0x5E = none := by decide

/-- R27: the first enumeration field outside its codes. -/
theorem test_enumeration_refused :
    firstOutside .vehicle [0#16, 0#16, 2#16, 3#16, 2#16, 0#16] = some 3 ∧
      firstOutside .genset [5#16, 0#16, 0#16, 0#16] = none := by decide

/-- R28: a speed of 1200 and a negative friction power are clamped, bits 0 and 4. -/
theorem test_clamped_set :
    clampedSet .brake [1200#16, 0#16, 0#16, 0#16, 0xFFFF#16, 0#16] = 0x11#6 ∧
      reportValues .brake [1200#16, 0#16, 0#16, 0#16, 0xFFFF#16, 0#16] = [1000, 0, 0, 0, 0, 0] := by decide

/-- The check value of the CRC of R149 over the bytes "12345678". -/
theorem test_crc : crc [0x3132#16, 0x3334#16, 0x3536#16, 0x3738#16] = 0xA12B#16 := by
  decide +kernel

/-- R3: two ports that ask for one role are both unbound, and the binding is not complete. -/
theorem test_duplicate_straps :
    boundRole ⟨1#3, 1#3, 3#3, 4#3, 5#3⟩ .p0 = none ∧ strapDuplicate ⟨1#3, 1#3, 3#3, 4#3, 5#3⟩ .p1 = true ∧
      boundRole ⟨1#3, 1#3, 3#3, 4#3, 5#3⟩ .p4 = some .brake ∧
      bindingComplete ⟨1#3, 1#3, 3#3, 4#3, 5#3⟩ = false ∧ bindingComplete ⟨1#3, 2#3, 3#3, 4#3, 5#3⟩ = true := by decide

/-- R1 to R4: codes 6 and 7 are invalid and no duplicates of one another, code 0 is neither. -/
theorem test_invalid_straps :
    strapInvalid ⟨6#3, 6#3, 7#3, 0#3, 5#3⟩ .p0 = true ∧ strapInvalid ⟨6#3, 6#3, 7#3, 0#3, 5#3⟩ .p2 = true ∧
      strapDuplicate ⟨6#3, 6#3, 7#3, 0#3, 5#3⟩ .p0 = false ∧ strapInvalid ⟨6#3, 6#3, 7#3, 0#3, 5#3⟩ .p3 = false ∧
      boundRole ⟨6#3, 6#3, 7#3, 0#3, 5#3⟩ .p3 = none ∧ boundRole ⟨6#3, 6#3, 7#3, 0#3, 5#3⟩ .p4 = some .brake := by decide

/-- The same check value by the bitwise CRC. -/
theorem test_serial_crc : serialCrc [0x3132#16, 0x3334#16, 0x3536#16, 0x3738#16] = 0xA12B#16 := by decide +kernel

/-- R156: the next number, the number passed over for its CRC, and the last of the numbers. -/
theorem test_next_sequence :
    nextSequence 0 ⟨0, 0, 0, 0, 0⟩ = (some 1, 1) ∧ nextSequence 0 ⟨0, 0, 0, 0, 50532⟩ = (some 2, 2) ∧
      nextSequence 4294967293 ⟨0, 0, 0, 0, 44136⟩ = (none, 4294967294) ∧
      nextSequence 4294967294 ⟨0, 0, 0, 0, 0⟩ = (none, 4294967294) := by decide +kernel

/-! ### Small states -/

/-- VEHICLE, GENSET, STORAGE, TRACTION and BRAKE at P0 to P4. -/
def bus : PerPort (BitVec 3) := ⟨1#3, 2#3, 3#3, 4#3, 5#3⟩

/-- BRAKE's port strapped with no role. -/
def fourRoles : PerPort (BitVec 3) := ⟨1#3, 2#3, 3#3, 4#3, 0#3⟩

/-- The part after reset, in a run state, with straps. -/
def strapped (x : RunState) (straps : PerPort (BitVec 3)) : State :=
  State.reset.setRc { State.reset.rc with straps := straps, runState := x, checkEnd := none }

/-- The part on a whole bus, in a run state. -/
def inState (x : RunState) : State := strapped x bus

def cursorAt (a : Address) (p : Port) (s : State) : State := s.modPort p fun x => { x with cursors := .joined a }

def assembling (a : Assembly) (p : Port) (s : State) : State := s.modPort p fun x => { x with assembly := some a }

def holdingRecord (h : Holding) (p : Port) (s : State) : State := s.modPort p fun x => { x with holding := some h }

def dumping (d : DumpContext) (p : Port) (s : State) : State := s.modPort p fun x => { x with dump := d }

def claimed (p : Port) (s : State) : State := s.setRc { s.rc with claim := some p }

def evaluating (x : RunState) : State := (inState x).setSplit { (inState x).split with evalDue := some 10 }

def storing (x : StorePhase) (s : State) : State :=
  s.setStore { s.store with phase := x, endAt := some 20, record := some ⟨1, 2, 3, 4, 5⟩, attempts := 1, lastUsed := 1 }

def withTable (t : SnapshotTable) (state : RecorderState) (next : Nat) (s : State) : State :=
  s.setRcd { s.rcd with table := t, state := state, next := next, empty := next == 0, due := some 20 }

def descriptor (x : DescriptorState) (c : TriggerCause) (first last : Nat) : Descriptor := ⟨x, c, first, first, last, 0, false⟩

/-- Ready for the last word of a report of zeros. -/
def completing (r : Role) (a : Address) (p : Port) (x : RunState) : State :=
  assembling ⟨.report r, List.replicate (reportLength r - 1) 0#16⟩ p (cursorAt a p (inState x))

/-- A moving and a stopped bus: v 10 and v 9, with BRAKE alive. -/
def atSpeed (v : Int) (x : RunState) : State :=
  (inState x).setEnv { (inState x).env with brake := { (inState x).env.brake with v := v } }

/-! ### One step of each kind -/

/-- A passing self-check after reset enters HALTED and starts the first checkpoint. -/
theorem test_self_check_end :
    (match exec (.selfCheckEnd ⟨false, false, false, false⟩) State.reset with
      | .next t => decide (t.rc.runState = .halted ∧ t.rc.checkDone = true ∧ t.rc.checkFail = false ∧ t.now = 2 ∧
          t.store.phase = .writing ∧ t.store.lastUsed = 1 ∧ t.drivesHold = false)
      | .fault _ => false
      | .refused _ => false) = true := by decide +kernel

/-- RUN_STANDBY on a whole bus. -/
theorem test_run_standby :
    (match exec (.runStandby .p0) (inState .halted) with
      | .next t => decide (t.rc.runState = .standby ∧ (t.ports.get .p0).response.result = .ok ∧
          t.split.evalDue = some 10 ∧ (t.env.book.get .brake).deadline = some 120)
      | .fault _ => false
      | .refused _ => false) = true := by decide +kernel

/-- A staged deadline of 47 is stored as 40, and the claim is taken. -/
theorem test_staged_write :
    (match exec (.stagedSettingWrite .p0 true 47#16) (cursorAt 0x214#10 .p0 (inState .halted)) with
      | .next t => decide (t.rc.staged.deadline.vehicle = 40 ∧ t.rc.claim = some .p0 ∧
          (t.ports.get .p0).response.payload = 40#16 ∧ (t.ports.get .p0).cursors = .joined 0x215#10)
      | .fault _ => false
      | .refused _ => false) = true := by decide +kernel

/-- A commit of a BRAKE report with the slip flag shows SLIP as the headline once DOOR_INTERLOCK is behind it. -/
theorem test_slip_headline :
    (match exec (.reportWordWrite .p4 true 0#16)
        (assembling ⟨.report .brake, [0#16, 0#16, 1#16, 0#16, 0#16]⟩ .p4 (cursorAt 0x35#10 .p4 (inState .active))) with
      | .next t => decide ((t.ports.get .p4).response.headline = 7#5 ∧ t.cut.slipTimer = .running 300)
      | .fault _ => false
      | .refused _ => false) = true := by decide +kernel

/-- A refused WRITE of an enumeration: VALUE with the offset. -/
theorem test_report_refused :
    (match exec (.reportWordWrite .p4 true 0#16)
        (assembling ⟨.report .brake, [0#16, 0#16, 2#16, 0#16, 0#16]⟩ .p4 (cursorAt 0x35#10 .p4 (inState .active))) with
      | .next t => decide ((t.ports.get .p4).response.result = .value ∧ (t.ports.get .p4).response.payload = 2#16 ∧
          (t.ports.get .p4).assembly = none ∧ t.env = State.reset.env)
      | .fault _ => false
      | .refused _ => false) = true := by decide +kernel

/-- The identification word 001h. -/
theorem test_read_part_number :
    (match exec (.capture .p3 true) (cursorAt 0x001#10 .p3 (inState .standby)) with
      | .next t => decide ((t.ports.get .p3).response.payload = 0x0208#16 ∧ (t.ports.get .p3).cursors = .joined 2#10)
      | .fault _ => false
      | .refused _ => false) = true := by decide +kernel

/-- The first sample after an entry to RECORDING. -/
theorem test_first_sample :
    (match exec .sample (withTable State.reset.rcd.table .recording 0 (inState .standby)) with
      | .next t => decide (t.rcd.next = 1 ∧ t.now = 20 ∧ t.rcd.ring.map Sample.number = [0] ∧ t.rcd.due = some 40)
      | .fault _ => false
      | .refused _ => false) = true := by decide +kernel

/-- An erase whose cells all read FFFFh makes the other segment active and begins the write. -/
theorem test_erase_end :
    (match exec (.eraseEnd []) (storing .erasing (inState .standby)) with
      | .next t => decide (t.store.active = .seg1 ∧ t.store.phase = .writing ∧ t.store.lastUsed = 2 ∧ t.now = 20)
      | .fault _ => false
      | .refused _ => false) = true := by decide +kernel

/-- A record write that verifies ends the checkpoint. -/
theorem test_write_verify :
    (match exec (.writeVerify []) (storing .writing (inState .standby)) with
      | .next t => decide (t.store.phase = .idle ∧ t.store.lastVerified = 1 ∧ t.store.pos = 1 ∧
          t.store.journal.wf = true ∧ t.store.journal.read 3 = 1#16)
      | .fault _ => false
      | .refused _ => false) = true := by decide +kernel

/-- A record write with a cell fault is tried again in the next slot. -/
theorem test_write_fails :
    (match exec (.writeVerify [(5, 0#16)]) (storing .writing (inState .standby)) with
      | .next t => decide (t.store.phase = .writing ∧ t.store.attempts = 2 ∧ t.store.lastUsed = 2 ∧ t.store.pos = 1)
      | .fault _ => false
      | .refused _ => false) = true := by decide +kernel

/-- A low level taken at the release of the driver, and a high one 1 ms after it at the earliest (R55). -/
theorem test_hold_line_levels :
    (match exec (.holdLineSample .low) (inState .halted) with
      | .next t =>
        (match exec (.holdLineSample .high) t with
          | .next u => decide (t.now = 1 ∧ t.causeActive .holdLine = true ∧ u.now = 2 ∧ u.causeActive .holdLine = false)
          | .fault _ => false
          | .refused _ => false)
      | .fault _ => false
      | .refused _ => false) = true := by decide +kernel

/-- A slot with a right CRC whose words 0 and 1 carry no number is no record (entry 39). -/
theorem test_unnumbered_slot_is_no_record :
    newestRecord [⟨.seg0, 0, false, true, List.replicate 13 0xFFFF#16⟩] = none ∧
      highestNumber [⟨.seg0, 0, false, true, List.replicate 13 0xFFFF#16⟩] = 0 := by decide

/-- R139 at a commit: the 60000th start raises the level of GENSET_STARTS, with its notice and its checkpoint. -/
theorem test_level_rises_at_commit :
    let s := (inState .standby).setWear { (inState .standby).wear with
      items := (inState .standby).wear.items.set .gensetStarts ⟨59999, 0, 0, true⟩ }
    (match exec (.reportWordWrite .p1 true 0#16)
        (assembling ⟨.report .genset, [1#16, 0#16, 0#16]⟩ .p1 (cursorAt 0x1B#10 .p1 s)) with
      | .next t => decide (t.wear.items.gensetStarts.level = 1 ∧ (t.ports.get .p4).hasNotice .wearLevel = true ∧
          t.store.phase = .writing ∧ t.store.record = some ⟨0, 0, 0, 0, 60000⟩ ∧ t.cut.live = s.cut.live)
      | .fault _ => false
      | .refused _ => false) = true := by decide +kernel

/-- R145: the fall of a level at WEAR_RESET sends WEAR_LEVEL. -/
theorem test_wear_reset_notice :
    (match exec (.wearReset .p0 3#5) ((inState .halted).setWear { (inState .halted).wear with
        items := (inState .halted).wear.items.set .battery ⟨5000000, 7, 1, true⟩ }) with
      | .next t => decide (t.wear.items.battery = ⟨0, 0, 0, true⟩ ∧ (t.ports.get .p2).hasNotice .wearLevel = true)
      | .fault _ => false
      | .refused _ => false) = true := by decide +kernel

/-- R156: a mismatch, and an erase that ends, with no sequence number left. -/
theorem test_no_number_left :
    let s := (storing .writing (inState .standby)).setStore
      { (storing .writing (inState .standby)).store with lastUsed := 4294967294 }
    (match exec (.writeVerify [(5, 0#16)]) s with
      | .next t => decide (t.store.fault = true ∧ t.causeActive .wearStoreFault = true ∧ t.store.phase = .idle)
      | .fault _ => false
      | .refused _ => false) = true ∧
    (match exec (.eraseEnd []) (s.setStore { s.store with phase := .erasing }) with
      | .next t => decide (t.store.fault = true ∧ t.store.active = .seg1 ∧ (t.ports.get .p0).hasNotice .storeFault = true)
      | .fault _ => false
      | .refused _ => false) = true := by decide +kernel

/-- A zone that begins at or below the margin while the genset runs raises ZONE_BREACH with its notice (R117). -/
theorem test_zone_notice :
    let s := (inState .active).setGen { (inState .active).gen with mgr := .run }
    let t := (s.setEnv { s.env with vehicle := { s.env.vehicle with zone := true } }).zoneAtCommit
    s.causeActive .zoneBreach = false ∧ t.causeActive .zoneBreach = true ∧
      (t.ports.get .p3).hasNotice .zoneBreach = true ∧ (t.ports.get .p3).hasNotice .cutbackChange = true := by decide

/-- In a zone ZONE_BREACH stands through STOP_REQUESTED and ends at the entry to OFF (R117). -/
theorem test_zone_breach_stands :
    let s := (((evaluating .active).setGen { (evaluating .active).gen with mgr := .stopRequested }).setCut
      ⟨0x800#13, .idle, 0, none⟩).setEnv { (evaluating .active).env with
        vehicle := { (evaluating .active).env.vehicle with zone := true } }
    let running := s.setEnv { s.env with genset := { s.env.genset with state := .ready } }
    running.gensetStep.gen.mgr = .stopRequested ∧ running.gensetStep.causeActive .zoneBreach = true ∧
      s.gensetStep.gen.mgr = .off ∧ s.gensetStep.causeActive .zoneBreach = false := by decide

/-- The entry to HALTED makes the genset timers idle and starts the minimum off timer (R115). -/
theorem test_halt_stops_genset_timers :
    (match exec (.runHalt .p0) ((inState .standby).setGen { (inState .standby).gen with
          mgr := .stopRequested, minRun := some 60000, start := some 15000, absExit := some 5000 }) with
      | .next t => decide (t.gen.minRun = none ∧ t.gen.start = none ∧ t.gen.absExit = none ∧ t.gen.minOff = some 20000)
      | .fault _ => false
      | .refused _ => false) = true := by decide +kernel

/-! ### States and operands that meet the hypotheses of the statements -/

theorem test_hyps_StepRunsFrontCommand :
    (State.reset.setPending [.evaluation, .sample]).pending = .evaluation :: [.sample] := by decide

theorem test_hyps_EveryStepGoesOn :
    (Instr.evaluation ≠ .powerOn bus ∧ Instr.evaluation ≠ .powerFailure ⟨0, []⟩) ∧
      (State.reset.pending = [] ∧ State.reset.running = true) ∧
      ((State.reset.setPowered false).pending = [] ∧ (State.reset.setPowered false).running = false) := by decide

theorem test_hyps_PowerOnFormsState :
    ((State.reset.setPowered false).powered = false ∧ (State.reset.setPowered false).store.journal = [] ∧
      (State.reset.setPowered false).store.cutErase = ⟨false, false⟩) ∧ State.reset.powered = true := by decide

theorem test_hyps_PowerFailureKeepsJournal :
    State.reset.powered = true ∧ State.reset.store.phase = .idle ∧
      ((storing .writing State.reset).powered = true ∧ (storing .writing State.reset).store.phase = .writing ∧
        (storing .writing State.reset).store.journal.wf = true) ∧
      ((storing .erasing State.reset).powered = true ∧ (storing .erasing State.reset).store.phase = .erasing) := by
  decide

theorem test_hyps_StoppedPartIgnoresCommands :
    (State.reset.setResetAsserted true).running = false ∧ (State.reset.setPowered false).running = false ∧
      (State.reset.setPowered false).powered = false ∧ State.reset.resetAsserted = false := by decide

theorem test_hyps_ResetAssertStopsStore :
    State.reset.running = true ∧ (storing .writing State.reset).running = true ∧
      (storing .erasing State.reset).running = true := by decide

theorem test_hyps_ResetReleaseKeepsRam :
    (State.reset.setResetAsserted true).powered = true ∧ (State.reset.setResetAsserted true).resetAsserted = true := by
  decide

theorem test_hyps_SelfCheckEndEntersHalted :
    (State.reset.running = true ∧ State.reset.rc.runState = .selfCheck ∧ State.reset.rc.checkEnd = some 2 ∧
      State.reset.rc.checkRequested = false ∧ State.reset.gen.mgr = .off) ∧
      (State.reset.setRc { State.reset.rc with checkRequested := true }).rc.checkRequested = true ∧
      State.reset.cut.slipTimer = .idle ∧ (State.reset.setSlipTimer (.running 300)).cut.slipTimer ≠ .idle := by decide

/-- HOLD_LINE active, and SELF_CHECK_FAIL active. -/
def held (s : State) : State := s.setCut { s.cut with live := 0x101#13 }

theorem test_hyps_HoldLineSampleSetsCause :
    State.reset.drivesHold = true ∧ State.reset.running = true ∧
      (inState .halted).running = true ∧ (inState .halted).drivesHold = false ∧
      (inState .halted).causeActive .holdLine = false ∧
      (held (inState .halted)).drivesHold = false ∧ (held (inState .halted)).causeActive .holdLine = true ∧
      (inState .halted).cut.holdLevel ≠ some .low ∧
      ((inState .halted).takeLevel .low).cut.holdLevel = some .low := by
  decide

theorem test_hyps_CauseRaisedAndCleared :
    (∀ c, c ≠ .doorInterlock → State.reset.causeActive c = false) ∧ State.reset.causeActive .doorInterlock = true := by
  constructor
  · intro c h
    cases c <;> first | rfl | exact absurd rfl h
  · rfl

theorem test_hyps_HeadlineShowsLowestCause :
    (∀ c, CauseSet.has 0#13 c = false) ∧
      (CauseSet.has 0x1008#13 .linkBrake = true ∧
        ∀ d, CauseSet.has 0x1008#13 d = true → Cause.linkBrake.code ≤ d.code) ∧
      (Instr.poll .p0).port = some .p0 ∧ State.reset.running = true := by
  refine ⟨fun c => by cases c <;> rfl, ⟨rfl, fun d h => ?_⟩, rfl, rfl⟩
  cases d <;> first | decide | exact absurd h (by decide)

theorem test_hyps_PollHoldAndBadFrame :
    State.reset.running = true ∧ State.reset.rc.runState = .selfCheck ∧
      heldFrame (.cursor .p0 0#10 0#16) = some (.p0, 1#4) ∧ heldFrame (.dumpStreamRead .p4 true) = some (.p4, 2#4) ∧
      heldFrame (.write .p1 false 0#16) = some (.p1, 3#4) ∧ heldFrame (.cursorMode .p2 2#5) = some (.p2, 4#4) := by
  decide

theorem test_hyps_Listening : (inState .halted).Listening ∧ (inState .standby).Listening ∧ (inState .active).Listening :=
  ⟨⟨by decide, by decide⟩, ⟨by decide, by decide⟩, ⟨by decide, by decide⟩⟩

theorem test_hyps_CursorFrameMovesCursor :
    ((inState .halted).ports.get .p0).cursors = .joined 0#10 ∧
      (((inState .halted).modPort .p0 fun x => { x with cursors := .split 1#10 1023#10 }).ports.get .p0).cursors =
        .split 1#10 1023#10 ∧ (3#16).getLsbD 0 = true ∧ (2#16).getLsbD 0 = false := by decide

theorem test_hyps_CursorModeSwitches : 1 < (2#5).toNat ∧ 1 < (31#5).toNat := by decide

theorem test_hyps_CursorAdvancesAfterOk :
    IsRead (.capture .p0 true) .p0 true ∧ IsRead (.dumpStreamRead .p0 false) .p0 false ∧
      IsWrite (.write .p0 true 0#16) .p0 true 0#16 ∧ leavesCursors (.poll .p0) = true :=
  ⟨Or.inl rfl, by simp [IsRead], Or.inl rfl, rfl⟩

/-- Word 0 of a record, and a later word while the buffer holds another record. -/
theorem test_hyps_CaptureTakesRecord :
    recordAt 0x40 = some .status ∧ recordAt 0x4B = some .status ∧ recordAt 0x80 = some .counters ∧
      recordAt 0x91 = some .latch ∧ recordAt 0x94 = some .notice ∧ recordAt 0x99 = some .wearStatus ∧
      recordAt 0x10F = some .snapshots ∧ recordAt 0x4C = none ∧
      ((holdingRecord ⟨.latch, []⟩ .p0 (cursorAt 0x4B#10 .p0 (inState .halted))).ports.get .p0).holding =
        some ⟨.latch, []⟩ := by decide

theorem test_hyps_ReadWithoutCapture :
    (recordAt 0x4B = some .status ∧ 0x4B ≠ RecordId.status.base ∧
      ((holdingRecord ⟨.status, []⟩ .p0 (inState .halted)).ports.get .p0).holding = some ⟨.status, []⟩) ∧
      (recordAt 0x000 = none ∧ (inState .halted).plainWord .p0 0x000 = some 0x4D50#16) ∧
      (recordAt 0x3FF = none ∧ (inState .halted).plainWord .p0 0x3FF = none) ∧
      (recordAt 0x0D3 = none ∧ (inState .halted).plainWord .p0 0x0D3 = some 0#16) ∧
      (inState .halted).plainWord .p0 0x0D4 = none ∧ (inState .halted).plainWord .p0 0x036 ≠ none ∧
      (inState .halted).plainWord .p0 0x0AA = some 8192#16 := by decide

theorem test_hyps_DumpStreamAnswers :
    ((dumping ⟨.streaming, none, .descriptor 0#2, 1, 2, [5#16]⟩ .p0 (inState .active)).ports.get .p0).dump.queue =
        5#16 :: [] ∧
      ((dumping ⟨.streaming, none, .descriptor 0#2, 1, 2, []⟩ .p0 (inState .active)).ports.get .p0).dump.status =
        .streaming ∧
      ((dumping ⟨.ended, some .lost, .descriptor 0#2, 1, 2, []⟩ .p0 (inState .active)).ports.get .p0).dump.reason =
        some .lost ∧
      ((inState .active).ports.get .p0).dump.status = .idle ∧
      ((cursorAt 0x140#10 .p0 (inState .active)).ports.get .p0).cursors.readAddress = 0x140#10 ∧
      ((cursorAt 0x140#10 .p0 (inState .active)).ports.get .p0).cursors.writeAddress = 0x140#10 := by decide

/-- A streaming context with one sample recorded that it has not fetched, and room for it. -/
theorem test_hyps_DumpStreamFetches :
    (withTable State.reset.rcd.table .recording 1 (inState .active)).rcd.next = 1 ∧
      ({ (withTable State.reset.rcd.table .recording 1 (inState .active)).rcd with
          ring := [(inState .active).takeSample] } : Recorder).sampleNumber 0 = some (inState .active).takeSample ∧
      [5#16, 6#16, 7#16, 8#16, 9#16, 10#16].length + 10 ≤ 16 := by decide

theorem test_hyps_IdentificationWordsRead :
    IsRead (.capture .p0 true) .p0 true ∧
      ((cursorAt 0x00F#10 .p0 (inState .halted)).ports.get .p0).cursors.readAddress.toNat = 15 :=
  ⟨Or.inl rfl, by decide⟩

/-- The fields at the ends of their ranges: the last item and the last descriptor, a dump and a table at rest. -/
theorem test_hyps_LayoutsShowFields :
    0 ≤ State.reset.split.lRegen ∧ State.reset.split.lRegen ≤ 3000 ∧ itemOfNumber 4 = some .gensetStarts ∧
      (State.reset.wear.items.get .gensetStarts).total ≤ 4294967295 ∧
      (State.reset.wear.items.get .gensetStarts).level ≤ 3 ∧ (State.reset.env.book.get .brake).commitAt = none ∧
      (State.reset.ports.get .p4).dump.last ≤ 4294967295 ∧ (State.reset.ports.get .p4).dump.source = .descriptor 0#2 ∧
      State.reset.store.lastVerified ≤ 4294967295 ∧ State.reset.rcd.newest ≤ 4294967295 ∧
      (State.reset.rcd.table.get 3#2).trigger - (State.reset.rcd.table.get 3#2).first ≤ 4095 := by decide

/-- A record and its ends; a setting of one word, the first word of a pair, and an offset without a setting. -/
theorem test_hyps_LayoutsShowRegions :
    recordAt 0x4B = some .status ∧ recordAt 0x10F = some .snapshots ∧ itemOfNumber 5 = none ∧
      settingAt 0x00 = some (.one .socMin) ∧ settingAt 0x5C = some (.high (.threshold .gensetStarts 2)) ∧
      settingAt 0xFF = none ∧ State.reset.rc.staged.getWide (.threshold .gensetStarts 2) ≤ 4294967295 ∧
      (completing .brake 0x35#10 .p4 .active).plainWord .p4 0x36 = some 0#16 ∧
      (inState .halted).plainWord .p0 0x1C = none := by decide

theorem test_hyps_FrameRoundTrip :
    encodeFrame (.release .p3 3#5) = some 0x42460001#32 ∧ (Instr.release .p3 3#5).port = some .p3 ∧
      encodeFrame (.capture .p0 true) = some 0x28000000#32 ∧ .capture .p0 true = readRow .p0 0x40#10 true ∧
      .reportWordWrite .p4 true 1#16 = writeRow .p4 0x35#10 true 1#16 ∧ bitParity 0x00000001#32 = true ∧
      4 < (Frame.command 0x50000000#32).toNat ∧ Frame.command 0x43800000#32 = 4#4 ∧
      13 < (Frame.requestCode 0x43800000#32).toNat := by decide

/-- A port of another role and a word beyond the report; word 0; a word expected; a word out of order; the last word with an
enumeration outside its codes. -/
theorem test_hyps_ReportWordAssembledOrRefused :
    reportWordAt 0x35 = some (.brake, 5) ∧ (inState .halted).roleOf .p4 = some .brake ∧
      (inState .halted).roleOf .p0 ≠ some .brake ∧ reportWordAt 0x37 = some (.brake, 7) ∧ reportLength .brake ≤ 7 ∧
      reportWordAt 0x30 = some (.brake, 0) ∧ reportWordAt 0x34 = some (.brake, 4) ∧ 4 + 1 < reportLength .brake ∧
      [1#16, 2#16, 3#16, 4#16].length = 4 ∧ 5 + 1 = reportLength .brake ∧
      firstOutside .brake ([0#16, 0#16, 2#16, 0#16, 0#16] ++ [0#16]) = some 2 := by decide

/-- A word below a field's range, above it and at its ends; an enumeration at its last code and beyond it; a word that a report
has not. -/
theorem test_hyps_ReportTable :
    ((Role.brake, 3, (0 : Int), (5000 : Int)) ∈ numericFields ∧ (0xFFFF#16).toInt < 0 ∧ 5000 < (5001#16).toInt ∧
      (5000#16).toInt ≤ 5000) ∧
      ((Role.vehicle, 4, 1) ∈ enumerationFields ∧ ¬ 1 < (1#16).toNat ∧ 1 < (2#16).toNat) ∧
      (reportValues .brake [0#16, 0#16, 1#16, 5001#16, 5000#16, 0xFFFF#16] = [0, 0, 1, 5000, 5000, 0] ∧
        clampedSet .brake [0#16, 0#16, 1#16, 5001#16, 5000#16, 0xFFFF#16] = 0x28#6) ∧ reportLength .traction ≤ 3 := by decide

theorem completes (r : Role) (a : Address) (p : Port) (x : RunState)
    (h : decide ((completing r a p x).running = true ∧ (completing r a p x).rc.runState ≠ .selfCheck ∧
      (completing r a p x).roleOf p = some r ∧
      reportWordAt ((completing r a p x).ports.get p).cursors.writeAddress.toNat = some (r, reportLength r - 1) ∧
      ((completing r a p x).ports.get p).assembly = some ⟨.report r, List.replicate (reportLength r - 1) 0#16⟩ ∧
      reportLength r - 1 + 1 = reportLength r ∧
      firstOutside r (List.replicate (reportLength r - 1) 0#16 ++ [0#16]) = none) = true) :
    (completing r a p x).Completing p r (List.replicate (reportLength r - 1) 0#16) 0#16 := by
  obtain ⟨h1, h2, h3, h4, h5, h6, h7⟩ := of_decide_eq_true h
  exact ⟨⟨h1, h2⟩, h3, by rw [List.length_replicate]; exact h6, by rw [List.length_replicate]; exact h4, h5, h7⟩

/-- Each role's report can be completed, in HALTED and in ACTIVE. -/
theorem test_hyps_ReportCommitted :
    (completing .vehicle 0x15#10 .p0 .active).Completing .p0 .vehicle (List.replicate 5 0#16) 0#16 ∧
      (completing .genset 0x1B#10 .p1 .halted).Completing .p1 .genset (List.replicate 3 0#16) 0#16 ∧
      (completing .storage 0x24#10 .p2 .standby).Completing .p2 .storage (List.replicate 4 0#16) 0#16 ∧
      (completing .traction 0x2A#10 .p3 .active).Completing .p3 .traction (List.replicate 2 0#16) 0#16 ∧
      (completing .brake 0x35#10 .p4 .active).Completing .p4 .brake (List.replicate 5 0#16) 0#16 :=
  ⟨completes .vehicle _ _ _ (by decide), completes .genset _ _ _ (by decide), completes .storage _ _ _ (by decide),
    completes .traction _ _ _ (by decide), completes .brake _ _ _ (by decide)⟩

/-- A zone with the manager running, above and at the margin, and the slip timer expired. -/
theorem test_hyps_CommitSettlesCauses :
    ((reportValues .vehicle [0#16, 0#16, 0#16, 0#16, 1#16, 0#16]).getD 4 0 = 1) ∧
      (State.reset.rc.applied.socReserve : Int) + 500 < 2501 ∧
      2500 ≤ (State.reset.rc.applied.socReserve : Int) + 500 ∧
      ((completing .vehicle 0x15#10 .p0 .active).setGen { State.reset.gen with mgr := .absorb }).gen.mgr = .absorb ∧
      ((completing .brake 0x35#10 .p4 .active).setSlipTimer .expired).cut.slipTimer = .expired := by decide

/-- A commit that fires SLIP_CUT and HARSH_BRAKE: T_rr 2200 where 2199 was held, with the slip flag. -/
theorem test_hyps_CommitFiresTriggers :
    let s := (atSpeed 10 .active).setEnv { (atSpeed 10 .active).env with
      brake := { (atSpeed 10 .active).env.brake with tRr := 2199 } }
    let values := reportValues .brake [10#16, 2200#16, 1#16, 0#16, 0#16, 0#16]
    s.causeActive .slip = false ∧ (s.env.withReport .brake values).brake.slip = true ∧
      s.env.brake.tRr < s.rc.applied.tHarsh ∧ (s.rc.applied.tHarsh : Int) ≤ (s.env.withReport .brake values).brake.tRr ∧
      0 < (s.env.withReport .vehicle (reportValues .vehicle [1#16, 0#16, 0#16, 0#16, 0#16, 0#16])).vehicle.tDrv := by decide

theorem test_hyps_CommitAddsWear :
    IsWrite (.reportWordWrite .p4 true 0#16) .p4 true 0#16 ∧
      (completing .brake 0x35#10 .p4 .active).Completing .p4 .brake (List.replicate 5 0#16) 0#16 :=
  ⟨by simp [IsWrite], completes .brake _ _ _ (by decide)⟩

/-- R132 at the ends of its bands, for a level that rises, holds and falls. -/
theorem test_hyps_CommitSettlesLevels :
    settledLevel .warm 450 = .hot ∧ settledLevel .hot 430 = .hot ∧ settledLevel .hot 429 = .warm ∧
      (completing .brake 0x35#10 .p4 .active).deltaT .brake = 0 := by decide

/-- The ends of the table of R198. -/
theorem test_hyps_SettingTable :
    (0x00, .socMin, 1000) ∈ settingTable ∧ (0x35, .post .manual, 500) ∈ settingTable ∧ settingTable.length = 52 ∧
      itemOfNumber 0 = some .liningFront := by decide

/-- A one-word setting, the first word and the second word of a pair, a second word without its first. -/
theorem test_hyps_StagedSettingStored :
    settingAt (0x214 - 0x200) = some (.one (.deadline .vehicle)) ∧ settingAt (0x224 - 0x200) = some (.high .tau) ∧
      settingAt (0x225 - 0x200) = some (.low .tau) ∧ (inState .standby).roleOf .p0 ≠ none ∧
      (strapped .halted fourRoles).roleOf .p4 = none ∧ (inState .halted).rc.claim = none ∧
      (claimed .p0 (inState .halted)).rc.claim = some .p0 ∧
      ((assembling ⟨.setting .tau, [1#16]⟩ .p0 (inState .halted)).ports.get .p0).assembly =
        some ⟨.setting .tau, [1#16]⟩ ∧ ((inState .halted).ports.get .p0).assembly = none := by decide

theorem test_hyps_WriteRefusedElsewhere :
    settingAt (0x236 - 0x200) = none ∧ (strapped .standby fourRoles).roleOf .p4 = none ∧
      settingAt (0x235 - 0x200) ≠ none ∧ (claimed .p1 (inState .standby)).rc.claim = some .p1 := by decide

theorem test_hyps_DumpRangeRecordStored :
    ((assembling ⟨.dumpRange, [0#16]⟩ .p0 (cursorAt 0xA9#10 .p0 (inState .halted))).ports.get .p0).assembly =
        some ⟨.dumpRange, [0#16]⟩ ∧
      ((assembling ⟨.dumpRange, [0#16, 1#16]⟩ .p0 (cursorAt 0xAA#10 .p0 (inState .halted))).ports.get .p0).assembly =
        some ⟨.dumpRange, [0#16, 1#16]⟩ ∧ [0#16].length ≠ 0xAA - 0xA8 ∧
      ((inState .halted).ports.get .p0).assembly = none := by decide

theorem test_hyps_RunStandbyTaken :
    (inState .halted).running = true ∧ (inState .halted).roleOf .p0 = some .vehicle ∧
      bindingComplete (inState .halted).rc.straps = true ∧ (inState .halted).rcd.table.frozen = false ∧
      (inState .halted).rcd.state ≠ .recording ∧ (claimed .p3 (inState .halted)).roleOf .p3 ≠ none ∧
      (atSpeed 9 .active).env.brake.v < 10 ∧ (inState .standby).rc.runState = .standby := by decide

/-- Nothing blocks; HOLD_LINE blocks; the direction blocks. -/
theorem test_hyps_RunActiveTakenOrBlocked :
    (∀ c : Cause, c.code ≤ 6 → (inState .standby).causeActive c = false) ∧ (inState .standby).split.dir = .neutral ∧
      ((held (inState .standby)).causeActive .holdLine = true ∧ Cause.holdLine.code ≤ 6) ∧
      ((inState .standby).setSplit { (inState .standby).split with dir := .forward }).split.dir ≠ .neutral := by
  refine ⟨fun c h => ?_, by decide, by decide, by decide⟩
  cases c <;> first | rfl | exact absurd h (by decide)

theorem test_hyps_RunHaltTaken :
    (inState .standby).rc.runState = .standby ∧ (atSpeed 9 .active).rc.runState = .active ∧
      (atSpeed 9 .active).env.brake.v < 10 ∧ (claimed .p3 (inState .standby)).rc.claim = some .p3 ∧
      (inState .standby).store.fault = false ∧ (inState .standby).store.phase = .idle ∧
      (inState .standby).gen.mgr = .off ∧ (strapped .standby fourRoles).roleOf .p4 = none := by decide

/-- The first role without a port is BRAKE on the part with four roles. -/
theorem test_hyps_RunRequestsRefused :
    (inState .standby).roleOf .p1 ≠ some .vehicle ∧ (atSpeed 10 .active).stale .brake = false ∧
      10 ≤ (atSpeed 10 .active).env.brake.v ∧ (strapped .halted fourRoles).roleOf .p0 = some .vehicle ∧
      (∀ q, (strapped .halted fourRoles).roleOf q ≠ some .brake) ∧
      (∀ r' : Role, r'.index < Role.brake.index → ∃ q, (strapped .halted fourRoles).roleOf q = some r') := by
  refine ⟨by decide, by decide, by decide, by decide, fun q => by cases q <;> decide, fun r' h => ?_⟩
  cases r'
  · exact ⟨.p0, by decide⟩
  · exact ⟨.p1, by decide⟩
  · exact ⟨.p2, by decide⟩
  · exact ⟨.p3, by decide⟩
  · exact absurd h (by decide)

/-- The recorder settled in every run state, frozen too; a claimant without a role, and one with a first word held. -/
theorem test_hyps_RecorderAndClaim :
    let frozen : SnapshotTable := ⟨{ descriptor .complete .holdLine 5 9 with freeze := true }, .atPowerOn, .atPowerOn, .atPowerOn⟩
    State.reset.RecorderSettled ∧ (inState .halted).RecorderSettled ∧
      (withTable State.reset.rcd.table .recording 1 (inState .standby)).RecorderSettled ∧
      (withTable frozen .frozen 9 (inState .standby)).RecorderSettled ∧ frozen.frozen = true ∧
      (claimed .p4 (strapped .halted fourRoles)).roleOf .p4 = none ∧
      ((assembling ⟨.setting .tau, [1#16]⟩ .p4 (claimed .p4 (strapped .halted fourRoles))).ports.get .p4).assembly =
        some ⟨.setting .tau, [1#16]⟩ := by
  unfold State.RecorderSettled
  decide

/-- A manager that is not OFF with ZONE_BREACH active at an entry to HALTED, and one that is OFF. -/
theorem test_hyps_ZoneBreachEnds :
    let s := ((inState .standby).setGen { (inState .standby).gen with mgr := .run }).setCut ⟨0x800#13, .idle, 0, none⟩
    (s.causeActive .zoneBreach = true ∧ s.gen.mgr ≠ .off) ∧ (inState .standby).gen.mgr = .off := by decide

theorem test_hyps_SelfCheckTaken :
    (inState .halted).running = true ∧ (inState .halted).roleOf .p0 = some .vehicle ∧
      (inState .halted).rc.runState = .halted := by decide

/-- A rise and a fall of a level. -/
theorem test_hyps_LevelChangeHasConsequences :
    let up := (inState .halted).setWear { (inState .halted).wear with
      items := (inState .halted).wear.items.set .battery ⟨5000000, 0, 0, true⟩ }
    let down := (inState .halted).setWear { (inState .halted).wear with
      items := (inState .halted).wear.items.set .battery ⟨4999999, 0, 1, true⟩ }
    up.LevelRises up.recomputeLevels ∧ down.recomputeLevels.LevelRises down ∧
      ∀ item, ((inState .halted).recomputeLevels.wear.items.get item).level =
        ((inState .halted).wear.items.get item).level :=
  ⟨⟨.battery, by decide +kernel⟩, ⟨.battery, by decide +kernel⟩, fun item => by cases item <;> decide +kernel⟩

/-- The defaults meet every condition of APPLY; fade limits that do not ascend fail condition 8 first. -/
theorem test_hyps_ApplyAndDiscard :
    (claimed .p2 (inState .halted)).rc.claim = some .p2 ∧
      (∀ k, (claimed .p2 (inState .halted)).rc.staged.Condition k) ∧
      (claimed .p2 (inState .active)).rc.runState = .active ∧ (inState .halted).rc.claim = none ∧
      (let bad := (inState .halted).rc.staged.set .vFadeLo 80
       ¬ bad.Condition 8 ∧ ∀ j, j < 8 → bad.Condition j) := by
  have all : ∀ k, Settings.defaults.Condition k := by
    intro k
    match k with
    | 0 | 1 | 2 | 3 | 4 | 5 | 6 | 7 | 8 => simp [Settings.Condition, Settings.defaults]
    | 9 | 10 | 11 | 12 | 13 => simp [Settings.Condition, Thresholds.Ascending, Settings.defaults]
    | 14 => simp [Settings.Condition, Settings.defaults]
    | 15 | 16 => intro c; cases c <;> decide
    | n + 17 => trivial
  refine ⟨rfl, all, rfl, rfl, by simp [Settings.Condition, Settings.set, inState, strapped, State.setRc, State.reset,
    Settings.defaults], fun j hj => ?_⟩
  match j, hj with
  | 0, _ => exact all 0
  | 1, _ => exact all 1
  | 2, _ => exact all 2
  | 3, _ => exact all 3
  | 4, _ => exact all 4
  | 5, _ => exact all 5
  | 6, _ => exact all 6
  | 7, _ => exact all 7

theorem test_hyps_SaveWearRequestsCheckpoint :
    ((inState .halted).setStore { (inState .halted).store with fault := true }).store.fault = true ∧
      (storing .writing (inState .halted)).store.phase ≠ .idle ∧ (storing .writing (inState .halted)).store.fault = false ∧
      (inState .halted).store.fault = false ∧ (inState .halted).store.phase = .idle ∧
      (nextSequence 0 ⟨0, 0, 0, 0, 0⟩).1 = some 1 ∧ (nextSequence 4294967294 ⟨0, 0, 0, 0, 0⟩).1 = none := by decide +kernel

theorem test_hyps_WearResetZeroesItem :
    itemOfNumber (4#5).toNat = some .gensetStarts ∧ 4 < (5#5).toNat ∧ (4#5).toNat ≤ 4 ∧
      (inState .halted).causeActive .wearStoreFault = false ∧ (inState .halted).roleOf .p0 = some .vehicle ∧
      ((inState .halted).setCut ⟨0x1000#13, .idle, 0, none⟩).causeActive .wearStoreFault = true ∧
      (inState .halted).LevelsMatch := by
  refine ⟨by decide, by decide, by decide, by decide, by decide, by decide, fun i => ?_⟩
  cases i <;> rfl

/-- A COLLECTING MANUAL descriptor; a FREE one and, without one, an OVERWRITTEN one to take; none to take; not recording. -/
theorem test_hyps_TriggerHandled :
    let collecting : SnapshotTable := ⟨.atPowerOn, descriptor .collecting .manual 5 9, .atPowerOn, .atPowerOn⟩
    let lost : SnapshotTable := ⟨descriptor .complete .manual 5 9, descriptor .collecting .cutback 5 9,
      descriptor .overwritten .manual 5 9, descriptor .overwritten .manual 5 9⟩
    let full : SnapshotTable := ⟨descriptor .complete .manual 5 9, descriptor .collecting .cutback 5 9,
      descriptor .complete .manual 5 9, descriptor .complete .manual 5 9⟩
    (collecting.Collects .manual 1#2 ∧ collecting.Takes 0#2 ∧ lost.Takes 2#2) ∧
      (∀ id, (full.get id).state = .collecting ∨ (full.get id).state = .complete) ∧
      (∀ id, ¬ ((full.get id).state = .collecting ∧ (full.get id).cause = .manual)) ∧
      (withTable full .recording 10 (inState .active)).rcd.empty = false ∧
      (inState .halted).rcd.state ≠ .recording ∧
      Settings.defaults.post.wearLevel = 0 ∧ Settings.defaults.post.manual ≠ 0 := by
  unfold SnapshotTable.Collects SnapshotTable.Takes SnapshotTable.Lowest
  decide

theorem test_hyps_ReleaseFreesDescriptor : 3 < (4#5).toNat ∧ (3#5).toNat ≤ 3 := by decide

/-- A live dump and one that has ended; descriptors of each state; a range within the ring, beyond it and before it. -/
theorem test_hyps_DumpsBeginAndEnd :
    ((dumping ⟨.ended, some .done, .descriptor 0#2, 1, 2, [1#16]⟩ .p0 (inState .active)).ports.get .p0).dump.queue ≠ [] ∧
      ((inState .active).ports.get .p0).dump.status = .idle ∧
      (descriptor .complete .manual 0 0).state = .complete ∧
      ({ (withTable State.reset.rcd.table .recording 1 (inState .active)).rcd with
          ring := [(inState .active).takeSample] } : Recorder).sampleNumber 0 = some (inState .active).takeSample ∧
      ((inState .active).ports.get .p0).dumpRange.first = 0 ∧
      (withTable State.reset.rcd.table .recording 1 (inState .active)).rcd.newest = 0 ∧
      (withTable State.reset.rcd.table .recording 8193 (inState .active)).rcd.newest - 8191 = 1 ∧
      (withTable State.reset.rcd.table .recording 8193 (inState .active)).rcd.empty = false := by decide

/-- An evaluation that falls due in STANDBY and in ACTIVE. -/
theorem test_hyps_Evaluation :
    (evaluating .standby).running = true ∧ (evaluating .standby).rc.runState = .standby ∧
      (evaluating .active).rc.runState = .active ∧ (evaluating .active).split.evalDue = some 10 := by decide

/-- The cases of the ramp from the standing torque. -/
theorem test_hyps_EvaluationRampsTowardRequest :
    let at_ (t : Int) := (evaluating .active).setSplit { (evaluating .active).split with tMc := t }
    (0 ≤ (at_ 0).split.tMc ∧ 0 < (at_ 1).split.tMc ∧ (at_ (-1)).split.tMc < 0 ∧ (at_ 0).split.tMc ≤ 0) ∧
      (at_ 5).split.evalDue = some 10 := by decide

/-- A start that is wanted, one that has failed, a genset warm, and the absorb conditions' thermal level. -/
theorem test_hyps_EvaluationStepsGensetManager :
    let s := evaluating .active
    (s.gen.mgr = .off ∧ s.gen.inhibit = false ∧ s.gen.minOff = none ∧
      s.env.storage.soc < s.rc.applied.socStart ∧ s.env.vehicle.zone = false ∧ s.stale .genset = false) ∧
      ((s.setGen { s.gen with mgr := .startRequested, start := some 10 }).gen.start = some 10) ∧
      ((s.setGen { s.gen with mgr := .absorb, absExit := some 11 }).gen.absExit = some 11 ∧ s.split.mode ≠ .braking) ∧
      ((s.setWear { s.wear with lining := ⟨⟨115200, .hot⟩, s.wear.lining.middle, s.wear.lining.rear⟩ }).highestThermal =
        2) := by decide

/-- A step in STANDBY makes an ended minimum off timer idle and keeps a running one. -/
theorem test_minimum_off_timer_in_standby :
    let s (e : Nat) := (evaluating .standby).setGen { (evaluating .standby).gen with minOff := some e }
    (s 0).gensetStep.gen.minOff = none ∧ (s 99).gensetStep.gen.minOff = some 99 ∧ (s 99).gen.mgr = .off := by decide

theorem test_hyps_EvaluationSetsGensetPower :
    (evaluating .active).hardActive = false ∧ (held (evaluating .active)).hardActive = true := by decide

theorem test_hyps_EvaluationAddsEnergy :
    (2147483647 < (2147483640 : Int) + 8) ∧ ((-2147483640 : Int) + (-8) < -2147483647) ∧
      ((2147483640 : Int) + 7 ≤ 2147483647) := by decide

/-- A running deadline of an alive and of a stale role, and a claim at its port. -/
theorem test_hyps_DeadlineExpiryMakesStale :
    ((inState .active).env.book.get .brake).deadline = none ∧
      (let s := (inState .active).setEnv { (inState .active).env with
        book := (inState .active).env.book.set .traction ⟨true, false, false, 0#6, some 0, some 30⟩ }
       (s.env.book.get .traction).deadline = some 30 ∧ s.stale .traction = false ∧
         s.causeActive (linkCause .traction) = false ∧ (claimed .p3 s).roleOf .p3 = some .traction) ∧
      (let s := (inState .active).setEnv { (inState .active).env with
        book := (inState .active).env.book.set .brake ⟨true, true, false, 0#6, some 0, some 30⟩ }
       (s.env.book.get .brake).deadline = some 30 ∧ s.stale .brake = true) := by decide

theorem test_hyps_TimersRunOut :
    ((inState .active).setSlipTimer (.running 300)).cut.slipTimer = .running 300 ∧
      (inState .active).cut.slipTimer = .idle ∧
      ((inState .active).setGen { (inState .active).gen with minOff := some 5 }).gen.timer .minOff = some 5 ∧
      (inState .active).gen.timer .minOff = none ∧
      ((inState .active).setStore { (inState .active).store with timer := some 600000 }).store.timer = some 600000 ∧
      (inState .active).store.timer = none := by decide

/-- A write in flight at its first and its last attempt, and at the last slot. -/
theorem test_hyps_WriteVerified :
    let s := storing .writing (inState .standby)
    (s.running = true ∧ s.store.phase = .writing ∧ s.store.endAt = some 20 ∧ s.store.journal.wf = true ∧
      s.store.pendingFlag = false ∧ s.store.attempts < 3 ∧ s.store.pos + 1 < 32 ∧
      (nextSequence s.store.lastUsed s.store.recordTotals).1 = some 2) ∧
    (s.store.journalWritten 13 []).readList 0 13 = s.store.intended ∧
    (s.store.journalWritten 13 [(3, 0xFFFF#16)]).readList 0 13 ≠ s.store.intended ∧
    (s.setStore { s.store with pendingFlag := true }).store.phase = .writing ∧
    32 ≤ (s.setStore { s.store with pos := 31 }).store.pos + 1 ∧
    3 ≤ (s.setStore { s.store with attempts := 3 }).store.attempts ∧ s.store.fault = false ∧
    (nextSequence 4294967294 s.store.recordTotals).1 = none := by decide +kernel

theorem test_hyps_EraseEnded :
    let s := storing .erasing (inState .standby)
    s.running = true ∧ s.store.phase = .erasing ∧ s.store.endAt = some 20 ∧ s.store.journal.wf = true ∧
      (nextSequence s.store.lastUsed s.store.recordTotals).1 = some 2 ∧ s.store.fault = false ∧
      (nextSequence 4294967294 s.store.recordTotals).1 = none ∧
      (s.store.journal.writeList 416 (withFaults [(0, 0#16)] [0xFFFF#16])).read 416 ≠ 0xFFFF#16 := by decide +kernel

theorem test_hyps_SavedTotalsOutlivePowerFailure :
    let s := storing .writing (inState .standby)
    s.running = true ∧ s.store.phase = .writing ∧ s.store.endAt = some 20 ∧ s.store.record = some ⟨1, 2, 3, 4, 5⟩ ∧
      s.store.journal.wf = true ∧ s.store.pendingFlag = false ∧ s.store.pos < 32 ∧ s.store.cutErase.get s.store.active = false ∧
      1 ≤ s.store.lastUsed ∧ s.store.lastUsed ≤ 4294967294 ∧
      crc (recordBody s.store.lastUsed ⟨1, 2, 3, 4, 5⟩) ≠ 0xFFFF#16 ∧
      (s.store.journal.readList (slotAddress s.store.active s.store.pos) 13).all (· == 0xFFFF#16) = true ∧
      (scanSlots s.store.journal s.store.cutErase).all (fun v => !v.valid) = true := by decide +kernel

/-- A sample due while recording, with a descriptor that ends with it and one that is lost; the last number; a still moment. -/
theorem test_hyps_SampleRecorded :
    let s := withTable ⟨descriptor .collecting .manual 8000 8192, descriptor .complete .manual 0 200, .atPowerOn,
      .atPowerOn⟩ .recording 8192 (inState .active)
    (s.running = true ∧ s.rcd.due = some 20 ∧ s.rcd.state = .recording ∧ s.rcd.next ≤ 4294967295 ∧
      8192 ≤ s.rcd.next ∧ (s.rcd.table.get 1#2).first ≤ s.rcd.next - 8192 ∧ (s.rcd.table.get 0#2).last ≤ s.rcd.next) ∧
      s.env.brake.v = 0 ∧ s.env.vehicle.tDrv = 0 ∧ s.split.tMc = 0 ∧
      s.rc.runState = .active ∧ (∀ id, (State.reset.rcd.table.get id).state ≠ .collecting) ∧
      4294967295 < (withTable State.reset.rcd.table .recording 4294967296 (inState .active)).rcd.next := by decide

/-- A streaming dump that waits for this sample with room, one whose queue is too full, one beyond its last sample, and one whose
next sample is dropped. -/
theorem test_hyps_SampleReachesDumps :
    let s := withTable State.reset.rcd.table .recording 8192 (inState .active)
    let d (next last : Nat) (queue : List Word) : DumpContext := ⟨.streaming, none, .descriptor 0#2, next, last, queue⟩
    s.rcd.next - 8192 < (d 8192 8192 [1#16, 2#16, 3#16, 4#16, 5#16, 6#16]).next ∧
      (d 8192 8192 [1#16, 2#16, 3#16, 4#16, 5#16, 6#16]).queue.length ≤ 6 ∧
      6 < (d 8192 9000 [1#16, 2#16, 3#16, 4#16, 5#16, 6#16, 7#16]).queue.length ∧ (d 9 8 []).last < (d 9 8 []).next ∧
      (d 0 9 []).next ≤ s.rcd.next - 8192 ∧
      ({ s.rcd with ring := [s.takeSample] } : Recorder).sampleNumber 8192 = some s.takeSample := by decide

/-- A dump with seven words queued keeps its whole context through the sample that it waits for; with six it fetches. -/
theorem test_sample_and_dumps :
    let s := withTable State.reset.rcd.table .recording 1 (inState .standby)
    let d (queue : List Word) : DumpContext := ⟨.streaming, none, .descriptor 0#2, 1, 1, queue⟩
    (match exec .sample (dumping (d [1#16, 2#16, 3#16, 4#16, 5#16, 6#16]) .p1
        (dumping (d [1#16, 2#16, 3#16, 4#16, 5#16, 6#16, 7#16]) .p0 s)) with
      | .next t => decide ((t.ports.get .p0).dump = d [1#16, 2#16, 3#16, 4#16, 5#16, 6#16, 7#16] ∧
          (t.ports.get .p1).dump.queue.length = 16 ∧ (t.ports.get .p1).dump.status = .ended ∧
          (t.ports.get .p1).dump.reason = some .done ∧ (t.ports.get .p1).notices = (s.ports.get .p1).notices)
      | .fault _ => false
      | .refused _ => false) = true := by decide +kernel

/-- R164 at the bounds of the stillness times: 29999, 30000, 299999 and 300000 ms still. -/
theorem test_stillness_bounds :
    nextLevel .run (some 20) true 30019 = (.run, some 20) ∧ nextLevel .run (some 20) true 30020 = (.rest1, some 20) ∧
      nextLevel .rest1 (some 20) true 300019 = (.rest1, some 20) ∧
      nextLevel .rest1 (some 20) true 300020 = (.rest2, some 20) ∧ nextLevel .run none true 20 = (.run, some 20) ∧
      nextLevel .rest2 (some 20) false 300020 = (.rest2, none) := by decide

/-- A sample that a still bus takes 30000 ms and 300000 ms after its first still one. -/
theorem test_hyps_SampleStill :
    let s := (withTable State.reset.rcd.table .recording 1 (inState .active)).setRcd
      { (withTable State.reset.rcd.table .recording 1 (inState .active)).rcd with still := some 20 }
    s.rcd.still = some 20 ∧ s.rcd.level = .run ∧ s.stale .brake = false ∧ s.env.brake.tRr = 0 ∧
      max (s.setNow 30020).now 20 = 20 + 30000 ∧ max (s.setNow 300020).now 20 = 20 + 300000 := by decide

/-- RELEASE in RECORDING leaves level and sample timer; of the descriptor that froze a stopped recorder, it ends the freeze. -/
theorem test_release_and_recorder :
    let frozen : SnapshotTable := ⟨{ descriptor .complete .holdLine 5 9 with freeze := true }, .atPowerOn, .atPowerOn, .atPowerOn⟩
    recorderState State.reset.rcd.table .active = .recording ∧ recorderState frozen .halted = .frozen ∧
      recorderState (frozen.set 0#2 { frozen.get 0#2 with state := .free }) .halted = .stopped ∧
      recorderState (frozen.set 0#2 { frozen.get 0#2 with state := .free }) .active = .recording := by decide

/-- A state with every property that steps keep, and a step from it. -/
def commanded : State := State.reset.setPending [.sample]

theorem test_hyps_steps_kept : ∃ t, step commanded = .next t := ⟨_, rfl⟩

theorem test_hyps_TorqueSafetyKept :
    commanded.env.InRange ∧ commanded.StopsCommands ∧ commanded.TorqueInLimits ∧ commanded.AbsorbsOnGrant := by
  refine ⟨?_, fun _ => by decide, ⟨by decide, by decide, by decide, by decide, fun h => absurd h (by decide),
    fun h => absurd h (by decide), by decide⟩, fun h => absurd h (by decide)⟩
  unfold Envelope.InRange Within
  decide

theorem test_hyps_CauseSetsKept : commanded.LatchesLive ∧ commanded.FaultMarked ∧ commanded.ZoneMarked :=
  ⟨fun p c h => by cases p <;> exact h, rfl, fun h => absurd h (by decide)⟩

theorem test_hyps_PortBooksKept : commanded.EnergyBalanced ∧ commanded.QueuesBounded :=
  ⟨fun p _ _ _ _ => by cases p <;> rfl, fun p => by cases p <;> exact ⟨by decide, fun _ => rfl, by decide⟩⟩

theorem test_hyps_RunControlKept :
    commanded.SettingsConsistent ∧ commanded.ClaimBound ∧ commanded.RecorderSettled ∧ commanded.TimersFollow :=
  ⟨by unfold State.SettingsConsistent; decide, fun p h => absurd h (by cases p <;> decide), rfl, by decide, by decide,
    by decide, by decide, fun _ r => by cases r <;> rfl⟩

theorem test_hyps_WearLevelsKept : commanded.LevelsMatch ∧ commanded.CodesCover :=
  ⟨fun i => by cases i <;> rfl, fun p i => by cases p <;> cases i <;> decide⟩

theorem test_hyps_HistoryKept : commanded.RingWhole ∧ commanded.OneCollecting ∧ commanded.SnapshotsRetained :=
  ⟨⟨rfl, by decide⟩, fun a b h => absurd h (by revert a; decide), fun id => by
    refine ⟨fun h => ?_, fun h => ?_⟩ <;> exact absurd h (by revert id; decide)⟩

theorem test_hyps_WearStoreKept : commanded.JournalCanonical ∧ commanded.store.Sound :=
  ⟨rfl, by unfold Store.Sound; decide⟩

end Sys2Proof.Tests
end

section
/-! PROOFS. What a request does at its port, what the entry to ACTIVE does to each block, and the statement about RUN_ACTIVE. -/

namespace Sys2Proof.Machine

variable (s : State)

/-! ### A request and its answer (R180, R182) -/

theorem exec_runActive (p : Port) : exec (.runActive p) s = s.request p fun t => t.requestActive p := rfl

@[simp] theorem respond_attention (p q : Port) (c : BitVec 4) (r : Reply) :
    (s.respond p c r).attention q = s.attention q := by
  simp [State.attention]

/-- While no self-check runs, a request has its effect after the pending response has gone out. -/
theorem request_of_listening (h : s.Listening) (p : Port) (effect : State → State × Reply) :
    s.request p effect = .next
      ((effect (s.modPort p PortState.shiftOut)).1.respond p 4#4 (effect (s.modPort p PortState.shiftOut)).2) := by
  obtain ⟨hrun, hstate⟩ := h
  simp [State.request, State.heldExchange, State.exchange, hrun, hstate]

theorem answered_respond {s t : State} {p : Port} (c : BitVec 4) (r : Reply)
    (h : (t.ports.get p).dataOut = some (s.ports.get p).response.frame) :
    Answered s (t.respond p c r) p c r.result r.payload := by
  refine ⟨?_, by simpa using h⟩
  rw [respond_attention]
  simp [State.respond]

theorem noEffect_respond (p : Port) (c : BitVec 4) (r : Reply) :
    NoEffect s ((s.modPort p PortState.shiftOut).respond p c r) p := by
  refine ⟨rfl, fun q hq => ?_, ?_⟩
  · simp [State.respond, hq]
  · simp [PortState.SameButFrame, State.respond, PortState.shiftOut]

/-- A request that leaves the state as it finds it is answered and has no effect. -/
theorem request_noEffect {s : State} {p : Port} {effect : State → State × Reply} {r : Reply} (hl : s.Listening)
    (he : effect (s.modPort p PortState.shiftOut) = (s.modPort p PortState.shiftOut, r)) :
    ∃ t, s.request p effect = .next t ∧ Answered s t p 4#4 r.result r.payload ∧ NoEffect s t p := by
  refine ⟨_, request_of_listening s hl p effect, ?_⟩
  rw [he]
  exact ⟨answered_respond _ _ (by simp [PortState.shiftOut]), noEffect_respond s p _ r⟩

/-- What an effect leaves alone at the ports, its request leaves alone but for the frame of its port. -/
theorem portsChange_respond {fields : List PortField} {s u : State} {p : Port} (c : BitVec 4) (r : Reply)
    (h : ∀ q, PortChanges fields (s.modPort p PortState.shiftOut) u q) :
    PortsChange fields s (u.respond p c r) p := by
  constructor
  · intro q hq f hf
    have hs := h q f hf
    rw [modPort_get_other _ _ _ _ hq] at hs
    rwa [State.respond, modPort_get_other _ _ _ _ hq]
  · intro f hf
    obtain ⟨hframe, hf⟩ := not_or.mp (mt List.mem_cons.mpr hf)
    have hs := h p f hf
    cases f <;> first | exact absurd rfl hframe | simpa [PortField.Same, PortState.shiftOut] using hs

@[simp] theorem respond_causeActive (p : Port) (c : BitVec 4) (r : Reply) (x : Cause) :
    (s.respond p c r).causeActive x = s.causeActive x := rfl

@[simp] theorem modPort_causeActive (p : Port) (f : PortState → PortState) (c : Cause) :
    (s.modPort p f).causeActive c = s.causeActive c := rfl

@[simp] theorem respond_hasNotice (p q : Port) (c : BitVec 4) (r : Reply) (k : NoticeKind) :
    ((s.respond p c r).ports.get q).hasNotice k = (s.ports.get q).hasNotice k := by
  simp [PortState.hasNotice]

@[simp] theorem shiftOut_hasNotice (p q : Port) (k : NoticeKind) :
    ((s.modPort p PortState.shiftOut).ports.get q).hasNotice k = (s.ports.get q).hasNotice k := by
  rw [modPort_get]
  split_ifs <;> rfl

@[simp] theorem shiftOut_latch (p q : Port) :
    ((s.modPort p PortState.shiftOut).ports.get q).latch = (s.ports.get q).latch := by
  rw [modPort_get]
  split_ifs <;> rfl

theorem noticesWithin_respond {kinds : List NoticeKind} {s u : State} {p : Port} (c : BitVec 4) (r : Reply)
    (h : State.NoticesWithin kinds (s.modPort p PortState.shiftOut) u) :
    State.NoticesWithin kinds s (u.respond p c r) := by
  simpa [State.NoticesWithin] using h

theorem causesTold_respond {s u : State} {p : Port} (c : BitVec 4) (r : Reply)
    (h : (s.modPort p PortState.shiftOut).CausesTold u) : s.CausesTold (u.respond p c r) := by
  obtain ⟨hnotice, hlatch⟩ := h
  refine ⟨fun q => ?_, fun q d => ?_⟩
  · rw [respond_hasNotice, ← shiftOut_hasNotice s p q]
    exact hnotice q
  · rw [← shiftOut_latch s p q]
    simp only [respond_port_untouched]
    exact hlatch q d

/-! ### The lowest active cause (R44) -/

theorem exists_cause_of_code {k : Nat} (h : k < 13) : ∃ c : Cause, c.code = k := by
  interval_cases k
  exacts [⟨.holdLine, rfl⟩, ⟨.selfCheckFail, rfl⟩, ⟨.linkTraction, rfl⟩, ⟨.linkBrake, rfl⟩, ⟨.linkStorage, rfl⟩,
    ⟨.linkVehicle, rfl⟩, ⟨.linkGenset, rfl⟩, ⟨.slip, rfl⟩, ⟨.doorInterlock, rfl⟩, ⟨.liningCritical, rfl⟩,
    ⟨.gensetStartFail, rfl⟩, ⟨.zoneBreach, rfl⟩, ⟨.wearStoreFault, rfl⟩]

theorem cause_code_lt (c : Cause) : c.code < 13 := by cases c <;> decide

theorem lowestCode_eq_none {set : CauseSet} {limit : Nat} (hl : limit ≤ 13)
    (h : ∀ c : Cause, c.code < limit → CauseSet.has set c = false) : lowestCode set limit = none := by
  rw [lowestCode, List.find?_eq_none]
  intro k hk
  have hlt : k < limit := List.mem_range.mp hk
  obtain ⟨c, rfl⟩ := exists_cause_of_code (hlt.trans_le hl)
  exact Bool.eq_false_iff.mp (h c hlt)

theorem lowestCode_eq_some {set : CauseSet} {limit : Nat} {c : Cause} (hl : c.code < limit)
    (hc : CauseSet.has set c = true) (hmin : ∀ d, CauseSet.has set d = true → c.code ≤ d.code) :
    lowestCode set limit = some c.code := by
  rw [lowestCode, List.find?_range_eq_some]
  refine ⟨hc, List.mem_range.mpr hl, fun k hk => ?_⟩
  obtain ⟨d, rfl⟩ := exists_cause_of_code (hk.trans (cause_code_lt c))
  have hd : CauseSet.has set d ≠ true := fun h => absurd (hmin d h) (Nat.not_le.mpr hk)
  simpa [CauseSet.has] using hd

/-! ### Blockers of ACTIVE (R9) -/

variable {s}

theorem activeBlocker_of_cause {c : Cause} (hc : c.code ≤ 6) (ha : s.causeActive c = true)
    (hmin : ∀ d, s.causeActive d = true → c.code ≤ d.code) : s.activeBlocker = some c.code := by
  rw [State.activeBlocker, lowestCode_eq_some (Nat.lt_succ_of_le hc) ha hmin]

/-- With causes 0 to 6 inactive, the direction alone can block. -/
theorem activeBlocker_of_no_cause (h : ∀ c : Cause, c.code ≤ 6 → s.causeActive c = false) :
    s.activeBlocker = if s.split.dir = .neutral then none else some 31 := by
  rw [State.activeBlocker, lowestCode_eq_none (by decide) fun c hc => h c (Nat.le_of_lt_succ hc)]

/-! ### RUN_ACTIVE from the VEHICLE port, by run state (R6, R9) -/

theorem requestActive_halted {p : Port} (hv : s.roleOf p = some .vehicle) (hr : s.rc.runState = .halted) :
    s.requestActive p = (s, wrongState) := by
  simp [State.requestActive, State.isVehicle, hv, hr]

theorem requestActive_active {p : Port} (hv : s.roleOf p = some .vehicle) (hr : s.rc.runState = .active) :
    s.requestActive p = (s, .ok 0#16) := by
  simp [State.requestActive, State.isVehicle, hv, hr]

theorem requestActive_blocked {p : Port} {k : Nat} (hv : s.roleOf p = some .vehicle)
    (hr : s.rc.runState = .standby) (hb : s.activeBlocker = some k) : s.requestActive p = (s, .state k) := by
  simp [State.requestActive, State.isVehicle, hv, hr, hb]

theorem requestActive_taken {p : Port} (hv : s.roleOf p = some .vehicle)
    (hr : s.rc.runState = .standby) (hb : s.activeBlocker = none) :
    s.requestActive p = (s.enterActive, .ok 0#16) := by
  simp [State.requestActive, State.isVehicle, hv, hr, hb]

/-! ### The clear of a cause and what it tells (R46) -/

variable (s)

@[simp] theorem clear_hasNotice (c : Cause) (k : NoticeKind) (p : Port) :
    ((s.clear c).ports.get p).hasNotice k =
      ((s.ports.get p).hasNotice k || (s.causeActive c && decide (k = .cutbackChange))) := by
  unfold State.clear
  split_ifs with h <;> simp [h]

/-- A clear changes the cause set just when the cause was active. -/
theorem clear_live_eq_iff (c : Cause) : (s.clear c).cut.live = s.cut.live ↔ s.causeActive c = false := by
  constructor
  · intro h
    have hc : (s.clear c).causeActive c = s.causeActive c := causeActive_of_cut h c
    simpa using hc.symm
  · intro h
    rw [clear_cut]
    exact and_not_bit_of_not_has h

theorem causesTold_refl : s.CausesTold s := by
  simp [State.CausesTold, State.CutbackTold]

theorem clear_causesTold (c : Cause) : s.CausesTold (s.clear c) := by
  constructor
  · intro p
    simp only [clear_hasNotice, ne_eq, clear_live_eq_iff, decide_true, Bool.and_true, Bool.not_eq_false,
      Bool.decide_eq_true]
  · intro p d
    cases hd : s.causeActive d <;> simp [hd]

theorem clear_noticesWithin {s u : State} (h : u.ports = s.ports) (c : Cause) :
    State.NoticesWithin [.cutbackChange] s (u.clear c) := by
  refine fun p k => ⟨fun hs => by simp [h, hs], fun hk => ?_⟩
  have hne : k ≠ .cutbackChange := by simpa using hk
  simp [h, hne]

/-! ### The manager sent to OFF (R105, R115, R117) -/

@[simp] theorem sendOff_gen : s.sendOff.gen = { s.gen with
    mgr := .off, setpoint := 0, minRun := none, start := none, absExit := none
    minOff := if s.gen.mgr = .off then s.gen.minOff else some (s.now + s.rc.applied.tMinOff * 1000) } := by
  unfold State.sendOff State.enterOff
  split_ifs with h <;> simp [h]

/-- ZONE_BREACH ends with the entry to OFF, and stands when the manager was in OFF already (R117). -/
@[simp] theorem sendOff_causeActive (c : Cause) :
    s.sendOff.causeActive c = (s.causeActive c && (decide (c ≠ .zoneBreach) || decide (s.gen.mgr = .off))) := by
  unfold State.sendOff State.enterOff
  split_ifs with h <;> simp [h, State.causeActive]

/-- Of the cutback unit, the manager sent to OFF reaches the cause set alone. -/
theorem sendOff_cut_eq : s.sendOff.cut = { s.cut with live := s.sendOff.cut.live } := by
  unfold State.sendOff State.enterOff
  split_ifs <;> simp

theorem sendOff_causesTold : s.CausesTold s.sendOff := by
  unfold State.sendOff
  split_ifs
  · exact causesTold_refl s
  · exact clear_causesTold (s.setGen _) .zoneBreach

theorem sendOff_noticesWithin : State.NoticesWithin [.cutbackChange] s s.sendOff := by
  unfold State.sendOff State.enterOff
  split_ifs
  · exact noticesWithin_refl s _
  · exact clear_noticesWithin (by rfl) .zoneBreach

/-! ### The run state changed (R5, R162) -/

@[simp] theorem changeRunState_hasNotice (x : RunState) (k : NoticeKind) (p : Port) :
    ((s.changeRunState x).ports.get p).hasNotice k = ((s.ports.get p).hasNotice k || decide (k = .runStateChange)) := by
  simp [State.changeRunState]

/-- The recorder stands when its state is the one that the new run state asks for (R162). -/
theorem changeRunState_rcd_of_settled {x : RunState} (h : s.rcd.state = recorderState s.rcd.table x) :
    (s.changeRunState x).rcd = s.rcd := by
  simp [State.changeRunState, State.settleRecorder, h]

/-! ### Entry to ACTIVE (R9, R115, R151) -/

@[simp] theorem enterActive_rc : s.enterActive.rc = { s.rc with runState := .active } := by
  simp [State.enterActive]

@[simp] theorem enterActive_split : s.enterActive.split = { s.split with tMc := 0 } := by
  simp [State.enterActive]

@[simp] theorem enterActive_store : s.enterActive.store =
    { s.store with timer := some (s.now + s.rc.applied.tCheckpoint * 1000) } := by
  simp [State.enterActive]

@[simp] theorem enterActive_gen : s.enterActive.gen =
    { s.sendOff.gen with dAvg := 0, failCount := 0, inhibit := false } := by
  simp [State.enterActive]

theorem enterActive_minOff : s.enterActive.gen.minOff =
    if s.gen.mgr = .off then s.gen.minOff else some (s.now + s.rc.applied.tMinOff * 1000) := by
  simp

@[simp] theorem enterActive_cut : s.enterActive.cut = s.sendOff.cut := by
  simp [State.enterActive]

@[simp] theorem enterActive_causeActive (c : Cause) : s.enterActive.causeActive c =
    (s.causeActive c && (decide (c ≠ .zoneBreach) || decide (s.gen.mgr = .off))) := by
  rw [causeActive_of_cut (congrArg Cutback.live (enterActive_cut s)), sendOff_causeActive]

theorem enterActive_zoneBreach : s.enterActive.causeActive .zoneBreach =
    (s.causeActive .zoneBreach && decide (s.gen.mgr = .off)) := by
  simp

theorem enterActive_cut_eq : s.enterActive.cut = { s.cut with live := s.enterActive.cut.live } := by
  rw [enterActive_cut]
  exact sendOff_cut_eq s

@[simp] theorem enterActive_hasNotice (k : NoticeKind) (p : Port) :
    (s.enterActive.ports.get p).hasNotice k =
      ((s.sendOff.ports.get p).hasNotice k || decide (k = .runStateChange)) := by
  simp [State.enterActive]

/-- STANDBY and ACTIVE ask for the same recorder state (R162). -/
theorem enterActive_rcd (hr : s.rc.runState = .standby) (h : s.RecorderSettled) : s.enterActive.rcd = s.rcd := by
  have hs : s.sendOff.rcd.state = recorderState s.sendOff.rcd.table .active := by
    simpa [State.RecorderSettled, recorderState, hr] using h
  simp [State.enterActive, changeRunState_rcd_of_settled _ hs]

theorem enterActive_causesTold : s.CausesTold s.enterActive := by
  obtain ⟨hnotice, hlatch⟩ := sendOff_causesTold s
  refine ⟨fun p => ?_, fun p c => ?_⟩
  · simpa using hnotice p
  · simpa [State.causeActive] using hlatch p c

theorem enterActive_noticesWithin : State.NoticesWithin [.runStateChange, .cutbackChange] s s.enterActive := by
  intro p k
  obtain ⟨hkept, hwithin⟩ := sendOff_noticesWithin s p k
  refine ⟨fun h => by simp [hkept h], fun hk => ?_⟩
  obtain ⟨hrun, hcut⟩ := not_or.mp (mt List.mem_cons.mpr hk)
  simp [hrun, hwithin hcut]

theorem enterActive_portChanges (q : Port) : PortChanges [.notices] s s.enterActive q := by
  intro f hf
  cases f <;> first | exact absurd (List.mem_singleton.mpr rfl) hf | simp [PortField.Same]

/-- RUN_ACTIVE with nothing in its way: the entry to ACTIVE, answered OK 0 (R9). -/
theorem exec_runActive_taken {s : State} {p : Port} (hrun : s.running = true) (hv : s.roleOf p = some .vehicle)
    (hr : s.rc.runState = .standby) (hb : s.activeBlocker = none) :
    exec (.runActive p) s =
      .next ((s.modPort p PortState.shiftOut).enterActive.respond p 4#4 (.ok 0#16)) := by
  rw [exec_runActive, request_of_listening s ⟨hrun, by simp [hr]⟩]
  have he : (s.modPort p PortState.shiftOut).requestActive p =
      ((s.modPort p PortState.shiftOut).enterActive, .ok 0#16) := requestActive_taken hv hr hb
  rw [he]

/-- A RUN_ACTIVE that is refused, or asks for the state the part is in, has no effect (R6). -/
theorem exec_runActive_noEffect {s : State} {p : Port} {r : Reply} (hl : s.Listening)
    (he : (s.modPort p PortState.shiftOut).requestActive p = (s.modPort p PortState.shiftOut, r)) :
    ∃ t, exec (.runActive p) s = .next t ∧ Answered s t p 4#4 r.result r.payload ∧ NoEffect s t p :=
  request_noEffect (effect := fun t => t.requestActive p) hl he

/-- Settles O31: what does not enter ACTIVE has no effect, and where nothing blocks, the entry to ACTIVE fixes each block of
the state after the request. -/
theorem runActiveTakenOrBlocked : Obligations.RunActiveTakenOrBlocked := by
  unfold Obligations.RunActiveTakenOrBlocked
  intro p s hrun hv
  refine ⟨fun hr hc hd => ?taken, fun c hr hc ha hmin => ?cause, fun hr hc hd => ?direction, fun hr => ?active,
    fun hr => ?halted⟩
  case taken =>
    have hb : s.activeBlocker = none := by rw [activeBlocker_of_no_cause hc, if_pos hd]
    let u := s.modPort p PortState.shiftOut
    have hanswer : Answered s (u.enterActive.respond p 4#4 (.ok 0#16)) p 4#4 .ok 0#16 :=
      answered_respond _ _ (by simp [u, PortState.shiftOut])
    have hcut : (u.enterActive.respond p 4#4 (.ok 0#16)).cut = u.enterActive.cut := by simp
    refine ⟨_, exec_runActive_taken hrun hv hr hb, hanswer, by simp, by simp, by simp, by simp, by simp, by simp,
      by simp, by simp, by simp, by simp, enterActive_minOff u, by simp,
      (causeActive_of_cut (congrArg Cutback.live hcut) _).trans (enterActive_zoneBreach u), fun c hz => by simp [hz],
      hcut ▸ enterActive_cut_eq u, fun q => by simp, causesTold_respond _ _ (enterActive_causesTold u),
      noticesWithin_respond _ _ (enterActive_noticesWithin u), portsChange_respond _ _ (enterActive_portChanges u),
      fun hs => by simpa [u] using enterActive_rcd u hr hs, fun b hb => ?_⟩
    cases b <;> simp [Block.Same] at hb ⊢
  case cause =>
    have hb : s.activeBlocker = some c.code := activeBlocker_of_cause hc ha hmin
    exact exec_runActive_noEffect ⟨hrun, by simp [hr]⟩ (requestActive_blocked hv hr hb)
  case direction =>
    have hb : s.activeBlocker = some 31 := by rw [activeBlocker_of_no_cause hc, if_neg hd]
    exact exec_runActive_noEffect ⟨hrun, by simp [hr]⟩ (requestActive_blocked hv hr hb)
  case active => exact exec_runActive_noEffect ⟨hrun, by simp [hr]⟩ (requestActive_active hv hr)
  case halted => exact exec_runActive_noEffect ⟨hrun, by simp [hr]⟩ (requestActive_halted hv hr)

end Sys2Proof.Machine
end

section
/-! PROOFS. What a trigger tells the ports, what the raise of a cause does to each block, and the statements about the
cutback unit: the raise and the clear of a cause, and the headline in every response. -/

namespace Sys2Proof.Machine

variable (s : State)

/-! ### What a trigger tells the ports (R168 to R170) -/

/-- The four ways a trigger can go, with the state each leaves, up to the recorder (R168). -/
theorem fireTrigger_cases (c : TriggerCause) :
    (∃ x id, s.fireTrigger c = (s.setRcd x, .merged id)) ∨
    (∃ x, s.fireTrigger c = (s.setRcd x, .missed)) ∨
    (∃ x id, s.fireTrigger c = ((s.setRcd x).openSnapshot c id, .opened id)) ∨
    ∃ x, s.fireTrigger c = (((s.setRcd x).noticeAll .triggerMissed).mapPorts
      fun y => { y with missed := y.missed ||| c.bit }, .tableFull) := by
  unfold State.fireTrigger
  rw [returnLevel_eq]
  dsimp only
  split
  · exact .inl ⟨_, _, rfl⟩
  · split_ifs
    · exact .inr (.inl ⟨_, rfl⟩)
    · split
      · exact .inr (.inr (.inl ⟨_, _, rfl⟩))
      · exact .inr (.inr (.inr ⟨_, rfl⟩))

/-- Which way a trigger goes is a matter of the recorder and the clock alone. -/
theorem fireTrigger_outcome_congr {s t : State} (c : TriggerCause) (hr : t.rcd = s.rcd) (hn : t.now = s.now) :
    (t.fireTrigger c).2 = (s.fireTrigger c).2 := by
  simp only [State.fireTrigger, returnLevel_eq, setRcd_rcd, hr, hn]
  cases (s.rcd.returned s.now).table.findId fun d => d.state == .collecting && d.cause == c with
  | some id => rfl
  | none =>
    split_ifs
    · rfl
    · cases (s.rcd.returned s.now).table.available <;> rfl

/-- The kind of notice that a trigger brings to every port: a snapshot that completes at once, or a full table. -/
def State.triggerTells (c : TriggerCause) : Option NoticeKind :=
  match (s.fireTrigger c).2 with
  | .opened _ => if s.rc.applied.post.get c = 0 then some .snapshotComplete else none
  | .tableFull => some .triggerMissed
  | .merged _ | .missed => none

theorem triggerTells_congr {s t : State} (c : TriggerCause) (hr : t.rcd = s.rcd) (hn : t.now = s.now)
    (ha : t.rc.applied = s.rc.applied) : t.triggerTells c = s.triggerTells c := by
  simp only [State.triggerTells, fireTrigger_outcome_congr c hr hn, ha]

theorem triggerTells_kind {c : TriggerCause} {k : NoticeKind} (h : s.triggerTells c = some k) :
    k = .snapshotComplete ∨ k = .triggerMissed := by
  unfold State.triggerTells at h
  split at h
  · split_ifs at h
    exact .inl (Option.some.inj h).symm
  · exact .inr (Option.some.inj h).symm
  all_goals cases h

@[simp] theorem completed_hasNotice (k : NoticeKind) (p : Port) :
    (s.completed.ports.get p).hasNotice k = ((s.ports.get p).hasNotice k || decide (k = .snapshotComplete)) := by
  simp [State.completed]

@[simp] theorem openSnapshot_hasNotice (c : TriggerCause) (id : BitVec 2) (k : NoticeKind) (p : Port) :
    ((s.openSnapshot c id).ports.get p).hasNotice k =
      ((s.ports.get p).hasNotice k || decide (s.rc.applied.post.get c = 0 ∧ k = .snapshotComplete)) := by
  unfold State.openSnapshot
  dsimp only
  split_ifs with h <;> simp [h]

@[simp] theorem trigger_hasNotice (c : TriggerCause) (k : NoticeKind) (p : Port) :
    ((s.trigger c).ports.get p).hasNotice k =
      ((s.ports.get p).hasNotice k || decide (s.triggerTells c = some k)) := by
  unfold State.triggerTells State.trigger
  obtain ⟨x, id, h⟩ | ⟨x, h⟩ | ⟨x, id, h⟩ | ⟨x, h⟩ := fireTrigger_cases s c <;> rw [h]
  · simp
  · simp
  · simp [eq_comm]
  · rw [mapPorts_get]
    exact (noticeAll_hasNotice _ _ _ _).trans (by simp [eq_comm])

theorem trigger_missed (c : TriggerCause) (p : Port) :
    ((s.trigger c).ports.get p).missed =
      if s.triggerTells c = some .triggerMissed then (s.ports.get p).missed ||| c.bit
      else (s.ports.get p).missed := by
  unfold State.triggerTells State.trigger
  obtain ⟨x, id, h⟩ | ⟨x, h⟩ | ⟨x, id, h⟩ | ⟨x, h⟩ := fireTrigger_cases s c <;> rw [h]
  · simp
  · simp
  · simp
  · simp

/-- What the recorder shows of a trigger does not depend on the rest of the state. -/
theorem trigger_recordedAs {s t : State} (c : TriggerCause) (h : s.RecordedAs t) (hn : t.now = s.now)
    (hrc : t.rc = s.rc) : (s.trigger c).RecordedAs (t.trigger c) := by
  obtain ⟨hr, hmarks⟩ := h
  have htells : t.triggerTells c = s.triggerTells c := triggerTells_congr c hr hn (by rw [hrc])
  refine ⟨trigger_rcd_congr c hr hn (by rw [hrc]) (by rw [hrc]), fun p => ?_⟩
  obtain ⟨hmissed, hcomplete, hfull⟩ := hmarks p
  simp only [trigger_missed, trigger_hasNotice, htells, hmissed, hcomplete, hfull, and_self]

/-! ### The trigger of a raise (R45) -/

/-- The kind of notice that the history trigger of a raise brings. -/
def State.raiseTells (c : Cause) : Option NoticeKind := c.historyTrigger.bind s.triggerTells

theorem raiseTells_congr {s t : State} (c : Cause) (hr : t.rcd = s.rcd) (hn : t.now = s.now)
    (hrc : t.rc = s.rc) : t.raiseTells c = s.raiseTells c := by
  unfold State.raiseTells
  congr 1
  funext x
  exact triggerTells_congr x hr hn (by rw [hrc])

theorem raiseTells_kind {c : Cause} {k : NoticeKind} (h : s.raiseTells c = some k) :
    k = .snapshotComplete ∨ k = .triggerMissed := by
  obtain ⟨x, -, hx⟩ := Option.bind_eq_some_iff.mp h
  exact triggerTells_kind s hx

@[simp] theorem raiseTrigger_hasNotice (c : Cause) (k : NoticeKind) (p : Port) :
    ((s.raiseTrigger c).ports.get p).hasNotice k =
      ((s.ports.get p).hasNotice k || decide (s.raiseTells c = some k)) := by
  unfold State.raiseTrigger State.raiseTells
  cases c.historyTrigger <;> simp

theorem raiseTrigger_recordedAs {s t : State} (c : Cause) (h : s.RecordedAs t) (hn : t.now = s.now)
    (hrc : t.rc = s.rc) : (s.raiseTrigger c).RecordedAs (t.raiseTrigger c) := by
  unfold State.raiseTrigger
  cases c.historyTrigger with
  | none => exact h
  | some x => exact trigger_recordedAs x h hn hrc

/-! ### The raise of a cause (R42, R45, R78) -/

theorem raise_of_active {c : Cause} (h : s.causeActive c = true) : s.raise c = s := if_pos h

theorem raise_of_inactive {c : Cause} (h : s.causeActive c = false) :
    s.raise c = ((s.markRaised c).hardRaise c).raiseTrigger c := by
  simp [State.raise, h]

@[simp] theorem markRaised_hasNotice (c : Cause) (k : NoticeKind) (p : Port) :
    ((s.markRaised c).ports.get p).hasNotice k = ((s.ports.get p).hasNotice k || decide (k = .cutbackChange)) := by
  rw [State.markRaised, noticeAll_hasNotice, mapPorts_get]
  rfl

theorem raise_hasNotice {c : Cause} (h : s.causeActive c = false) (k : NoticeKind) (p : Port) :
    ((s.raise c).ports.get p).hasNotice k =
      ((s.ports.get p).hasNotice k || decide (k = .cutbackChange) || decide (s.raiseTells c = some k)) := by
  have htells : ((s.markRaised c).hardRaise c).raiseTells c = s.raiseTells c :=
    raiseTells_congr c (by simp) (by simp) (by simp)
  simp [raise_of_inactive s h, htells]

theorem raise_allNoticed {c : Cause} (h : s.causeActive c = false) : (s.raise c).AllNoticed .cutbackChange := by
  intro p
  simp [raise_hasNotice s h]

theorem raise_noticesWithin (c : Cause) :
    State.NoticesWithin [.cutbackChange, .snapshotComplete, .triggerMissed] s (s.raise c) := by
  cases h : s.causeActive c
  case true =>
    rw [raise_of_active s h]
    exact noticesWithin_refl s _
  case false =>
    intro p k
    rw [raise_hasNotice s h]
    refine ⟨fun hk => by simp [hk], fun hk => ?_⟩
    have htells : s.raiseTells c ≠ some k := fun ht => by
      obtain rfl | rfl := raiseTells_kind s ht <;> simp at hk
    have hcut : k ≠ .cutbackChange := fun he => by simp [he] at hk
    simp [htells, hcut]

/-- A raise puts the cause into every latch set, and nothing else. -/
theorem raise_has_latch {c : Cause} (h : s.causeActive c = false) (p : Port) (d : Cause) :
    CauseSet.has ((s.raise c).ports.get p).latch d = (CauseSet.has (s.ports.get p).latch d || decide (d = c)) := by
  simp [raise_latch, h]

/-- The recorder sees of a raise its history trigger alone. -/
theorem raise_recordedAs {c : Cause} (h : s.causeActive c = false) : (s.raiseTrigger c).RecordedAs (s.raise c) := by
  have hmarked : s.RecordedAs ((s.markRaised c).hardRaise c) := ⟨by simp, fun p => by simp⟩
  rw [raise_of_inactive s h]
  exact raiseTrigger_recordedAs c hmarked (by simp) (by simp)

theorem hard_iff (c : Cause) : c.hard = true ↔ c = .holdLine ∨ c = .selfCheckFail ∨ c = .linkTraction := by
  cases c <;> decide

theorem takenTRr_of_env {s t : State} (h : t.env = s.env) : t.takenTRr = s.takenTRr := by
  unfold State.takenTRr State.stale
  rw [h]

/-- The raise of a hard cause zeroes the command, and LINK_TRACTION invalidates it (R45, R78, R93). -/
theorem raise_hard {c : Cause} (h : s.causeActive c = false) (hc : c.hard = true) :
    (s.raise c).gen = { s.gen with setpoint := 0 } ∧
    (s.raise c).split = { s.split with
      tMc := 0, grant := 0, lDrive := 0, lRegen := 0, friction := s.takenTRr, source := .hardCause
      valid := if c = .linkTraction then false else s.split.valid } := by
  have hbrake : (s.markRaised c).takenTRr = s.takenTRr := takenTRr_of_env (by simp)
  simp only [raise_of_inactive s h, raiseTrigger_untouched, State.hardRaise, hc, if_true, State.zeroCommand, hbrake]
  split_ifs <;> simp

theorem raise_portChanges (c : Cause) (p : Port) : PortChanges [.notices, .missed, .latch] s (s.raise c) p := by
  intro f hf
  cases f <;> simp [PortField.Same] at hf ⊢

theorem raise_changes (c : Cause) : Changes [.cutback, .split, .genset, .recorder, .ports] s (s.raise c) := by
  intro b hb
  cases b <;> simp [Block.Same] at hb ⊢

/-! ### The clear of a cause (R42, R46) -/

theorem clear_of_inactive {c : Cause} (h : s.causeActive c = false) : s.clear c = s := by
  simp [State.clear, h]

theorem clear_allNoticed {c : Cause} (h : s.causeActive c = true) : (s.clear c).AllNoticed .cutbackChange := by
  intro p
  simp [h]

theorem clear_portChanges (c : Cause) (p : Port) : PortChanges [.notices] s (s.clear c) p := by
  intro f hf
  cases f <;> simp [PortField.Same] at hf ⊢

theorem clear_changes (c : Cause) : Changes [.cutback, .ports] s (s.clear c) := by
  intro b hb
  cases b <;> simp [Block.Same] at hb ⊢

/-! ### The responses of frames (R44, R180, R182) -/

/-- Every command at a port is an exchange there. -/
theorem exec_of_port {i : Instr} {p : Port} (h : i.port = some p) :
    ∃ command effect, exec i s = .next (s.exchange p command effect) := by
  cases i <;> cases h <;> exact ⟨_, _, rfl⟩

/-- An exchange of a running part ends with a response to the state after the frame's effect. -/
theorem exchange_response {p : Port} (command : BitVec 4) (effect : State → State × Reply) (h : s.running = true) :
    let t := s.exchange p command effect
    (t.ports.get p).response.headline = headline t.cut.live ∧
    (t.ports.get p).response.runState = t.rc.runState ∧
    (t.ports.get p).response.attention = t.attention p := by
  simp only [State.exchange, h, if_true, respond_attention, respond_untouched]
  simp [State.respond]

theorem exec_poll (p : Port) : exec (.poll p) s = .next (s.exchange p 0#4 fun t => (t, .ok 0#16)) := rfl

/-- POLL leaves everything but the ports alone (R183). -/
theorem exchange_poll_cut (p : Port) (command : BitVec 4) (r : Reply) :
    (s.exchange p command fun t => (t, r)).cut = s.cut := by
  unfold State.exchange
  split_ifs <;> simp

/-! ### The statements -/

/-- Settles O11: a raise is the marking, the zeroing of a hard cause and the history trigger, and a clear the marking
alone; each conjunct is the fact about that part of the raise or of the clear. -/
theorem causeRaisedAndCleared : Obligations.CauseRaisedAndCleared := by
  unfold Obligations.CauseRaisedAndCleared
  intro c s
  refine ⟨by simp [State.hardActive, or_assoc], rfl, raise_of_active s, clear_of_inactive s, fun h => ?raise,
    fun h => ?clear⟩
  case raise =>
    have hrecorded := raise_recordedAs s h
    refine ⟨fun d => by simp, fun p d => by simp [raise_has_latch s h], raise_allNoticed s h,
      fun hc => raise_hard s h ((hard_iff c).mpr hc), fun hhold hcheck htraction => raise_soft s c ?soft, ?recorded,
      by simp, raise_noticesWithin s c, raise_portChanges s c, raise_changes s c⟩
    case soft =>
      rw [Bool.eq_false_iff, ne_eq, hard_iff]
      exact fun hc => hc.elim hhold fun hc => hc.elim hcheck htraction
    case recorded => cases c <;> exact hrecorded
  case clear =>
    exact ⟨fun d => by simp, clear_allNoticed s h, by simp, clear_noticesWithin rfl c, clear_changes s c,
      clear_portChanges s c⟩

/-- Settles O12: the headline is the least code found in the set, and each command at a port is an exchange whose
response is made ready from the state after the frame's effect. -/
theorem headlineShowsLowestCause : Obligations.HeadlineShowsLowestCause := by
  unfold Obligations.HeadlineShowsLowestCause
  refine ⟨fun live hnone => ?empty, fun live c hc hmin => ?lowest, fun i p s hp hrun => ?response, fun p s => ?poll⟩
  case empty =>
    rw [headline, lowestCode_eq_none le_rfl fun c _ => hnone c]
    rfl
  case lowest =>
    rw [headline, lowestCode_eq_some (cause_code_lt c) hc hmin]
    rfl
  case response =>
    obtain ⟨command, effect, hexec⟩ := exec_of_port s hp
    exact ⟨_, hexec, exchange_response s command effect hrun⟩
  case poll => exact ⟨_, exec_poll s p, exchange_poll_cut s p _ _⟩

end Sys2Proof.Machine
end

section
/-! PROOFS. What an evaluation that falls due leaves in the split engine, the five cases of the ramp, and the statement
about the ramp. -/

namespace Sys2Proof.Machine

variable (s : State)

/-! ### An evaluation that falls due (R59, R62) -/

/-- The genset manager's step and the energy counters leave the results of the stages as they are. -/
@[simp] theorem evaluate_split : s.evaluate.split = s.evaluated := by simp [State.evaluate]

theorem evaluationTimer_of_runState {s : State} (h : s.rc.runState = .standby ∨ s.rc.runState = .active) :
    s.evaluationTimer = s.split.evalDue := by
  obtain h | h := h <;> simp [State.evaluationTimer, h]

theorem exec_evaluation_of_due {s : State} {d : Nat} (hrun : s.running = true)
    (hstate : s.rc.runState = .standby ∨ s.rc.runState = .active) (hdue : s.split.evalDue = some d) :
    exec .evaluation s = .next (s.arrive d).evaluate := by
  have hexec : exec .evaluation s = .next (s.timed s.evaluationTimer State.evaluate) := rfl
  rw [hexec, evaluationTimer_of_runState hstate, hdue, State.timed, if_pos hrun]

/-! ### The ramp (R71) -/

section
variable (a : Settings) {prev q : Int}

theorem ramp_drive_builds (h : 0 ≤ prev) (hq : prev < q) : ramp a prev q = prev + min (q - prev) a.upDrive := by
  rw [ramp, if_pos hq, if_pos h]

theorem ramp_drive_releases (h : 0 < prev) (hq : q < prev) :
    ramp a prev q = prev - min (prev - max q 0) a.downDrive := by
  rw [ramp, if_neg hq.not_gt, if_pos hq, if_pos h]

theorem ramp_regen_builds (h : prev ≤ 0) (hq : q < prev) : ramp a prev q = prev - min (prev - q) a.upRegen := by
  rw [ramp, if_neg hq.not_gt, if_pos hq, if_neg h.not_gt]

theorem ramp_regen_releases (h : prev < 0) (hq : prev < q) :
    ramp a prev q = prev + min (min q 0 - prev) a.downRegen := by
  rw [ramp, if_pos hq, if_neg h.not_ge]

theorem ramp_holds : ramp a prev prev = prev := by
  rw [ramp, if_neg (lt_irrefl prev), if_neg (lt_irrefl prev)]

/-- A step of the ramp goes neither past the requested value nor away from it. -/
theorem ramp_between (prev q : Int) : min prev q ≤ ramp a prev q ∧ ramp a prev q ≤ max prev q := by
  obtain hq | rfl | hq := lt_trichotomy prev q
  · obtain h | h := le_or_gt 0 prev
    · rw [ramp_drive_builds a h hq]
      omega
    · rw [ramp_regen_releases a h hq]
      omega
  · rw [ramp_holds]
    omega
  · obtain h | h := lt_or_ge 0 prev
    · rw [ramp_drive_releases a h hq]
      omega
    · rw [ramp_regen_builds a h hq]
      omega

end

/-! ### The statement -/

/-- Settles O42: an evaluation that falls due leaves the clamp of the ramped value, and each conjunct is the case of the
ramp for that standing torque and requested value. -/
theorem evaluationRampsTowardRequest : Obligations.EvaluationRampsTowardRequest := by
  unfold Obligations.EvaluationRampsTowardRequest
  refine ⟨fun d s hrun hstate hdue => ?ramped, rfl, rfl, rfl, rfl⟩
  obtain ⟨hmin, hmax⟩ := ramp_between s.rc.applied s.split.tMc (s.arrive d).evalQ
  refine ⟨(s.arrive d).evaluate, ramp s.rc.applied s.split.tMc (s.arrive d).evalQ,
    exec_evaluation_of_due hrun hstate hdue, ?_⟩
  rw [evaluate_split]
  exact ⟨rfl, ramp_drive_builds _, ramp_drive_releases _, ramp_regen_builds _, ramp_regen_releases _,
    fun hq => (congrArg _ hq).trans (ramp_holds _), hmin, hmax⟩

end Sys2Proof.Machine
end

section
/-! PROOFS. What an exchange does in a part that listens and in one that checks itself, the fetch of a dump context, READs
and WRITEs at the address of the dump stream, and the statement about the stream. -/

namespace Sys2Proof.Machine

variable (s : State)

/-! ### READ and WRITE frames as exchanges (R13, R180) -/

theorem exec_of_isRead {i : Instr} {p : Port} {advance : Bool} (h : IsRead i p advance) :
    exec i s = .next (s.heldExchange p 2#4 fun t => t.readFrame p advance) := by
  obtain rfl | rfl | rfl | rfl | rfl | rfl := h <;> rfl

theorem exec_of_isWrite {i : Instr} {p : Port} {advance : Bool} {word : Word} (h : IsWrite i p advance word) :
    exec i s = .next (s.heldExchange p 3#4 fun t => t.writeFrame p advance word) := by
  obtain rfl | rfl | rfl | rfl := h <;> rfl

section
variable {s : State} (p : Port) (command : BitVec 4)

theorem heldExchange_of_listening (h : s.Listening) (effect : State → State × Reply) :
    s.heldExchange p command effect =
      (effect (s.modPort p PortState.shiftOut)).1.respond p command (effect (s.modPort p PortState.shiftOut)).2 := by
  obtain ⟨hrun, hstate⟩ := h
  simp [State.heldExchange, State.exchange, hrun, hstate]

theorem heldExchange_of_selfCheck (hrun : s.running = true) (hstate : s.rc.runState = .selfCheck)
    (effect : State → State × Reply) :
    s.heldExchange p command effect = (s.modPort p PortState.shiftOut).respond p command .hold := by
  simp [State.heldExchange, State.exchange, hrun, hstate]

end

theorem answered_shiftOut_respond (p : Port) (command : BitVec 4) (r : Reply) :
    Answered s ((s.modPort p PortState.shiftOut).respond p command r) p command r.result r.payload :=
  answered_respond _ _ (by simp [PortState.shiftOut])

/-- An effect on the port of its frame alone reaches no other port and no other block. -/
theorem onlyPort_modPort_respond {fields : List PortField} (p : Port) (f : PortState → PortState)
    (command : BitVec 4) (r : Reply) (hframe : .frame ∈ fields)
    (h : ∀ g ∉ fields, g.Same (s.ports.get p).shiftOut (f (s.ports.get p).shiftOut)) :
    OnlyPort fields s (((s.modPort p PortState.shiftOut).modPort p f).respond p command r) p := by
  refine ⟨fun b hb => ?blocks, fun q hq => ?others, fun g hg => ?fields⟩
  case blocks => cases b <;> simp [Block.Same] at hb ⊢
  case others => simp [State.respond, hq]
  case fields =>
    have hsame := h g hg
    cases g
    case frame => exact absurd hframe hg
    all_goals simpa [PortField.Same, PortState.shiftOut] using hsame

/-! ### The retained sample of a number (R161) -/

theorem mem_ring_of_sampleNumber {x : Recorder} {k : Nat} {y : Sample} (h : x.sampleNumber k = some y) :
    y ∈ x.ring ∧ y.number = k :=
  ⟨List.mem_of_find?_eq_some h, by simpa using List.find?_some h⟩

theorem number_ne_of_sampleNumber_eq_none {x : Recorder} {k : Nat} (h : x.sampleNumber k = none) (y : Sample)
    (hy : y ∈ x.ring) : y.number ≠ k := by
  simpa using List.find?_eq_none.mp h y hy

/-! ### The fetch of a dump context (R176) -/

theorem mayFetch_iff (d : DumpContext) (r : Recorder) :
    d.mayFetch r = true ↔
      d.status = .streaming ∧ d.queue.length + 10 ≤ 16 ∧ d.next ≤ d.last ∧ d.next < r.next := by
  simp [DumpContext.mayFetch, Config.sampleWords, Config.queueSize, and_assoc]

/-- A fetch brings the sample's words and the next sample's number, and the last sample ends the stream. -/
theorem fetch_of_mayFetch {d : DumpContext} {r : Recorder} {x : Sample} (h : d.mayFetch r = true)
    (hx : r.sampleNumber d.next = some x) :
    d.fetch r = { d with
      queue := d.queue ++ x.words, next := d.next + 1
      status := if d.next = d.last then .ended else .streaming
      reason := if d.next = d.last then some .done else d.reason } := by
  obtain ⟨hstatus, -⟩ := (mayFetch_iff d r).mp h
  simp only [DumpContext.fetch, h, if_true, hx, DumpContext.fetched]
  split_ifs
  · rfl
  · rw [← hstatus]

theorem fetch_of_not_mayFetch {d : DumpContext} {r : Recorder} (h : d.mayFetch r = false) : d.fetch r = d := by
  simp [DumpContext.fetch, h]

/-! ### The dump stream (R177) -/

/-- The answer to a READ of the stream that finds the queue empty. -/
def DumpContext.emptyReply (d : DumpContext) : Reply :=
  match d.status with
  | .streaming => .hold
  | .ended => ⟨.end_, (reasonCode d.reason).setWidth 16⟩
  | .idle => ⟨.end_, 0#16⟩

theorem emptyReply_streaming {d : DumpContext} (h : d.status = .streaming) : d.emptyReply = .hold := by
  rw [DumpContext.emptyReply, h]

theorem emptyReply_ended {d : DumpContext} {reason : Option EndReason} (h : d.status = .ended)
    (hr : d.reason = reason) : d.emptyReply = ⟨.end_, (reasonCode reason).setWidth 16⟩ := by
  rw [DumpContext.emptyReply, h, hr]

theorem emptyReply_idle {d : DumpContext} (h : d.status = .idle) : d.emptyReply = ⟨.end_, 0#16⟩ := by
  rw [DumpContext.emptyReply, h]

theorem emptyReply_not_ok (d : DumpContext) : d.emptyReply.result ≠ .ok := by
  cases h : d.status
  case idle => simp [emptyReply_idle h]
  case streaming => simp [emptyReply_streaming h, Reply.hold]
  case ended => simp [emptyReply_ended h rfl]

variable {s}

theorem readStream_of_word {p : Port} {w : Word} {rest : List Word} (h : (s.ports.get p).dump.queue = w :: rest) :
    s.readStream p =
      (s.modPort p fun x => { x with dump := { (s.ports.get p).dump with queue := rest }.fetch s.rcd }, .ok w) := by
  simp only [State.readStream, h]

theorem readStream_of_empty {p : Port} (h : (s.ports.get p).dump.queue = []) :
    s.readStream p = (s, (s.ports.get p).dump.emptyReply) := by
  simp only [State.readStream, h]
  cases hstatus : (s.ports.get p).dump.status
  case idle => rw [emptyReply_idle hstatus]
  case streaming => rw [emptyReply_streaming hstatus]
  case ended => rw [emptyReply_ended hstatus rfl]

theorem readAt_stream {p : Port} {a : Address} (h : a = 0x140#10) : s.readAt p a.toNat = s.readStream p := by
  subst h
  rfl

theorem writeAt_stream {p : Port} {a : Address} (h : a = 0x140#10) (w : Word) :
    s.writeAt p a.toNat w = (s.discardAssembly p, .access) := by
  subst h
  rfl

/-- The port after a READ has taken a word: its dump is `d`, and the read cursor has advanced if it is to. -/
def PortState.wordTaken (advance : Bool) (d : DumpContext) (x : PortState) : PortState :=
  { x with dump := d, cursors := if advance then x.cursors.advancedRead else x.cursors }

theorem readFrame_of_word {p : Port} (advance : Bool) {w : Word} {rest : List Word}
    (ha : (s.ports.get p).cursors.readAddress = 0x140#10) (hq : (s.ports.get p).dump.queue = w :: rest) :
    s.readFrame p advance =
      (s.modPort p (PortState.wordTaken advance ({ (s.ports.get p).dump with queue := rest }.fetch s.rcd)), .ok w) := by
  rw [State.readFrame, readAt_stream ha, readStream_of_word hq]
  cases advance
  case false => rfl
  case true => cases p <;> rfl

theorem readFrame_of_empty {p : Port} (advance : Bool) (ha : (s.ports.get p).cursors.readAddress = 0x140#10)
    (hq : (s.ports.get p).dump.queue = []) :
    s.readFrame p advance = (s, (s.ports.get p).dump.emptyReply) := by
  rw [State.readFrame, readAt_stream ha, readStream_of_empty hq]
  exact if_neg fun h => emptyReply_not_ok _ h.2

theorem writeFrame_of_stream {p : Port} (advance : Bool) (w : Word)
    (ha : (s.ports.get p).cursors.writeAddress = 0x140#10) :
    s.writeFrame p advance w = (s.discardAssembly p, .access) := by
  rw [State.writeFrame, writeAt_stream ha]
  exact if_neg fun h => nomatch h.2

/-! ### The statement -/

/-- The state after a READ of the stream that takes a word of which `rest` are left. -/
def State.afterWord (s : State) (p : Port) (advance : Bool) (w : Word) (rest : List Word) : State :=
  let d := { (s.ports.get p).dump with queue := rest }.fetch s.rcd
  ((s.modPort p PortState.shiftOut).modPort p (PortState.wordTaken advance d)).respond p 2#4 (.ok w)

theorem exec_read_of_word {i : Instr} {p : Port} {advance : Bool} {w : Word} {rest : List Word}
    (hi : IsRead i p advance) (hl : s.Listening) (ha : (s.ports.get p).cursors.readAddress = 0x140#10)
    (hq : (s.ports.get p).dump.queue = w :: rest) : exec i s = .next (s.afterWord p advance w rest) := by
  have hframe := readFrame_of_word (s := s.modPort p PortState.shiftOut) (p := p) advance
    (by simpa [PortState.shiftOut] using ha) (by simpa [PortState.shiftOut] using hq)
  rw [exec_of_isRead s hi, heldExchange_of_listening p _ hl, hframe]
  simp [State.afterWord, PortState.shiftOut]

theorem exec_read_of_empty {i : Instr} {p : Port} {advance : Bool} (hi : IsRead i p advance) (hl : s.Listening)
    (ha : (s.ports.get p).cursors.readAddress = 0x140#10) (hq : (s.ports.get p).dump.queue = []) :
    exec i s =
      .next ((s.modPort p PortState.shiftOut).respond p 2#4 (s.ports.get p).dump.emptyReply) := by
  have hframe := readFrame_of_empty (s := s.modPort p PortState.shiftOut) (p := p) advance
    (by simpa [PortState.shiftOut] using ha) (by simpa [PortState.shiftOut] using hq)
  rw [exec_of_isRead s hi, heldExchange_of_listening p _ hl, hframe]
  simp [PortState.shiftOut]

theorem exec_write_of_stream {i : Instr} {p : Port} {advance : Bool} {word : Word} (hi : IsWrite i p advance word)
    (hl : s.Listening) (ha : (s.ports.get p).cursors.writeAddress = 0x140#10) :
    exec i s = .next (((s.modPort p PortState.shiftOut).discardAssembly p).respond p 3#4 .access) := by
  have hframe := writeFrame_of_stream (s := s.modPort p PortState.shiftOut) (p := p) advance word
    (by simpa [PortState.shiftOut] using ha)
  rw [exec_of_isWrite s hi, heldExchange_of_listening p _ hl, hframe]

variable (s)

@[simp] theorem afterWord_dump (p : Port) (advance : Bool) (w : Word) (rest : List Word) :
    ((s.afterWord p advance w rest).ports.get p).dump = { (s.ports.get p).dump with queue := rest }.fetch s.rcd := by
  simp [State.afterWord, PortState.wordTaken]

theorem afterWord_answered (p : Port) (advance : Bool) (w : Word) (rest : List Word) :
    Answered s (s.afterWord p advance w rest) p 2#4 .ok w :=
  answered_respond _ _ (by simp [PortState.wordTaken, PortState.shiftOut])

theorem afterWord_onlyPort (p : Port) (advance : Bool) (w : Word) (rest : List Word) :
    OnlyPort [.cursors, .frame, .dump] s (s.afterWord p advance w rest) p := by
  refine onlyPort_modPort_respond s p _ _ _ (by simp) fun g hg => ?_
  cases g <;> simp [PortField.Same, PortState.wordTaken] at hg ⊢

/-- Settles O19: a word taken leaves the fetch of the shortened context, an empty queue leaves the state with the answer
of the context's status, a WRITE is one elsewhere, and a self-check holds the frame. -/
theorem dumpStreamAnswers : Obligations.DumpStreamAnswers := by
  unfold Obligations.DumpStreamAnswers
  refine ⟨fun i p advance s hi hl ha => ⟨fun w rest hq => ?word, fun hq => ?empty⟩,
    fun i p advance word s hi hl ha => ?write, fun i p advance s hi hrun hstate => ?held,
    fun x k => ⟨fun y => mem_ring_of_sampleNumber, number_ne_of_sampleNumber_eq_none⟩⟩
  case word =>
    refine ⟨_, exec_read_of_word hi hl ha hq, afterWord_answered s p advance w rest,
      afterWord_onlyPort s p advance w rest, fun x hstatus hroom hlast hnext hx => ?fetched, fun hnot => ?kept⟩
    case fetched =>
      rw [afterWord_dump]
      exact fetch_of_mayFetch ((mayFetch_iff _ _).mpr ⟨hstatus, hroom, hlast, hnext⟩) hx
    case kept =>
      rw [afterWord_dump]
      refine fetch_of_not_mayFetch (Bool.eq_false_iff.mpr fun hmay => ?_)
      obtain ⟨hstatus, hroom, hlast, hnext⟩ := (mayFetch_iff _ _).mp hmay
      obtain h | h | h | h := hnot
      · exact h hstatus
      · dsimp only at hroom
        omega
      · exact h.not_ge hlast
      · exact h.not_gt hnext
  case empty =>
    have hanswer : ∀ r, (s.ports.get p).dump.emptyReply = r → Answered s
        ((s.modPort p PortState.shiftOut).respond p 2#4 (s.ports.get p).dump.emptyReply) p 2#4 r.result r.payload :=
      fun r hr => hr ▸ answered_shiftOut_respond s p 2#4 _
    exact ⟨_, exec_read_of_empty hi hl ha hq, noEffect_respond s p _ _,
      fun h => hanswer _ (emptyReply_streaming h), fun h hr => hanswer _ (emptyReply_ended h hr),
      fun h hr => hanswer _ (emptyReply_ended h hr), fun h hr => hanswer _ (emptyReply_ended h hr),
      fun h => hanswer _ (emptyReply_idle h)⟩
  case write =>
    refine ⟨_, exec_write_of_stream hi hl ha, answered_respond _ _ (by simp [PortState.shiftOut]), ?_⟩
    refine onlyPort_modPort_respond s p _ _ _ (by simp) fun g hg => ?_
    cases g <;> simp [PortField.Same] at hg ⊢
  case held =>
    refine ⟨_, exec_of_isRead s hi, ?_⟩
    rw [heldExchange_of_selfCheck p _ hrun hstate]
    exact ⟨answered_shiftOut_respond s p _ .hold, noEffect_respond s p _ _⟩

end Sys2Proof.Machine
end

section
/-! PROOFS. The cursors of a port in another mode, what CURSOR_MODE does at its port, and the statement about it. -/

namespace Sys2Proof.Machine

/-! ### The cursors in another mode (R186) -/

@[simp] theorem inMode_joined_of_joined (a : Address) : (Cursors.joined a).inMode false = .joined a := rfl

@[simp] theorem inMode_split_of_joined (a : Address) : (Cursors.joined a).inMode true = .split a a := rfl

/-- The joined cursor stands where the write cursor stood. -/
@[simp] theorem inMode_joined_of_split (r w : Address) : (Cursors.split r w).inMode false = .joined w := rfl

@[simp] theorem inMode_split_of_split (r w : Address) : (Cursors.split r w).inMode true = .split r w := rfl

/-! ### CURSOR_MODE as a request -/

variable {s : State} {p : Port} {operand : BitVec 5}

/-- The port after a CURSOR_MODE that is taken. -/
def PortState.inMode (split : Bool) (x : PortState) : PortState := { x with cursors := x.cursors.inMode split }

theorem exec_cursorMode : exec (.cursorMode p operand) s = s.request p fun t => t.requestCursorMode p operand := rfl

theorem requestCursorMode_taken (h : operand.toNat ≤ 1) :
    s.requestCursorMode p operand =
      (s.modPort p (PortState.inMode (operand == 1#5)), .ok (operand.setWidth 16)) :=
  if_neg h.not_gt

theorem requestCursorMode_refused (h : 1 < operand.toNat) : s.requestCursorMode p operand = (s, .value 0) :=
  if_pos h

/-- An operand that names a mode is answered OK with it, and of its port and the rest of the state the cursors alone
take up the mode. -/
theorem exec_cursorMode_taken (hl : s.Listening) (h : operand.toNat ≤ 1) :
    ∃ t, exec (.cursorMode p operand) s = .next t ∧ Answered s t p 4#4 .ok (operand.setWidth 16) ∧
      OnlyPort [.cursors, .frame] s t p ∧
      (t.ports.get p).cursors = (s.ports.get p).cursors.inMode (operand == 1#5) := by
  refine ⟨_, exec_cursorMode.trans (request_of_listening s hl p _), ?_⟩
  rw [requestCursorMode_taken h]
  refine ⟨answered_respond _ _ ?dataOut, onlyPort_modPort_respond s p _ _ _ (by simp) fun g hg => ?fields, ?cursors⟩
  case dataOut => simp [PortState.inMode, PortState.shiftOut]
  case fields => cases g <;> simp [PortField.Same, PortState.inMode] at hg ⊢
  case cursors => simp [PortState.inMode, PortState.shiftOut]

theorem exec_cursorMode_refused (hl : s.Listening) (h : 1 < operand.toNat) :
    ∃ t, exec (.cursorMode p operand) s = .next t ∧ Answered s t p 4#4 .value 0#16 ∧ NoEffect s t p :=
  request_noEffect (effect := fun t => t.requestCursorMode p operand) hl (requestCursorMode_refused h)

/-! ### The statement -/

/-- Settles O15: operands 0 and 1 put the cursors into their mode, where each kind of cursors is a case of its own, and
a greater operand leaves the state as the request finds it. -/
theorem cursorModeSwitches : Obligations.CursorModeSwitches := by
  unfold Obligations.CursorModeSwitches
  refine ⟨fun p operand => rfl, fun p s hl => ⟨?joined, ?split, fun operand h => exec_cursorMode_refused hl h⟩⟩
  case joined =>
    obtain ⟨t, hexec, hanswer, honly, hcursors⟩ := exec_cursorMode_taken (p := p) (operand := 0#5) hl (by decide)
    exact ⟨t, hexec, hanswer, honly, fun a ha => by simp [hcursors, ha], fun r w hrw => by simp [hcursors, hrw]⟩
  case split =>
    obtain ⟨t, hexec, hanswer, honly, hcursors⟩ := exec_cursorMode_taken (p := p) (operand := 1#5) hl (by decide)
    exact ⟨t, hexec, hanswer, honly, fun a ha => by simp [hcursors, ha], fun r w hrw => by simp [hcursors, hrw]⟩

end Sys2Proof.Machine
end

section
/-! PROOFS. The role binding from the strap codes, fields and flags read back from a packed word, READs of words that stand
as they are, and the statement about the identification words. -/

namespace Sys2Proof.Machine

/-! ### The role binding (R1 to R3) -/

theorem mem_allPorts (p : Port) : p ∈ allPorts := by cases p <;> decide

theorem mem_allRoles (r : Role) : r ∈ allRoles := by cases r <;> decide

theorem roleOfStrap_eq_some_iff (code : BitVec 3) (r : Role) : roleOfStrap code = some r ↔ code = r.strap := by
  revert code
  cases r <;> decide

/-- Of the codes of three bits, 6 and 7 are those above the roles' (R2). -/
theorem six_le_strap_iff : ∀ code : BitVec 3, 6 ≤ code.toNat ↔ code = 6#3 ∨ code = 7#3 := by decide

section
variable (straps : PerPort (BitVec 3)) (p : Port)

theorem sharesStrap_iff : sharesStrap straps p = true ↔ ∃ q, q ≠ p ∧ straps.get q = straps.get p := by
  simp [sharesStrap, mem_allPorts]

theorem strapInvalid_iff : strapInvalid straps p = true ↔ straps.get p = 6#3 ∨ straps.get p = 7#3 := by
  rw [strapInvalid, decide_eq_true_iff, six_le_strap_iff]

/-- A port is bound to the role its code asks for when no other port has that code. -/
theorem boundRole_eq_some_iff (r : Role) :
    boundRole straps p = some r ↔ straps.get p = r.strap ∧ ∀ q, q ≠ p → straps.get q ≠ r.strap := by
  unfold boundRole
  split_ifs with hshared
  case pos =>
    obtain ⟨q, hq, hsame⟩ := (sharesStrap_iff straps p).mp hshared
    exact iff_of_false (by simp) fun ⟨hp, halone⟩ => halone q hq (hsame.trans hp)
  case neg =>
    rw [roleOfStrap_eq_some_iff]
    exact iff_self_and.mpr fun hp q hq hcode =>
      hshared ((sharesStrap_iff straps p).mpr ⟨q, hq, hcode.trans hp.symm⟩)

theorem strapDuplicate_iff : strapDuplicate straps p = true ↔
    ∃ (r : Role) (q : Port), q ≠ p ∧ straps.get p = r.strap ∧ straps.get q = r.strap := by
  rw [strapDuplicate, Bool.and_eq_true, Option.isSome_iff_exists, sharesStrap_iff]
  simp only [roleOfStrap_eq_some_iff]
  constructor
  · rintro ⟨⟨r, hp⟩, q, hq, hsame⟩
    exact ⟨r, q, hq, hp, hsame.trans hp⟩
  · rintro ⟨r, q, hq, hp, hcode⟩
    exact ⟨⟨r, hp⟩, q, hq, hcode.trans hp.symm⟩

theorem roleHasPort_iff (r : Role) : roleHasPort straps r = true ↔ ∃ q, boundRole straps q = some r := by
  simp [roleHasPort, mem_allPorts]

theorem bindingComplete_iff : bindingComplete straps = true ↔ ∀ r, ∃ q, boundRole straps q = some r := by
  simp [bindingComplete, mem_allRoles, roleHasPort_iff]

end

/-! ### Fields and flags read back from a packed word (R196)

The rules speak of `getLsbD`, so a proof that uses them keeps `simp` from turning it into `getElem`. -/

section
variable {n : Nat}

@[simp] theorem extractLsb'_fieldAt_same (x : BitVec n) {k : Nat} (h : k + n ≤ 16) :
    (fieldAt x k).extractLsb' k n = x := by
  ext i hi
  have hword : k + i < 16 := by omega
  simp [fieldAt, hword, hi]

@[simp] theorem getLsbD_fieldAt_outside (x : BitVec n) {k i : Nat} (h : i < k ∨ k + n ≤ i) :
    (fieldAt x k).getLsbD i = false := by
  obtain hlow | hhigh := h
  · simp [fieldAt, hlow]
  · have hpast : n ≤ i - k := by omega
    simp [fieldAt, BitVec.getLsbD_of_ge x _ hpast]

@[simp] theorem extractLsb'_fieldAt_outside (x : BitVec n) {k j m : Nat} (h : j + m ≤ k ∨ k + n ≤ j) :
    (fieldAt x k).extractLsb' j m = 0#m := by
  ext i hi
  simp [getLsbD_fieldAt_outside x (k := k) (i := j + i) (by omega)]

@[simp] theorem getLsbD_flagAt_same (b : Bool) {k : Nat} (h : k < 16) : (flagAt b k).getLsbD k = b := by
  cases b <;> simp [flagAt, h]

@[simp] theorem getLsbD_flagAt_other (b : Bool) {k i : Nat} (h : i ≠ k) : (flagAt b k).getLsbD i = false := by
  cases b
  case false => simp [flagAt]
  case true =>
    have hbit : k ≤ i → i - k ≠ 0 := by omega
    simpa [flagAt] using fun _ => hbit

@[simp] theorem extractLsb'_flagAt_outside (b : Bool) {k j m : Nat} (h : k < j ∨ j + m ≤ k) :
    (flagAt b k).extractLsb' j m = 0#m := by
  ext i hi
  simp [getLsbD_flagAt_other b (k := k) (i := j + i) (by omega)]

end

/-! ### The packed identification words (R4, R196) -/

variable (s : State)

section
variable (q : Port)

theorem bindingWord_strap : (s.bindingWord q).extractLsb' 0 3 = s.rc.straps.get q := by
  simp [State.bindingWord, BitVec.extractLsb'_or]

theorem bindingWord_role : (s.bindingWord q).extractLsb' 3 3 = ((s.roleOf q).map Role.strap).getD 0#3 := by
  simp [State.bindingWord, State.roleOf, BitVec.extractLsb'_or]

theorem bindingWord_invalid : (s.bindingWord q).getLsbD 6 = strapInvalid s.rc.straps q := by
  simp [State.bindingWord, -BitVec.getLsbD_eq_getElem]

theorem bindingWord_duplicate : (s.bindingWord q).getLsbD 7 = strapDuplicate s.rc.straps q := by
  simp [State.bindingWord, -BitVec.getLsbD_eq_getElem]

end

theorem bindingSummary_complete : s.bindingSummary.getLsbD 0 = bindingComplete s.rc.straps := by
  simp [State.bindingSummary, -BitVec.getLsbD_eq_getElem]

theorem bindingSummary_drivesHold : s.bindingSummary.getLsbD 1 = s.drivesHold := by
  simp [State.bindingSummary, -BitVec.getLsbD_eq_getElem]

/-- Three bits hold every port's number and the 7 of an unclaimed staged copy. -/
theorem claimNumber_lt (claim : Option Port) : (claim.map Port.number).getD 7 < 8 := by
  cases claim with
  | none => decide
  | some q => cases q <;> decide

theorem bindingSummary_claim :
    (s.bindingSummary.extractLsb' 4 3).toNat = (s.rc.claim.map Port.number).getD 7 := by
  have hfield : s.bindingSummary.extractLsb' 4 3 = BitVec.ofNat 3 ((s.rc.claim.map Port.number).getD 7) := by
    simp [State.bindingSummary, BitVec.extractLsb'_or]
  rw [hfield, BitVec.toNat_ofNat]
  exact Nat.mod_eq_of_lt (claimNumber_lt s.rc.claim)

theorem resultWord_done : s.resultWord.getLsbD 15 = s.rc.checkDone := by
  simp [State.resultWord, -BitVec.getLsbD_eq_getElem]

theorem resultWord_fail : s.resultWord.getLsbD 14 = s.rc.checkFail := by
  simp [State.resultWord, -BitVec.getLsbD_eq_getElem]

theorem resultWord_step : s.resultWord.extractLsb' 0 2 = s.rc.checkStep := by
  simp [State.resultWord, BitVec.extractLsb'_or]

/-! ### READs that find no record of the capture class (R185, R187) -/

/-- The response to a READ is that of the address, and the move of the cursor leaves data out as it is. -/
theorem readFrame_of_reply {p : Port} (advance : Bool) {r : Reply}
    (h : s.readAt p (s.ports.get p).cursors.readAddress.toNat = (s, r)) :
    (s.readFrame p advance).2 = r ∧ ((s.readFrame p advance).1.ports.get p).dataOut = (s.ports.get p).dataOut := by
  rw [State.readFrame, h]
  split_ifs <;> simp

/-- A READ at an address that leaves the state as it finds it is answered as that address answers. -/
theorem exec_read_answered {s : State} {i : Instr} {p : Port} {advance : Bool} {r : Reply} (hi : IsRead i p advance)
    (hl : s.Listening)
    (hread : (s.modPort p PortState.shiftOut).readAt p (s.ports.get p).cursors.readAddress.toNat =
      (s.modPort p PortState.shiftOut, r)) :
    ∃ t, exec i s = .next t ∧ Answered s t p 2#4 r.result r.payload := by
  obtain ⟨hreply, hdata⟩ := readFrame_of_reply (s.modPort p PortState.shiftOut) (p := p) advance
    (by simpa [PortState.shiftOut] using hread)
  refine ⟨_, exec_of_isRead s hi, ?_⟩
  rw [heldExchange_of_listening p _ hl, hreply]
  exact answered_respond _ _ (hdata.trans (by simp [PortState.shiftOut]))

theorem exec_read_held {s : State} {i : Instr} {p : Port} {advance : Bool} (hi : IsRead i p advance)
    (hrun : s.running = true) (hstate : s.rc.runState = .selfCheck) :
    ∃ t, exec i s = .next t ∧ Answered s t p 2#4 .hold 0#16 := by
  refine ⟨_, exec_of_isRead s hi, ?_⟩
  rw [heldExchange_of_selfCheck p _ hrun hstate]
  exact answered_shiftOut_respond s p _ .hold

/-! ### READs of the identification words (R199) -/

/-- Addresses 000h to 00Fh lie below every capture-class record and the dump stream. -/
theorem readAt_ident (p : Port) {a : Nat} (ha : a < 16) :
    s.readAt p a = (s, ((s.identWord a).map Reply.ok).getD .access) := by
  have hrecord : recordAt a = none := by
    interval_cases a <;> rfl
  have hstream : a ≠ streamAddress := by
    simp only [streamAddress]
    omega
  simp only [State.readAt, hrecord, hstream, if_false, State.plainWord, if_pos ha]
  cases s.identWord a <;> rfl

/-- The identification words show run control and the cutback unit, and nothing of the ports. -/
theorem identWord_modPort (p : Port) (f : PortState → PortState) (a : Nat) :
    (s.modPort p f).identWord a = s.identWord a := rfl

@[simp] theorem identWord_port (q : Port) : s.identWord (4 + q.number) = some (s.bindingWord q) := by
  cases q <;> rfl

theorem identWord_unassigned {a : Nat} (h : 11 ≤ a ∧ a ≤ 15) : s.identWord a = none := by
  obtain ⟨hlow, hhigh⟩ := h
  interval_cases a <;> rfl

theorem port_number_le (q : Port) : q.number ≤ 4 := by cases q <;> decide

section
variable {s} {i : Instr} {p : Port} {advance : Bool}

theorem exec_read_identWord (hi : IsRead i p advance) (hl : s.Listening) {a : Nat} {w : Word} (ha : a < 16)
    (hcursor : (s.ports.get p).cursors.readAddress.toNat = a) (hw : s.identWord a = some w) :
    ∃ t, exec i s = .next t ∧ Answered s t p 2#4 .ok w := by
  have hread := readAt_ident (s.modPort p PortState.shiftOut) p ha
  rw [identWord_modPort, hw, ← hcursor] at hread
  exact exec_read_answered hi hl hread

theorem exec_read_ident_access (hi : IsRead i p advance) (hl : s.Listening) {a : Nat} (h : 11 ≤ a ∧ a ≤ 15)
    (hcursor : (s.ports.get p).cursors.readAddress.toNat = a) :
    ∃ t, exec i s = .next t ∧ Answered s t p 2#4 .access 0#16 := by
  have hread := readAt_ident (s.modPort p PortState.shiftOut) p (Nat.lt_succ_of_le h.2)
  rw [identWord_modPort, identWord_unassigned s h, ← hcursor] at hread
  exact exec_read_answered hi hl hread

end

/-! ### The statement -/

/-- Settles O20: the binding functions say what the strap codes say, and a READ below 010h is answered with the word of its
address, whose fields lie apart and so are read back. -/
theorem identificationWordsRead : Obligations.IdentificationWordsRead := by
  unfold Obligations.IdentificationWordsRead
  refine ⟨fun straps p => ⟨boundRole_eq_some_iff straps p, strapInvalid_iff straps p, strapDuplicate_iff straps p,
    bindingComplete_iff straps⟩, fun s p => rfl, rfl, fun i p advance s hi => ⟨fun hl => ?reads, exec_read_held hi⟩⟩
  refine ⟨fun h => exec_read_identWord hi hl (by decide) h rfl, fun h => exec_read_identWord hi hl (by decide) h rfl,
    fun h => exec_read_identWord hi hl (by decide) h rfl, fun h => exec_read_identWord hi hl (by decide) h rfl,
    fun q h => ?binding, fun h => ?summary, fun h => ?result, fun h => exec_read_ident_access hi hl h rfl⟩
  case binding =>
    have haddress : 4 + q.number < 16 := by
      have := port_number_le q
      omega
    obtain ⟨t, hexec, hanswer⟩ := exec_read_identWord hi hl haddress h (identWord_port s q)
    exact ⟨t, _, hexec, hanswer, bindingWord_strap s q, bindingWord_role s q, bindingWord_invalid s q,
      bindingWord_duplicate s q⟩
  case summary =>
    obtain ⟨t, hexec, hanswer⟩ := exec_read_identWord hi hl (w := s.bindingSummary) (by decide) h rfl
    exact ⟨t, _, hexec, hanswer, bindingSummary_complete s, bindingSummary_drivesHold s, bindingSummary_claim s⟩
  case result =>
    obtain ⟨t, hexec, hanswer⟩ := exec_read_identWord hi hl (w := s.resultWord) (by decide) h rfl
    exact ⟨t, _, hexec, hanswer, resultWord_done s, resultWord_fail s, resultWord_step s⟩

end Sys2Proof.Machine
end

section
/-! PROOFS. The step and its command, and the state right after reset. -/

namespace Sys2Proof.Machine

/-- Settles O1: the front of the queue decides the match in `step`. -/
theorem stepRunsFrontCommand : Obligations.StepRunsFrontCommand := by
  unfold Obligations.StepRunsFrontCommand
  intro c rest s hqueue
  simp only [step, hqueue]

/-! ### The state right after reset -/

theorem reset_latchesLive : State.reset.LatchesLive := by
  intro p c h
  cases p <;> exact h

theorem reset_stopsCommands : State.reset.StopsCommands := fun _ => ⟨rfl, rfl, rfl, rfl, rfl⟩

theorem reset_torqueInLimits : State.reset.TorqueInLimits := by
  refine ⟨le_refl _, le_refl _, le_refl _, le_refl _, fun h => absurd h (by decide), fun h => absurd h (by decide), rfl⟩

theorem reset_levelsMatch : State.reset.LevelsMatch := by
  intro i
  cases i <;> rfl

theorem reset_codesCover : State.reset.CodesCover := by
  intro p i
  cases p <;> cases i <;> decide

theorem reset_timersFollow : State.reset.TimersFollow := by
  refine ⟨by decide, by decide, by decide, by decide, fun _ r => ?_⟩
  cases r <;> rfl

theorem reset_descriptor (id : BitVec 2) : State.reset.rcd.table.get id = .atPowerOn := by
  revert id
  decide

theorem reset_ringWhole : State.reset.RingWhole := ⟨rfl, by decide⟩

theorem reset_storeSound : State.reset.store.Sound := by
  unfold Store.Sound
  decide

theorem reset_settingsConsistent : State.reset.SettingsConsistent := by
  have h : Settings.defaults.consistent = true := by decide
  exact h

theorem reset_zoneMarked : State.reset.ZoneMarked := fun h => absurd h (by decide)

/-- Settles O53: each property is a fact about the fields of the reset state. -/
theorem resetHasInvariants : Obligations.ResetHasInvariants := by
  unfold Obligations.ResetHasInvariants
  refine ⟨reset_stopsCommands, ?range, reset_torqueInLimits, ?absorb, reset_latchesLive, rfl, reset_zoneMarked, ?energy,
    ?queues, reset_settingsConsistent, reset_timersFollow, ?claim, reset_levelsMatch, reset_codesCover, rfl, reset_ringWhole, ?collecting,
    ?retained, rfl, reset_storeSound⟩
  case range =>
    unfold Envelope.InRange Within
    decide
  case absorb => exact fun h => absurd h (by decide)
  case energy =>
    intro p _ _ _ _
    cases p <;> rfl
  case queues =>
    intro p
    cases p <;> decide
  case claim => exact fun p h => nomatch h
  case collecting =>
    intro a b ha
    rw [reset_descriptor] at ha
    cases ha
  case retained =>
    intro id
    rw [reset_descriptor]
    exact ⟨fun h => (nomatch h), fun h => (nomatch h)⟩

end Sys2Proof.Machine
end

section
/-! PROOFS. Which causes each shared operation leaves as they are, and the two forms the operations of the wear store take. -/

namespace Sys2Proof.Machine

variable (s : State)

/-! ### Operations that reach no cause -/

section
variable (c : Cause)

@[simp] theorem setNow_causeActive (x : Nat) : (s.setNow x).causeActive c = s.causeActive c := rfl
@[simp] theorem setRc_causeActive (x : RunControl) : (s.setRc x).causeActive c = s.causeActive c := rfl
@[simp] theorem setEnv_causeActive (x : Envelope) : (s.setEnv x).causeActive c = s.causeActive c := rfl
@[simp] theorem setSplit_causeActive (x : Split) : (s.setSplit x).causeActive c = s.causeActive c := rfl
@[simp] theorem setGen_causeActive (x : Genset) : (s.setGen x).causeActive c = s.causeActive c := rfl
@[simp] theorem setWear_causeActive (x : Wear) : (s.setWear x).causeActive c = s.causeActive c := rfl
@[simp] theorem setStore_causeActive (x : Store) : (s.setStore x).causeActive c = s.causeActive c := rfl
@[simp] theorem setRcd_causeActive (x : Recorder) : (s.setRcd x).causeActive c = s.causeActive c := rfl
@[simp] theorem setPorts_causeActive (x : PerPort PortState) : (s.setPorts x).causeActive c = s.causeActive c := rfl
@[simp] theorem mapPorts_causeActive (f : PortState → PortState) : (s.mapPorts f).causeActive c = s.causeActive c := rfl
@[simp] theorem noticeAll_causeActive (k : NoticeKind) : (s.noticeAll k).causeActive c = s.causeActive c := rfl
@[simp] theorem noticeTo_causeActive (k : NoticeKind) (x : PerPort Bool) :
    (s.noticeTo k x).causeActive c = s.causeActive c := rfl
@[simp] theorem worsenCodes_causeActive : s.worsenCodes.causeActive c = s.causeActive c := rfl
@[simp] theorem setSlipTimer_causeActive (x : SlipTimer) : (s.setSlipTimer x).causeActive c = s.causeActive c := rfl
@[simp] theorem arrive_causeActive (d : Nat) : (s.arrive d).causeActive c = s.causeActive c := rfl
@[simp] theorem zeroCommand_causeActive (x : RegenSource) : (s.zeroCommand x).causeActive c = s.causeActive c := rfl
@[simp] theorem stopSplit_causeActive : s.stopSplit.causeActive c = s.causeActive c := rfl
@[simp] theorem stopDeadlines_causeActive : s.stopDeadlines.causeActive c = s.causeActive c := rfl
@[simp] theorem startDeadlines_causeActive : s.startDeadlines.causeActive c = s.causeActive c := rfl
@[simp] theorem leaveActive_causeActive : s.leaveActive.causeActive c = s.causeActive c := rfl
@[simp] theorem leaveAbsorb_causeActive : s.leaveAbsorb.causeActive c = s.causeActive c := rfl
@[simp] theorem writeEntry_causeActive (r : Role) (v : List Int) (x : BitVec 6) :
    (s.writeEntry r v x).causeActive c = s.causeActive c := by simp [State.causeActive]
@[simp] theorem stopDeadline_causeActive (r : Role) : (s.stopDeadline r).causeActive c = s.causeActive c := rfl
@[simp] theorem addLiningWear_causeActive (dt : Nat) : (s.addLiningWear dt).causeActive c = s.causeActive c := rfl
@[simp] theorem countFriction_causeActive (dt : Nat) : (s.countFriction dt).causeActive c = s.causeActive c := rfl
@[simp] theorem countEnergy_causeActive : s.countEnergy.causeActive c = s.causeActive c := rfl

@[simp] theorem trigger_causeActive (x : TriggerCause) : (s.trigger x).causeActive c = s.causeActive c := by
  simp [State.causeActive]
@[simp] theorem returnLevel_causeActive : s.returnLevel.causeActive c = s.causeActive c := by
  simp [State.causeActive]
@[simp] theorem changeRunState_causeActive (x : RunState) : (s.changeRunState x).causeActive c = s.causeActive c := by
  simp [State.causeActive]
@[simp] theorem startSelfCheck_causeActive (b : Bool) : (s.startSelfCheck b).causeActive c = s.causeActive c := by
  simp [State.causeActive]
@[simp] theorem discardStaged_causeActive : s.discardStaged.causeActive c = s.causeActive c := by
  simp [State.causeActive]
@[simp] theorem discardUnbound_causeActive : s.discardUnbound.causeActive c = s.causeActive c := by
  simp [State.causeActive]
@[simp] theorem discardStale_causeActive (r : Role) : (s.discardStale r).causeActive c = s.causeActive c := by
  simp [State.causeActive]
@[simp] theorem releaseClaim_causeActive : s.releaseClaim.causeActive c = s.causeActive c := by
  simp [State.causeActive]
@[simp] theorem filterDemand_causeActive : s.filterDemand.causeActive c = s.causeActive c := by
  simp [State.causeActive]
@[simp] theorem testMinOff_causeActive : s.testMinOff.causeActive c = s.causeActive c := by
  simp [State.causeActive]
@[simp] theorem stepOff_causeActive : s.stepOff.causeActive c = s.causeActive c := by
  simp [State.causeActive]

end

/-! ### The wear store (R153 to R157) -/

/-- What an operation of the wear store comes to: the store is another one, and may then enter fault. -/
def State.StoreMoved (s t : State) : Prop :=
  ∃ x : Store, x.fault = s.store.fault ∧ x.timer = s.store.timer ∧ (t = s.setStore x ∨ t = (s.setStore x).storeFault)

variable {s}

theorem State.StoreMoved.refl : s.StoreMoved s := ⟨s.store, rfl, rfl, .inl rfl⟩

/-- The store may be changed before it moves. -/
theorem State.StoreMoved.of_setStore {x : Store} {t : State} (h : (s.setStore x).StoreMoved t)
    (hf : x.fault = s.store.fault) (ht : x.timer = s.store.timer) : s.StoreMoved t := by
  obtain ⟨y, hy, hyt, h⟩ := h
  exact ⟨y, hy.trans hf, hyt.trans ht, h⟩

theorem State.StoreMoved.setStore {x : Store} (hf : x.fault = s.store.fault) (ht : x.timer = s.store.timer) :
    s.StoreMoved (s.setStore x) := ⟨x, hf, ht, .inl rfl⟩


variable (s)

theorem storeMoved_storeFault : s.StoreMoved s.storeFault := ⟨s.store, rfl, rfl, .inr rfl⟩

theorem storeMoved_writeAttempt : s.StoreMoved s.writeAttempt := by
  unfold State.writeAttempt
  split
  · exact .setStore rfl rfl
  · exact .of_setStore (storeMoved_storeFault _) rfl rfl

theorem storeMoved_writeOrErase : s.StoreMoved s.writeOrErase := by
  unfold State.writeOrErase
  split_ifs
  · exact storeMoved_writeAttempt s
  · exact .setStore rfl rfl

theorem storeMoved_startCheckpoint : s.StoreMoved s.startCheckpoint :=
  .of_setStore (storeMoved_writeOrErase _) rfl rfl

theorem storeMoved_requestCheckpoint : s.StoreMoved s.requestCheckpoint := by
  unfold State.requestCheckpoint
  split_ifs
  · exact .refl
  · exact storeMoved_startCheckpoint s
  · exact .setStore rfl rfl

theorem storeMoved_endCheckpoint : s.StoreMoved s.endCheckpoint := by
  unfold State.endCheckpoint
  dsimp only
  split_ifs
  · exact .of_setStore (.of_setStore (storeMoved_startCheckpoint _) rfl rfl) rfl rfl
  · exact .setStore rfl rfl

theorem setStore_setStore (x y : Store) : (s.setStore x).setStore y = s.setStore y := rfl

/-- The store after the thirteen words of a write in flight, the slot spent (R156). -/
def Store.written (x : Store) (f : CellFaults) : Store :=
  { x with journal := x.journalWritten Config.slotWords f, pos := x.pos + 1 }

/-- The store after the erase of the other segment (R155). -/
def Store.erased (x : Store) (f : CellFaults) : Store :=
  { x with
    journal := (x.journal.erase x.active.other.base Config.segmentWords).writeList x.active.other.base
      (withFaults f (List.replicate Config.segmentWords Config.erasedWord))
    cutErase := x.cutErase.set x.active.other false }

theorem written_fault (x : Store) (f : CellFaults) : (x.written f).fault = x.fault := by
  simp only [Store.written]
theorem written_timer (x : Store) (f : CellFaults) : (x.written f).timer = x.timer := by
  simp only [Store.written]
theorem erased_fault (x : Store) (f : CellFaults) : (x.erased f).fault = x.fault := by
  simp only [Store.erased]
theorem erased_timer (x : Store) (f : CellFaults) : (x.erased f).timer = x.timer := by
  simp only [Store.erased]

theorem verifyWrite_eq (f : CellFaults) : s.verifyWrite f =
    if (s.store.written f).journal.readList (slotAddress s.store.active s.store.pos) Config.slotWords
        = s.store.intended then
      ((s.setStore { s.store.written f with lastVerified := s.store.lastUsed }).noticeTo .checkpointDone
        s.store.current).endCheckpoint
    else if s.store.attempts < 3 then (s.setStore (s.store.written f)).writeOrErase
    else (s.setStore (s.store.written f)).storeFault := by
  simp only [State.verifyWrite, Store.written, setStore_store, setStore_setStore]
  rfl

theorem verifyErase_eq (f : CellFaults) : s.verifyErase f =
    if (s.store.erased f).journal.readList s.store.active.other.base Config.segmentWords =
        List.replicate Config.segmentWords Config.erasedWord then
      (s.setStore { s.store.erased f with active := s.store.active.other, pos := 0 }).writeAttempt
    else (s.setStore (s.store.erased f)).storeFault := by
  simp only [State.verifyErase, Store.erased, setStore_store, setStore_setStore]
  rfl

/-- A record write verified moves the store, CHECKPOINT_DONE to some ports coming before it on a match. -/
theorem storeMoved_verifyWrite (f : CellFaults) :
    ∃ x ports, x.fault = s.store.fault ∧ x.timer = s.store.timer ∧
      (((s.setStore x).noticeTo .checkpointDone ports).StoreMoved (s.verifyWrite f) ∨
        (s.setStore x).StoreMoved (s.verifyWrite f)) := by
  rw [verifyWrite_eq]
  split_ifs
  · exact ⟨{ s.store.written f with lastVerified := s.store.lastUsed }, _, written_fault _ f, written_timer _ f,
      .inl (storeMoved_endCheckpoint _)⟩
  · exact ⟨s.store.written f, noPorts, written_fault _ f, written_timer _ f, .inr (storeMoved_writeOrErase _)⟩
  · exact ⟨s.store.written f, noPorts, written_fault _ f, written_timer _ f, .inr (storeMoved_storeFault _)⟩

theorem storeMoved_verifyErase (f : CellFaults) : s.StoreMoved (s.verifyErase f) := by
  rw [verifyErase_eq]
  split_ifs
  · exact .of_setStore (storeMoved_writeAttempt _) (by simp only [Store.erased]) (by simp only [Store.erased])
  · exact .of_setStore (storeMoved_storeFault _) (erased_fault _ f) (erased_timer _ f)

variable {s}

/-- What another store and an entry into fault keep, every operation of the wear store keeps. -/
theorem State.StoreMoved.keeps {inv : State → Prop} {t : State} (h : s.StoreMoved t)
    (hset : ∀ x : Store, x.timer = s.store.timer → inv (s.setStore x))
    (hfault : ∀ u, inv u → inv u.storeFault) : inv t := by
  obtain ⟨x, -, ht, rfl | rfl⟩ := h
  · exact hset x ht
  · exact hfault _ (hset x ht)

@[simp] theorem storeFault_causeActive (s : State) (c : Cause) :
    s.storeFault.causeActive c = (s.causeActive c || decide (c = .wearStoreFault)) := by
  simp [State.storeFault]

theorem State.StoreMoved.causeActive {t : State} (h : s.StoreMoved t) {c : Cause} (hc : c ≠ .wearStoreFault) :
    t.causeActive c = s.causeActive c := by
  obtain ⟨x, -, -, rfl | rfl⟩ := h <;> simp [hc]

section
variable (s) {c : Cause} (hc : c ≠ .wearStoreFault)
include hc

@[simp] theorem startCheckpoint_causeActive : s.startCheckpoint.causeActive c = s.causeActive c :=
  (storeMoved_startCheckpoint s).causeActive hc

@[simp] theorem requestCheckpoint_causeActive : s.requestCheckpoint.causeActive c = s.causeActive c :=
  (storeMoved_requestCheckpoint s).causeActive hc

@[simp] theorem verifyWrite_causeActive (f : CellFaults) : (s.verifyWrite f).causeActive c = s.causeActive c := by
  obtain ⟨x, ports, -, -, h | h⟩ := storeMoved_verifyWrite s f <;> simpa using h.causeActive hc

@[simp] theorem verifyErase_causeActive (f : CellFaults) : (s.verifyErase f).causeActive c = s.causeActive c :=
  (storeMoved_verifyErase s f).causeActive hc

/-! ### The wear monitor (R133, R139) -/

@[simp] theorem recomputeLevels_causeActive : s.recomputeLevels.causeActive c = s.causeActive c := by
  unfold State.recomputeLevels
  dsimp only
  split_ifs <;> simp [hc]

@[simp] theorem batteryWear_causeActive (dt : Nat) : (s.batteryWear dt).causeActive c = s.causeActive c := by
  simp [State.batteryWear, hc]

@[simp] theorem countStart_causeActive (b : GensetState) : (s.countStart b).causeActive c = s.causeActive c := by
  simp [State.countStart, hc]

@[simp] theorem resetItem_causeActive (i : WearItem) : (s.resetItem i).causeActive c = s.causeActive c := by
  simp [State.resetItem, hc]

end

@[simp] theorem heatLinings_causeActive (s : State) (dt : Nat) {c : Cause} (hc : c ≠ .liningCritical) :
    (s.heatLinings dt).causeActive c = s.causeActive c := by
  unfold State.heatLinings
  dsimp only
  split_ifs <;> simp [hc]

@[simp] theorem brakeWear_causeActive (s : State) (dt : Nat) {c : Cause} (hc : c ≠ .liningCritical)
    (hs : c ≠ .wearStoreFault) : (s.brakeWear dt).causeActive c = s.causeActive c := by
  simp [State.brakeWear, hc, hs]

/-! ### The genset manager (R111, R117) -/

section
variable (s) {c : Cause} (hz : c ≠ .zoneBreach)
include hz

@[simp] theorem raiseZoneBreach_causeActive : s.raiseZoneBreach.causeActive c = s.causeActive c := by
  unfold State.raiseZoneBreach
  split_ifs <;> simp [hz]

@[simp] theorem settleZoneBreach_causeActive : s.settleZoneBreach.causeActive c = s.causeActive c := by
  unfold State.settleZoneBreach
  split_ifs <;> simp [hz]

@[simp] theorem enterOff_causeActive : s.enterOff.causeActive c = s.causeActive c := by
  simp [State.enterOff, hz]

@[simp] theorem sendStop_causeActive : s.sendStop.causeActive c = s.causeActive c := by
  unfold State.sendStop
  split_ifs <;> simp [hz]

@[simp] theorem stoppedUnasked_causeActive : s.stoppedUnasked.causeActive c = s.causeActive c := by
  simp [State.stoppedUnasked, hz]

@[simp] theorem stepRun_causeActive : s.stepRun.causeActive c = s.causeActive c := by
  unfold State.stepRun
  split_ifs <;> simp [hz]

@[simp] theorem stepAbsorb_causeActive : s.stepAbsorb.causeActive c = s.causeActive c := by
  unfold State.stepAbsorb
  split_ifs <;> simp [hz]

@[simp] theorem stepStopRequested_causeActive : s.stepStopRequested.causeActive c = s.causeActive c := by
  unfold State.stepStopRequested
  split_ifs <;> simp [hz]

@[simp] theorem zoneAtCommit_causeActive : s.zoneAtCommit.causeActive c = s.causeActive c := by
  unfold State.zoneAtCommit
  rw [settleZoneBreach_causeActive _ hz]
  split_ifs
  all_goals cases s.gen.mgr <;> simp [hz]

variable (hg : c ≠ .gensetStartFail)
include hg

omit hz in
@[simp] theorem startReached_causeActive : s.startReached.causeActive c = s.causeActive c := by
  simp [State.startReached, hg]

@[simp] theorem failedStart_causeActive : s.failedStart.causeActive c = s.causeActive c := by
  simp [State.failedStart, hz, hg]

@[simp] theorem stepStartRequested_causeActive : s.stepStartRequested.causeActive c = s.causeActive c := by
  unfold State.stepStartRequested
  split_ifs <;> simp [hz, hg]

@[simp] theorem managerTransition_causeActive : s.managerTransition.causeActive c = s.causeActive c := by
  unfold State.managerTransition
  split_ifs
  · rfl
  · simp [hz]
  · split <;> simp [hz, hg]
  · split <;> simp [hz]

@[simp] theorem gensetStep_causeActive : s.gensetStep.causeActive c = s.causeActive c := by
  simp [State.gensetStep, hz, hg]

@[simp] theorem evaluate_causeActive : s.evaluate.causeActive c = s.causeActive c := by
  simp [State.evaluate, hz, hg]

end

end Sys2Proof.Machine
end

section
/-! PROOFS. That every operation keeps the torque within its limits and no command stands where none may, and the statement
about torque safety. -/

namespace Sys2Proof.Machine

/-- What O54 says of a state. -/
def State.TorqueSafe (s : State) : Prop := s.env.InRange ∧ s.StopsCommands ∧ s.TorqueInLimits ∧ s.AbsorbsOnGrant

/-- Torque, limits, grant and setpoint are 0. -/
def State.Uncommanded (s : State) : Prop :=
  s.split.tMc = 0 ∧ s.split.lDrive = 0 ∧ s.split.lRegen = 0 ∧ s.split.grant = 0 ∧ s.gen.setpoint = 0

variable {s t : State}

/-! ### What torque safety depends on -/

/-- Without a command, torque is safe wherever the reports are in range. -/
theorem torqueSafe_of_uncommanded (hrange : s.env.InRange) (h : s.Uncommanded) : s.TorqueSafe := by
  obtain ⟨hmc, hdrive, hregen, hgrant, hset⟩ := h
  refine ⟨hrange, fun _ => ⟨hmc, hdrive, hregen, hgrant, hset⟩, ?_, fun hneg => ?_⟩
  · simp [State.TorqueInLimits, hmc, hdrive, hregen, hgrant]
  · rw [hset] at hneg
    exact absurd hneg (lt_irrefl 0)

/-- Torque stays safe where the split engine and the run state stand, no hard cause is new, and the setpoint stands with
the manager or is 0. -/
theorem torqueSafe_of_frame (h : s.TorqueSafe) (hrange : s.env.InRange → t.env.InRange)
    (hrun : t.rc.runState = s.rc.runState) (hhard : t.hardActive = true → s.hardActive = true)
    (hsplit : t.split = s.split)
    (hgen : t.gen.setpoint = 0 ∨ t.gen.setpoint = s.gen.setpoint ∧ t.gen.mgr = s.gen.mgr) : t.TorqueSafe := by
  obtain ⟨hr, hstops, hlimits, habsorbs⟩ := h
  refine ⟨hrange hr, fun hc => ?stops, ?limits, ?absorbs⟩
  case stops =>
    obtain ⟨hmc, hdrive, hregen, hgrant, hset⟩ := hstops (hc.imp (fun hne => hrun ▸ hne) hhard)
    rw [hsplit]
    refine ⟨hmc, hdrive, hregen, hgrant, ?_⟩
    obtain h0 | ⟨hsame, -⟩ := hgen
    · exact h0
    · exact hsame.trans hset
  case limits => simpa only [State.TorqueInLimits, hsplit, hrun] using hlimits
  case absorbs =>
    obtain h0 | ⟨hset, hmgr⟩ := hgen
    · intro hneg
      exact absurd (h0 ▸ hneg) (lt_irrefl 0)
    · simpa only [State.AbsorbsOnGrant, hset, hmgr, hsplit] using habsorbs

/-- The frame of an operation that reaches neither the split engine nor the genset manager nor a hard cause. -/
theorem torqueSafe_of_same (h : s.TorqueSafe) (henv : t.env = s.env) (hrun : t.rc.runState = s.rc.runState)
    (hhard : t.hardActive = s.hardActive) (hsplit : t.split = s.split) (hgen : t.gen = s.gen) : t.TorqueSafe :=
  torqueSafe_of_frame h (by rw [henv]; exact id) hrun (by rw [hhard]; exact id) hsplit (.inr (by simp [hgen]))

/-! ### Causes -/

theorem torqueSafe_clear (c : Cause) (h : s.TorqueSafe) : (s.clear c).TorqueSafe := by
  refine torqueSafe_of_frame h (by simp) (by simp) (fun hc => ?_) (by simp) (.inr (by simp))
  simp only [State.hardActive, clear_causeActive, Bool.or_eq_true, Bool.and_eq_true] at hc ⊢
  exact hc.imp (fun hc => hc.imp (·.1) (·.1)) (·.1)

theorem hardActive_raise_soft {c : Cause} (hc : c.hard = false) : (s.raise c).hardActive = s.hardActive := by
  cases c <;> simp at hc <;> simp [State.hardActive]

theorem raise_uncommanded {c : Cause} (ha : s.causeActive c = false) (hc : c.hard = true) : (s.raise c).Uncommanded := by
  obtain ⟨hgen, hsplit⟩ := raise_hard s ha hc
  simp [State.Uncommanded, hgen, hsplit]

theorem torqueSafe_raise (c : Cause) (h : s.TorqueSafe) : (s.raise c).TorqueSafe := by
  cases ha : s.causeActive c
  case true => rwa [raise_of_active s ha]
  case false =>
    cases hc : c.hard
    case true => exact torqueSafe_of_uncommanded (by simpa using h.1) (raise_uncommanded ha hc)
    case false =>
      exact torqueSafe_of_same h (by simp) (by simp) (hardActive_raise_soft hc) (raise_soft s c hc).1 (raise_soft s c hc).2

theorem torqueSafe_setCause (c : Cause) (b : Bool) (h : s.TorqueSafe) : (s.setCause c b).TorqueSafe := by
  cases b
  · exact torqueSafe_clear c h
  · exact torqueSafe_raise c h

theorem torqueSafe_storeFault (h : s.TorqueSafe) : s.storeFault.TorqueSafe :=
  torqueSafe_of_same h (by simp) (by simp) (by simp [State.hardActive]) (by simp) (by simp)

/-! ### Run control -/

theorem zeroCommand_uncommanded (x : RegenSource) : (s.zeroCommand x).Uncommanded := by
  simp [State.Uncommanded, State.zeroCommand]

theorem leaveActive_uncommanded : s.leaveActive.Uncommanded := by
  simpa [State.Uncommanded, State.leaveActive] using zeroCommand_uncommanded .notActive

theorem enterHalted_uncommanded : s.enterHalted.Uncommanded := by
  simp [State.Uncommanded, State.enterHalted, State.stopSplit, Split.stopped]

theorem enterHalted_reports : s.enterHalted.env.InRange ↔ s.env.InRange := by
  unfold State.enterHalted State.stopDeadlines
  dsimp only
  split_ifs <;> simp [Envelope.InRange]

theorem dropToStandby_uncommanded : s.dropToStandby.Uncommanded := by
  simpa [State.Uncommanded, State.dropToStandby] using leaveActive_uncommanded

/-- Outside ACTIVE nothing is commanded. -/
theorem State.TorqueSafe.uncommanded (h : s.TorqueSafe) (hr : s.rc.runState ≠ .active) : s.Uncommanded := by
  obtain ⟨-, hstops, -, -⟩ := h
  exact hstops (.inl hr)

theorem torqueSafe_enterStandby (hr : s.rc.runState = .halted) (h : s.TorqueSafe) : s.enterStandby.TorqueSafe := by
  have hzero := h.uncommanded (by simp [hr])
  refine torqueSafe_of_uncommanded ?_ ?_
  · simpa [State.enterStandby, State.startDeadlines, Envelope.InRange] using h.1
  · simpa [State.Uncommanded, State.enterStandby] using hzero

theorem torqueSafe_enterActive (hr : s.rc.runState = .standby) (h : s.TorqueSafe) : s.enterActive.TorqueSafe := by
  have hzero := h.uncommanded (by simp [hr])
  refine torqueSafe_of_uncommanded (by simpa using h.1) ?_
  obtain ⟨-, hdrive, hregen, hgrant, -⟩ := hzero
  simp [State.Uncommanded, hdrive, hregen, hgrant]

theorem torqueSafe_startSelfCheck (b : Bool) (hr : s.rc.runState = .halted) (h : s.TorqueSafe) :
    (s.startSelfCheck b).TorqueSafe := by
  obtain ⟨-, -, -, -, hset⟩ := h.uncommanded (by simp [hr])
  refine torqueSafe_of_uncommanded ?_ ?_
  · simpa [State.startSelfCheck, State.stopDeadlines, Envelope.InRange] using h.1
  · simp [State.Uncommanded, State.startSelfCheck, State.stopSplit, Split.stopped, hset]

theorem torqueSafe_takeSelfCheck (hr : s.rc.runState = .halted) (h : s.TorqueSafe) : s.takeSelfCheck.TorqueSafe :=
  torqueSafe_startSelfCheck true (by simp [hr])
    (torqueSafe_of_same h (by simp) (by simp) (by simp [State.hardActive]) (by simp) (by simp))

theorem torqueSafe_endSelfCheck (f : StepFailures) (h : s.TorqueSafe) : (s.endSelfCheck f).TorqueSafe := by
  refine torqueSafe_of_uncommanded (enterHalted_reports.mpr ?_) enterHalted_uncommanded
  split_ifs <;> simpa using h.1

/-! ### Reports -/

theorem within_clampInt {x lo hi : Int} (h : lo ≤ hi) : Within (clampInt x lo hi) lo hi := by
  unfold Within clampInt
  omega

/-- A report's values lie in the ranges of its fields (R28). -/
theorem withReport_inRange {e : Envelope} {r : Role} {ws : List Word} (hlen : ws.length = reportLength r)
    (h : e.InRange) : (e.withReport r (reportValues r ws)).InRange := by
  have hclamp : ∀ (w : Word) {lo hi : Int}, lo ≤ hi → Within (clampInt w.toInt lo hi) lo hi :=
    fun w _ _ hle => within_clampInt hle
  simp only [Envelope.InRange] at h ⊢
  cases r
  case vehicle =>
    match ws, hlen with
    | [a, b, c, d, f, g], _ =>
      simp [Envelope.withReport, reportValues, reportFields, valueAt, ReportField.value, hclamp, h]
  case genset =>
    match ws, hlen with
    | [a, b, c, d], _ =>
      simp [Envelope.withReport, reportValues, reportFields, valueAt, ReportField.value, hclamp, h]
  case storage =>
    match ws, hlen with
    | [a, b, c, d, f], _ =>
      simp [Envelope.withReport, reportValues, reportFields, valueAt, ReportField.value, hclamp, h]
  case traction =>
    match ws, hlen with
    | [a, b, c], _ =>
      simp [Envelope.withReport, reportValues, reportFields, valueAt, ReportField.value, hclamp, h]
  case brake =>
    match ws, hlen with
    | [a, b, c, d, f, g], _ =>
      simp [Envelope.withReport, reportValues, reportFields, valueAt, ReportField.value, hclamp, h]

/-! ### The genset manager between evaluations (R116, R117) -/

theorem torqueSafe_sendStop (h : s.TorqueSafe) : s.sendStop.TorqueSafe := by
  refine torqueSafe_of_frame h (by simp) (by simp) (by simp [State.hardActive]) (by simp) (.inl ?_)
  unfold State.sendStop State.enterOff
  split_ifs <;> simp

theorem torqueSafe_settleZoneBreach (h : s.TorqueSafe) : s.settleZoneBreach.TorqueSafe := by
  unfold State.settleZoneBreach State.raiseZoneBreach
  split_ifs
  · exact h
  · exact torqueSafe_of_same (torqueSafe_raise .zoneBreach h) rfl rfl rfl rfl rfl
  · exact h
  · exact torqueSafe_clear _ h

theorem torqueSafe_zoneAtCommit (h : s.TorqueSafe) : s.zoneAtCommit.TorqueSafe := by
  unfold State.zoneAtCommit
  refine torqueSafe_settleZoneBreach ?_
  have hleft : (s.leaveAbsorb.setGen { s.leaveAbsorb.gen with setpoint := 0 }).TorqueSafe :=
    torqueSafe_of_frame h id rfl id rfl (.inl rfl)
  split_ifs
  · cases s.gen.mgr
    case off | stopRequested => exact h
    all_goals exact torqueSafe_sendStop h
  · cases s.gen.mgr
    case absorb => exact hleft
    all_goals exact h
  · exact h

/-! ### Commits and expiries (R28, R33) -/

theorem torqueSafe_readSlip (h : s.TorqueSafe) : s.readSlip.TorqueSafe := by
  unfold State.readSlip
  split_ifs
  · exact torqueSafe_of_same (torqueSafe_raise .slip h) rfl rfl rfl rfl rfl
  · exact torqueSafe_of_same (torqueSafe_clear .slip h) rfl rfl rfl rfl rfl
  · exact h

theorem torqueSafe_trigger (c : TriggerCause) (h : s.TorqueSafe) : (s.trigger c).TorqueSafe :=
  torqueSafe_of_same h (by simp) (by simp) (by simp [State.hardActive]) (by simp) (by simp)

theorem torqueSafe_returnLevel (h : s.TorqueSafe) : s.returnLevel.TorqueSafe :=
  torqueSafe_of_same h (by simp) (by simp) (by simp [State.hardActive]) (by simp) (by simp)

theorem torqueSafe_handOn (r : Role) (e : Envelope) (dt : Nat) (h : s.TorqueSafe) : (s.handOn r e dt).TorqueSafe := by
  cases r
  case vehicle =>
    show s.vehicleCommitted.TorqueSafe
    unfold State.vehicleCommitted
    refine torqueSafe_zoneAtCommit ?_
    have hdoor : s.readDoor.TorqueSafe := torqueSafe_setCause _ _ h
    split_ifs
    · exact torqueSafe_returnLevel hdoor
    · exact hdoor
  case traction => exact h
  case brake =>
    have hworn : ((s.readSlip.brakeWear dt).countFriction dt).TorqueSafe :=
      torqueSafe_of_same (torqueSafe_readSlip h) (by simp) (by simp) (by simp [State.hardActive]) (by simp) (by simp)
    show (s.brakeCommitted e.brake dt).TorqueSafe
    unfold State.brakeCommitted
    dsimp only
    split_ifs
    · exact torqueSafe_returnLevel (torqueSafe_trigger _ hworn)
    · exact torqueSafe_trigger _ hworn
    · exact torqueSafe_returnLevel hworn
    · exact hworn
  all_goals
    exact torqueSafe_of_same h (by simp [State.handOn]) (by simp [State.handOn])
      (by simp [State.hardActive, State.handOn]) (by simp [State.handOn]) (by simp [State.handOn])

theorem writeEntry_inRange {r : Role} {ws : List Word} (x : BitVec 6) (hlen : ws.length = reportLength r)
    (h : s.env.InRange) : (s.writeEntry r (reportValues r ws) x).env.InRange :=
  withReport_inRange hlen h

theorem torqueSafe_commit {r : Role} {ws : List Word} (x : BitVec 6) (hlen : ws.length = reportLength r)
    (h : s.TorqueSafe) : (s.commit r (reportValues r ws) x).TorqueSafe := by
  have hentry : (s.writeEntry r (reportValues r ws) x).TorqueSafe :=
    torqueSafe_of_frame h (writeEntry_inRange x hlen) (by simp) (by simp [State.hardActive]) (by simp) (.inr (by simp))
  have hhanded : ∀ u : State, u.TorqueSafe → (u.handOn r s.env (s.deltaT r)).worsenCodes.TorqueSafe :=
    fun u hu => torqueSafe_handOn _ _ _ hu
  unfold State.commit
  dsimp only
  split_ifs
  · exact hhanded _ (torqueSafe_clear _ hentry)
  · exact hhanded _ hentry

theorem torqueSafe_deadlineExpired (r : Role) (h : s.TorqueSafe) : (s.deadlineExpired r).TorqueSafe := by
  have hended : ∀ u : State, u.TorqueSafe → (u.discardStale r).worsenCodes.TorqueSafe := fun u hu =>
    torqueSafe_of_same hu (by simp) (by simp) (by simp [State.hardActive]) (by simp) (by simp)
  have hstopped : ∀ b : PerRole RoleBook, (s.setEnv { s.env with book := b }).TorqueSafe := fun b => h
  have hraised : ∀ b : PerRole RoleBook, ((s.setEnv { s.env with book := b }).raise (linkCause r)).TorqueSafe :=
    fun b => torqueSafe_raise _ (hstopped b)
  unfold State.deadlineExpired
  dsimp only
  split_ifs
  · exact hstopped _
  · unfold State.becomeStale
    dsimp only
    split_ifs
    · exact hended _ (torqueSafe_clear .slip (hraised _))
    · exact hended _ (hraised _)

/-! ### The evaluation (R69, R73, R74, R86, R118) -/

/-- A quotient of numbers that are not negative is not negative. -/
theorem torqueFromPower_nonneg {p n : Int} (hp : 0 ≤ p) (hn : 0 ≤ n) : 0 ≤ torqueFromPower p n := by
  have hq : 0 ≤ (p * 955).tdiv n := Int.tdiv_nonneg (by omega) hn
  unfold torqueFromPower
  omega

theorem evalSpeed_nonneg : 0 ≤ s.evalSpeed := by
  unfold State.evalSpeed
  omega

theorem evalTPlDrive_nonneg : 0 ≤ s.evalTPlDrive :=
  torqueFromPower_nonneg (by unfold State.evalHDrive; omega) evalSpeed_nonneg

theorem evalTPlRegen_nonneg : 0 ≤ s.evalTPlRegen :=
  torqueFromPower_nonneg (by unfold State.evalHRegen; omega) evalSpeed_nonneg

theorem directionCap_nonneg (d : Direction) : 0 ≤ s.directionCap d := by
  cases d <;> simp [State.directionCap]

theorem fadeLimit_nonneg (v lo hi : Int) : 0 ≤ fadeLimit v lo hi := by
  unfold fadeLimit
  split_ifs
  · decide
  · decide
  · exact Int.tdiv_nonneg (by omega) (by omega)

theorem evalLDrive_nonneg (h : s.env.InRange) (d : Direction) : 0 ≤ s.evalLDrive d := by
  obtain ⟨-, -, -, -, -, -, -, -, -, -, -, -, ⟨hmotor, -⟩, -⟩ := h
  have hpower := evalTPlDrive_nonneg (s := s)
  have hcap := directionCap_nonneg (s := s) d
  unfold State.evalLDrive
  split_ifs
  · exact le_refl 0
  · omega

theorem evalLRegen_nonneg (h : s.env.InRange) (d : Direction) : 0 ≤ s.evalLRegen d := by
  obtain ⟨-, -, -, -, -, -, -, -, -, -, -, -, -, ⟨hgen, -⟩, -⟩ := h
  have hpower := evalTPlRegen_nonneg (s := s)
  have hfade : 0 ≤ s.evalFade := fadeLimit_nonneg _ _ _
  unfold State.evalLRegen State.regenMinimum
  split_ifs
  · exact le_refl 0
  · omega

/-- A drive limit above 0 wants the mode DRIVE, ACTIVE and no hard cause. -/
theorem evalLDrive_pos {d : Direction} (h : 0 < s.evalLDrive d) :
    s.evalMode = .drive ∧ s.hardActive = false ∧ s.rc.runState = .active := by
  unfold State.evalLDrive at h
  split_ifs at h with hzero
  · exact absurd h (lt_irrefl 0)
  · simpa [not_or] using hzero

/-- A regen limit above 0 wants the mode BRAKING, FORWARD, ACTIVE and no hard cause. -/
theorem evalLRegen_pos {d : Direction} (h : 0 < s.evalLRegen d) :
    s.evalMode = .braking ∧ d = .forward ∧ s.hardActive = false ∧ s.rc.runState = .active := by
  unfold State.evalLRegen at h
  split_ifs at h with hzero
  · exact absurd h (lt_irrefl 0)
  · simp only [not_or, ne_eq, not_not] at hzero
    obtain ⟨hrun, hhard, hmode, hdir, -⟩ := hzero
    exact ⟨hmode, hdir, by simpa using hhard, hrun⟩

theorem clampTorque_within {x a b : Int} (ha : 0 ≤ a) (hb : 0 ≤ b) : -b ≤ clampTorque x a b ∧ clampTorque x a b ≤ a := by
  unfold clampTorque
  omega

theorem grantOf_eq (x : Int) : grantOf x = max 0 (-x) := by
  unfold grantOf
  split_ifs <;> omega

/-- After an evaluation the torque lies in the limits of that evaluation. -/
theorem evaluate_torqueInLimits (h : s.env.InRange) : s.evaluate.TorqueInLimits := by
  have hdrive := evalLDrive_nonneg h s.directionStage.1
  have hregen := evalLRegen_nonneg h s.directionStage.1
  obtain ⟨hlow, hhigh⟩ :=
    clampTorque_within (x := ramp s.rc.applied s.split.tMc s.evalQ) hdrive hregen
  have hrun : s.evaluate.rc = s.rc := by simp
  unfold State.TorqueInLimits
  rw [evaluate_split, hrun]
  refine ⟨hdrive, hregen, hlow, hhigh, fun hpos => ?_, fun hneg => ?_, grantOf_eq _⟩
  · obtain ⟨hmode, -, hactive⟩ := evalLDrive_pos (lt_of_lt_of_le hpos hhigh)
    exact ⟨hactive, hmode⟩
  · obtain ⟨hmode, hdir, -, hactive⟩ := evalLRegen_pos (d := s.directionStage.1) (s := s) (by
      have : s.evaluated.tMc < 0 := hneg
      have : -s.evalLRegen s.directionStage.1 ≤ s.evaluated.tMc := hlow
      omega)
    exact ⟨hactive, hmode, hdir⟩

theorem evaluate_hardActive : s.evaluate.hardActive = s.hardActive := by
  simp [State.hardActive]

/-- The setpoint after an evaluation is that of the manager's step (R118). -/
theorem evaluate_setpoint :
    ∃ u : State, u.split = s.evaluated ∧ u.env = s.env ∧ u.rc = s.rc ∧ u.hardActive = s.hardActive ∧
      s.evaluate.gen.mgr = u.gen.mgr ∧ s.evaluate.gen.setpoint = u.stepSetpoint := by
  refine ⟨((s.setSplit s.evaluated).filterDemand.testMinOff.managerTransition.settleZoneBreach), by simp, by simp,
    by simp, by simp [State.hardActive], ?_, ?_⟩ <;> simp [State.evaluate, State.gensetStep]

theorem runSetpoint_nonneg (h : s.env.InRange) : 0 ≤ s.runSetpoint := by
  obtain ⟨-, -, -, -, ⟨havail, -⟩, -⟩ := h
  unfold State.runSetpoint clampInt
  dsimp only
  split_ifs
  · exact havail
  · omega

theorem evaluate_stopsCommands : s.evaluate.StopsCommands := by
  obtain ⟨u, -, -, hrc, huhard, -, hset⟩ := evaluate_setpoint (s := s)
  have hrun : s.evaluate.rc = s.rc := by simp
  intro hstop
  rw [hrun, evaluate_hardActive] at hstop
  have hdrive : s.evalLDrive s.directionStage.1 = 0 := by
    unfold State.evalLDrive
    rw [if_pos (.inr hstop.symm)]
  have hregen : s.evalLRegen s.directionStage.1 = 0 := by
    unfold State.evalLRegen
    rw [if_pos (hstop.imp id .inl)]
  have hmc : s.evaluated.tMc = 0 := by
    show clampTorque _ (s.evalLDrive _) (s.evalLRegen _) = 0
    rw [hdrive, hregen]
    unfold clampTorque
    omega
  rw [evaluate_split]
  refine ⟨hmc, hdrive, hregen, ?_, ?_⟩
  · show grantOf s.evaluated.tMc = 0
    rw [hmc]
    rfl
  · rw [hset, State.stepSetpoint, if_pos]
    rw [huhard, hrc]
    exact hstop.symm

theorem evaluate_absorbsOnGrant (h : s.env.InRange) : s.evaluate.AbsorbsOnGrant := by
  obtain ⟨u, husplit, henv, -, -, hmgr, hset⟩ := evaluate_setpoint (s := s)
  have hnonneg := runSetpoint_nonneg (s := u) (henv ▸ h)
  intro hneg
  rw [hset] at hneg
  rw [hmgr, evaluate_split, ← husplit]
  unfold State.stepSetpoint at hneg
  by_cases hstop : u.hardActive = true ∨ u.rc.runState ≠ .active
  · rw [if_pos hstop] at hneg
    exact absurd hneg (lt_irrefl 0)
  · rw [if_neg hstop] at hneg
    cases hm : u.gen.mgr <;> simp only [hm] at hneg
    case run => split_ifs at hneg <;> omega
    case absorb =>
      split_ifs at hneg with hgrant
      · exact ⟨rfl, hgrant⟩
      · omega
    all_goals omega

theorem torqueSafe_evaluate (h : s.TorqueSafe) : s.evaluate.TorqueSafe := by
  obtain ⟨hrange, -⟩ := h
  exact ⟨by simpa using hrange, evaluate_stopsCommands, evaluate_torqueInLimits hrange, evaluate_absorbsOnGrant hrange⟩

/-! ### The statement -/

theorem reset_torqueSafe : State.reset.TorqueSafe :=
  torqueSafe_of_uncommanded (by unfold Envelope.InRange Within; decide) ⟨rfl, rfl, rfl, rfl, rfl⟩

theorem torqueSafe_operations : OperationsKeep State.TorqueSafe where
  queue _ _ h := h
  clock _ _ h := h
  shiftOut _ _ h := h
  respond _ _ _ _ h := h
  powerUp _ _ _ _ := reset_torqueSafe
  loseSupply _ _ _ := reset_torqueSafe
  assertReset _ _ h := torqueSafe_of_same h (by simp [State.assertReset]) (by simp [State.assertReset])
    (by simp [State.hardActive, State.causeActive, State.assertReset]) (by simp [State.assertReset])
    (by simp [State.assertReset])
  releaseReset _ _ _ := torqueSafe_of_uncommanded reset_torqueSafe.1 ⟨rfl, rfl, rfl, rfl, rfl⟩
  endSelfCheck _ f _ h := torqueSafe_endSelfCheck f h
  takeLevel _ l _ h := torqueSafe_setCause .holdLine (l = .low) h
  cursors _ _ _ h := h
  assembly _ _ _ h := h
  dumpRange _ _ _ h := h
  staging _ _ _ _ _ h := h
  commit _ _ _ _ _ hlen h := torqueSafe_commit _ hlen h
  capture _ _ _ h := h
  readStream _ _ _ _ _ h := h
  enterStandby _ hr _ h := torqueSafe_enterStandby hr h
  dropToStandby _ _ h := torqueSafe_of_uncommanded (by simpa using h.1) dropToStandby_uncommanded
  enterActive _ hr _ h := torqueSafe_enterActive hr h
  enterHalted _ _ h := torqueSafe_of_uncommanded (enterHalted_reports.mpr h.1) enterHalted_uncommanded
  takeSelfCheck _ hr h := torqueSafe_takeSelfCheck hr h
  applyStaged _ _ _ h := torqueSafe_of_same h (by simp [State.applyStaged]) (by simp [State.applyStaged])
    (by simp [State.hardActive, State.applyStaged]) (by simp [State.applyStaged]) (by simp [State.applyStaged])
  discardStaged _ h := torqueSafe_of_same h (by simp) (by simp) (by simp [State.hardActive]) (by simp) (by simp)
  startCheckpoint _ _ _ _ h :=
    torqueSafe_of_same h (by simp) (by simp) (by simp [State.hardActive]) (by simp) (by simp)
  mergeCheckpoint _ _ _ _ h := h
  resetItem _ _ _ _ h := torqueSafe_of_same h (by simp) (by simp) (by simp [State.hardActive]) (by simp) (by simp)
  fireTrigger _ h := torqueSafe_trigger .manual h
  releaseDescriptor _ _ h := torqueSafe_of_same h (by simp [State.releaseDescriptor]) (by simp [State.releaseDescriptor])
    (by simp [State.hardActive, State.causeActive, State.releaseDescriptor]) (by simp [State.releaseDescriptor])
    (by simp [State.releaseDescriptor])
  startDump _ _ _ _ _ h := h
  cancelDump _ _ h := h
  freeCount _ _ h := h
  evaluate _ _ h := torqueSafe_evaluate h
  deadlineExpired _ r h := torqueSafe_deadlineExpired r h
  slipExpired _ _ h := h
  periodicExpiry _ _ _ h := torqueSafe_of_same h (by simp [State.periodicExpiry]) (by simp [State.periodicExpiry])
    (by simp [State.hardActive, State.periodicExpiry]) (by simp [State.periodicExpiry]) (by simp [State.periodicExpiry])
  verifyWrite _ _ _ h := torqueSafe_of_same h (by simp) (by simp) (by simp [State.hardActive]) (by simp) (by simp)
  verifyErase _ _ _ h := torqueSafe_of_same h (by simp) (by simp) (by simp [State.hardActive]) (by simp) (by simp)
  sampleEvent _ h :=
    torqueSafe_of_same h (by simp) (by simp) (by simp [State.hardActive, State.causeActive]) (by simp) (by simp)

/-- Settles O54: the operations that reach the split engine, the manager's setpoint or a hard cause keep torque safe, and
the others do not reach what it depends on. -/
theorem torqueSafetyKept : Obligations.TorqueSafetyKept := keep_step torqueSafe_operations

end Sys2Proof.Machine
end

section
/-! PROOFS. That every operation keeps the active causes in the latch sets, the store's fault marked and a zone marked, and the
statement about cause sets. -/

namespace Sys2Proof.Machine

variable {s t : State}

/-- Every active cause is in every latch set, and the fault flag is set exactly while WEAR_STORE_FAULT is active. -/
def State.CausesMarked (s : State) : Prop := s.LatchesLive ∧ s.FaultMarked

/-! ### Causes, latch sets and the fault flag (R45, R46, R57, R157) -/

theorem causesMarked_of_same (h : s.CausesMarked) (hlive : t.cut.live = s.cut.live)
    (hlatch : ∀ p, (t.ports.get p).latch = (s.ports.get p).latch) (hfault : t.store.fault = s.store.fault) :
    t.CausesMarked := by
  obtain ⟨hlatches, hmarked⟩ := h
  refine ⟨fun p c hc => ?_, ?_⟩
  · rw [causeActive_of_cut hlive] at hc
    rw [hlatch]
    exact hlatches p c hc
  · rw [State.FaultMarked, causeActive_of_cut hlive, hfault]
    exact hmarked

theorem latchesLive_raise (c : Cause) (h : s.LatchesLive) : (s.raise c).LatchesLive := by
  cases ha : s.causeActive c
  case true => rwa [raise_of_active s ha]
  case false =>
    intro p d hd
    simp only [raise_causeActive, Bool.or_eq_true] at hd
    simp only [raise_has_latch s ha, Bool.or_eq_true]
    exact hd.imp_left (h p d)

theorem causesMarked_raise {c : Cause} (hc : .wearStoreFault ≠ c) (h : s.CausesMarked) : (s.raise c).CausesMarked := by
  obtain ⟨hlatches, hmarked⟩ := h
  exact ⟨latchesLive_raise c hlatches, by simpa [State.FaultMarked, hc] using hmarked⟩

theorem causesMarked_clear {c : Cause} (hc : .wearStoreFault ≠ c) (h : s.CausesMarked) : (s.clear c).CausesMarked := by
  obtain ⟨hlatches, hmarked⟩ := h
  refine ⟨fun p d hd => ?_, by simpa [State.FaultMarked, hc] using hmarked⟩
  simp only [clear_causeActive, Bool.and_eq_true] at hd
  simpa using hlatches p d hd.1

theorem causesMarked_setCause {c : Cause} (b : Bool) (hc : .wearStoreFault ≠ c) (h : s.CausesMarked) :
    (s.setCause c b).CausesMarked := by
  cases b
  · exact causesMarked_clear hc h
  · exact causesMarked_raise hc h

theorem causesMarked_storeFault (h : s.CausesMarked) : s.storeFault.CausesMarked := by
  obtain ⟨hlatches, -⟩ := h
  refine ⟨fun p c hc => ?_, by simp [State.FaultMarked]⟩
  have hset := latchesLive_raise .wearStoreFault (s := s.setStore { s.store with
    fault := true, phase := .idle, pendingFlag := false, current := noPorts, waiting := noPorts
    record := none, attempts := 0, endAt := none }) hlatches p c
  unfold State.storeFault at hc ⊢
  rw [noticeAll_causeActive] at hc
  simpa using hset hc

/-- An operation of the wear store marks its entry into fault. -/
theorem State.StoreMoved.causesMarked (hm : s.StoreMoved t) (h : s.CausesMarked) : t.CausesMarked := by
  obtain ⟨x, hfault, -, rfl | rfl⟩ := hm
  · exact causesMarked_of_same h rfl (fun _ => rfl) hfault
  · exact causesMarked_storeFault (causesMarked_of_same h rfl (fun _ => rfl) hfault)

theorem causesMarked_noticeAll (k : NoticeKind) (h : s.CausesMarked) : (s.noticeAll k).CausesMarked :=
  causesMarked_of_same h (by simp) (by simp) (by simp)

theorem causesMarked_trigger (c : TriggerCause) (h : s.CausesMarked) : (s.trigger c).CausesMarked :=
  causesMarked_of_same h (by simp) (by simp) (by simp)

theorem causesMarked_worsenCodes (h : s.CausesMarked) : s.worsenCodes.CausesMarked :=
  causesMarked_of_same h (by simp) (by simp) (by simp)

theorem causesMarked_requestCheckpoint (h : s.CausesMarked) : s.requestCheckpoint.CausesMarked :=
  (storeMoved_requestCheckpoint s).causesMarked h

theorem causesMarked_recomputeLevels (h : s.CausesMarked) : s.recomputeLevels.CausesMarked := by
  unfold State.recomputeLevels
  dsimp only
  split_ifs
  · exact causesMarked_trigger _ (causesMarked_requestCheckpoint
      (causesMarked_noticeAll _ (causesMarked_worsenCodes h)))
  · exact causesMarked_noticeAll _ (causesMarked_worsenCodes h)
  · exact causesMarked_worsenCodes h

/-! ### The genset manager (R111, R117) -/

theorem causesMarked_enterOff (h : s.CausesMarked) : s.enterOff.CausesMarked :=
  causesMarked_clear (by decide) (causesMarked_of_same h rfl (fun _ => rfl) rfl)

theorem causesMarked_sendOff (h : s.CausesMarked) : s.sendOff.CausesMarked := by
  unfold State.sendOff
  split_ifs
  · exact h
  · exact causesMarked_enterOff h

theorem causesMarked_sendStop (h : s.CausesMarked) : s.sendStop.CausesMarked := by
  unfold State.sendStop
  split_ifs
  · exact causesMarked_enterOff h
  · exact h

theorem causesMarked_settleZoneBreach (h : s.CausesMarked) : s.settleZoneBreach.CausesMarked := by
  unfold State.settleZoneBreach State.raiseZoneBreach
  split_ifs
  · exact h
  · exact causesMarked_noticeAll _ (causesMarked_raise (by decide) h)
  · exact h
  · exact causesMarked_clear (by decide) h

theorem causesMarked_failedStart (h : s.CausesMarked) : s.failedStart.CausesMarked := by
  have hoff : ∀ x : Genset, (s.enterOff.setGen x).CausesMarked := fun x => causesMarked_enterOff h
  exact causesMarked_trigger _ (causesMarked_noticeAll _ (causesMarked_raise (by decide) (hoff _)))

theorem causesMarked_stoppedUnasked (h : s.CausesMarked) : s.stoppedUnasked.CausesMarked :=
  causesMarked_noticeAll _ (causesMarked_enterOff h)

theorem causesMarked_startReached (h : s.CausesMarked) : s.startReached.CausesMarked :=
  causesMarked_clear (by decide) (causesMarked_of_same h rfl (fun _ => rfl) rfl)

theorem causesMarked_stepStopRequested (h : s.CausesMarked) : s.stepStopRequested.CausesMarked := by
  unfold State.stepStopRequested
  split_ifs
  · exact causesMarked_enterOff h
  · exact h

theorem causesMarked_stepOff (h : s.CausesMarked) : s.stepOff.CausesMarked := by
  unfold State.stepOff
  split_ifs <;> exact h

theorem causesMarked_stepStartRequested (h : s.CausesMarked) : s.stepStartRequested.CausesMarked := by
  unfold State.stepStartRequested
  split_ifs
  · exact causesMarked_sendStop h
  · exact causesMarked_startReached h
  · exact causesMarked_failedStart h
  · exact h

theorem causesMarked_stepRun (h : s.CausesMarked) : s.stepRun.CausesMarked := by
  unfold State.stepRun
  split_ifs
  · exact causesMarked_stoppedUnasked h
  · exact causesMarked_sendStop h
  · exact causesMarked_sendStop h
  · exact h
  · exact h

theorem causesMarked_stepAbsorb (h : s.CausesMarked) : s.stepAbsorb.CausesMarked := by
  unfold State.stepAbsorb
  split_ifs
  · exact causesMarked_stoppedUnasked h
  · exact causesMarked_sendStop h
  all_goals exact h

theorem causesMarked_managerTransition (h : s.CausesMarked) : s.managerTransition.CausesMarked := by
  unfold State.managerTransition
  split_ifs
  · exact h
  · exact causesMarked_enterOff h
  · cases s.gen.mgr
    · exact causesMarked_stepOff h
    · exact causesMarked_stepStartRequested h
    · exact causesMarked_stepRun h
    · exact causesMarked_stepAbsorb h
    · exact causesMarked_stepStopRequested h
  · cases s.gen.mgr
    case off => exact h
    case stopRequested => exact causesMarked_stepStopRequested h
    all_goals exact causesMarked_sendStop h

theorem causesMarked_evaluate (h : s.CausesMarked) : s.evaluate.CausesMarked := by
  have hbegun : (s.setSplit s.evaluated).filterDemand.testMinOff.CausesMarked :=
    causesMarked_of_same h (by simp) (by simp) (by simp)
  have hstepped := causesMarked_settleZoneBreach (causesMarked_managerTransition hbegun)
  exact causesMarked_of_same hstepped (by simp [State.evaluate, State.gensetStep])
    (by simp [State.evaluate, State.gensetStep]) (by simp [State.evaluate, State.gensetStep])

theorem causesMarked_zoneAtCommit (h : s.CausesMarked) : s.zoneAtCommit.CausesMarked := by
  unfold State.zoneAtCommit
  refine causesMarked_settleZoneBreach ?_
  split_ifs
  · cases s.gen.mgr
    case off | stopRequested => exact h
    all_goals exact causesMarked_sendStop h
  · cases s.gen.mgr <;> exact h
  · exact h

/-! ### Run control (R8, R10, R11, R13, R14) -/

theorem causesMarked_changeRunState (x : RunState) (h : s.CausesMarked) : (s.changeRunState x).CausesMarked :=
  causesMarked_of_same h (by simp) (by simp) (by simp)

theorem causesMarked_discardUnbound (h : s.CausesMarked) : s.discardUnbound.CausesMarked :=
  causesMarked_of_same h (by simp) (by simp) (by simp)

theorem causesMarked_enterHalted (h : s.CausesMarked) : s.enterHalted.CausesMarked := by
  unfold State.enterHalted
  refine causesMarked_discardUnbound (causesMarked_requestCheckpoint
    (causesMarked_changeRunState _ (causesMarked_sendOff ?_)))
  split_ifs <;> exact h

theorem causesMarked_setSplit (x : Split) (h : s.CausesMarked) : (s.setSplit x).CausesMarked := h

theorem causesMarked_enterStandby (h : s.CausesMarked) : s.enterStandby.CausesMarked := by
  have hstarted : s.startDeadlines.CausesMarked := h
  exact causesMarked_discardUnbound (causesMarked_clear (by decide)
    (causesMarked_setSplit _ (causesMarked_changeRunState _ hstarted)))

theorem causesMarked_dropToStandby (h : s.CausesMarked) : s.dropToStandby.CausesMarked :=
  causesMarked_clear (by decide) (causesMarked_of_same h (by simp) (by simp) (by simp [State.leaveActive]))

theorem causesMarked_enterActive (h : s.CausesMarked) : s.enterActive.CausesMarked :=
  causesMarked_of_same (causesMarked_sendOff h) (by simp) (by simp [State.enterActive]) (by simp)

theorem causesMarked_takeSelfCheck (h : s.CausesMarked) : s.takeSelfCheck.CausesMarked := by
  have hleveled : (s.setRc { s.rc with staged := .defaults, applied := .defaults, claim := none }
      ).recomputeLevels.CausesMarked := causesMarked_recomputeLevels h
  exact causesMarked_of_same hleveled (by simp [State.takeSelfCheck])
    (by simp [State.takeSelfCheck, PortState.forSelfCheck]) (by simp [State.takeSelfCheck])

theorem causesMarked_applyStaged (h : s.CausesMarked) : s.applyStaged.CausesMarked :=
  causesMarked_recomputeLevels (causesMarked_of_same h (by simp) (by simp) (by simp))

/-- After a reset the latch sets are set to the live set, and so hold it. -/
theorem causesMarked_endSelfCheck (f : StepFailures) (h : s.CausesMarked) : (s.endSelfCheck f).CausesMarked := by
  have hbegun : ∀ (x : RunControl) (y : SlipTimer) (n : Nat),
      ((s.setRc x).setCut { (s.setRc x).cut with slipTimer := y, holdFrom := n, holdLevel := none }).CausesMarked :=
    fun _ _ _ => h
  have hcaused := causesMarked_setCause (firstFailure f).isSome (c := .selfCheckFail) (by decide) (hbegun
    { s.rc with
      checkDone := true, checkFail := (firstFailure f).isSome, checkStep := (firstFailure f).getD 0#2, checkEnd := none }
    s.cut.slipTimer.afterSelfCheck s.now)
  unfold State.endSelfCheck
  refine causesMarked_enterHalted ?_
  dsimp only
  split_ifs
  · exact hcaused
  · obtain ⟨-, hmarked⟩ := hcaused
    refine ⟨fun p c hc => ?_, hmarked⟩
    simpa [State.causeActive] using hc

/-! ### Commits and expiries (R28, R33) -/

theorem causesMarked_readSlip (h : s.CausesMarked) : s.readSlip.CausesMarked := by
  unfold State.readSlip
  split_ifs
  · exact causesMarked_raise (c := .slip) (by decide) h
  · exact causesMarked_clear (c := .slip) (by decide) h
  · exact h

theorem causesMarked_returnLevel (h : s.CausesMarked) : s.returnLevel.CausesMarked :=
  causesMarked_of_same h (by simp) (by simp) (by simp)

theorem causesMarked_heatLinings (dt : Nat) (h : s.CausesMarked) : (s.heatLinings dt).CausesMarked := by
  unfold State.heatLinings
  dsimp only
  split_ifs
  · exact h
  · exact causesMarked_setCause _ (by decide) (causesMarked_noticeAll _ h)

theorem causesMarked_brakeCommitted (b : BrakeReport) (dt : Nat) (h : s.CausesMarked) :
    (s.brakeCommitted b dt).CausesMarked := by
  have hworn : (s.readSlip.brakeWear dt).CausesMarked :=
    causesMarked_heatLinings dt (causesMarked_recomputeLevels (causesMarked_readSlip (s := s) h))
  have hcounted : ((s.readSlip.brakeWear dt).countFriction dt).CausesMarked :=
    causesMarked_of_same hworn (by simp) (by simp) (by simp)
  unfold State.brakeCommitted
  dsimp only
  split_ifs
  · exact causesMarked_returnLevel (causesMarked_trigger _ hcounted)
  · exact causesMarked_trigger _ hcounted
  · exact causesMarked_returnLevel hcounted
  · exact hcounted

theorem causesMarked_handOn (r : Role) (e : Envelope) (dt : Nat) (h : s.CausesMarked) :
    (s.handOn r e dt).CausesMarked := by
  cases r
  case vehicle =>
    show s.vehicleCommitted.CausesMarked
    have hdoor : s.readDoor.CausesMarked := causesMarked_setCause _ (by decide) h
    unfold State.vehicleCommitted
    refine causesMarked_zoneAtCommit ?_
    split_ifs
    · exact causesMarked_returnLevel hdoor
    · exact hdoor
  case genset => exact causesMarked_recomputeLevels (s := s.setWear _) h
  case storage => exact causesMarked_recomputeLevels (s := s.setWear _) h
  case traction => exact h
  case brake => exact causesMarked_brakeCommitted e.brake dt h

theorem linkCause_ne_wearStoreFault (r : Role) : .wearStoreFault ≠ linkCause r := by cases r <;> decide

theorem causesMarked_commit (r : Role) (v : List Int) (x : BitVec 6) (h : s.CausesMarked) :
    (s.commit r v x).CausesMarked := by
  have hentry : (s.writeEntry r v x).CausesMarked := causesMarked_of_same h (by simp) (by simp) (by simp)
  unfold State.commit
  dsimp only
  refine causesMarked_worsenCodes (causesMarked_handOn _ _ _ ?_)
  split_ifs
  · exact causesMarked_clear (linkCause_ne_wearStoreFault r) hentry
  · exact hentry

theorem causesMarked_deadlineExpired (r : Role) (h : s.CausesMarked) : (s.deadlineExpired r).CausesMarked := by
  have hended : ∀ u : State, u.CausesMarked → (u.discardStale r).worsenCodes.CausesMarked := fun u hu =>
    causesMarked_worsenCodes (causesMarked_of_same hu (by simp) (by simp) (by simp))
  have hraised : ∀ x : Envelope, ((s.setEnv x).raise (linkCause r)).CausesMarked := fun x =>
    causesMarked_raise (linkCause_ne_wearStoreFault r) h
  unfold State.deadlineExpired
  dsimp only
  split_ifs
  · exact h
  · unfold State.becomeStale
    dsimp only
    split_ifs
    · exact hended _ (causesMarked_clear (c := .slip) (by decide) (hraised _))
    · exact hended _ (hraised _)

/-! ### Captures and power-on (R58, R192) -/

theorem causesMarked_captureRecord (p : Port) (r : RecordId) (h : s.CausesMarked) :
    (s.captureRecord p r).CausesMarked := by
  obtain ⟨hlatches, hmarked⟩ := h
  refine ⟨fun q c hc => ?_, hmarked⟩
  have hactive : s.causeActive c = true := hc
  unfold State.captureRecord
  rw [modPort_get]
  split_ifs
  · cases r
    case latch => exact hactive
    all_goals exact hlatches q c hactive
  · exact hlatches q c hactive

theorem formPorts_latch (extra : NoticeSet) (p : Port) : ((s.formPorts extra).ports.get p).latch = s.cut.live := by
  cases p <;> rfl

theorem causesMarked_formPorts (extra : NoticeSet) (h : s.FaultMarked) : (s.formPorts extra).CausesMarked := by
  refine ⟨fun p c hc => ?_, h⟩
  rw [formPorts_latch]
  exact hc

theorem causesMarked_releaseReset (straps : PerPort (BitVec 3)) : (s.releaseReset straps).CausesMarked := by
  refine causesMarked_formPorts _ ?_
  show false = CauseSet.has (initialCauses s.wear.lining) .wearStoreFault
  unfold initialCauses
  split_ifs <;> decide

theorem causesMarked_assertReset (c : WriteCut) (h : s.CausesMarked) : (s.assertReset c).CausesMarked := by
  refine causesMarked_of_same h (by simp [State.assertReset]) (by simp [State.assertReset]) ?_
  unfold State.assertReset State.cutStoreOff
  dsimp only
  cases s.store.phase <;> simp [Store.stopped]

theorem causesMarked_operations : OperationsKeep State.CausesMarked where
  queue _ _ h := h
  clock _ _ h := h
  shiftOut _ _ h := causesMarked_of_same h (by simp) (by simp) (by simp)
  respond _ _ _ _ h := causesMarked_of_same h (by simp) (by simp) (by simp)
  powerUp _ _ _ _ := causesMarked_formPorts _ (show false = State.reset.causeActive .wearStoreFault from rfl)
  loseSupply _ _ _ := ⟨reset_latchesLive, show false = State.reset.causeActive .wearStoreFault from rfl⟩
  assertReset _ c h := causesMarked_assertReset c h
  releaseReset _ x _ := causesMarked_releaseReset x
  endSelfCheck _ f _ h := causesMarked_endSelfCheck f h
  takeLevel _ l _ h := causesMarked_setCause (l = .low) (c := .holdLine) (by decide) h
  cursors _ _ _ h := causesMarked_of_same h rfl (fun q => by rw [modPort_get]; split_ifs <;> rfl) rfl
  assembly _ _ _ h := causesMarked_of_same h rfl (fun q => by rw [modPort_get]; split_ifs <;> rfl) rfl
  dumpRange _ _ _ h := causesMarked_of_same h rfl (fun q => by rw [modPort_get]; split_ifs <;> rfl) rfl
  staging _ _ _ _ _ h := h
  commit _ _ _ _ _ _ h := causesMarked_commit _ _ _ h
  capture _ p r h := causesMarked_captureRecord p r h
  readStream _ _ _ _ _ h := causesMarked_of_same h rfl (fun q => by rw [modPort_get]; split_ifs <;> rfl) rfl
  enterStandby _ _ _ h := causesMarked_enterStandby h
  dropToStandby _ _ h := causesMarked_dropToStandby h
  enterActive _ _ _ h := causesMarked_enterActive h
  enterHalted _ _ h := causesMarked_enterHalted h
  takeSelfCheck _ _ h := causesMarked_takeSelfCheck h
  applyStaged _ _ _ h := causesMarked_applyStaged h
  discardStaged _ h := causesMarked_of_same h (by simp) (by simp) (by simp)
  startCheckpoint _ _ _ _ h := (storeMoved_startCheckpoint _).causesMarked (causesMarked_of_same h rfl (fun _ => rfl) rfl)
  mergeCheckpoint _ _ _ _ h := h
  resetItem _ _ _ _ h := (storeMoved_requestCheckpoint _).causesMarked (causesMarked_recomputeLevels h)
  fireTrigger _ h := causesMarked_trigger .manual h
  releaseDescriptor _ _ h := causesMarked_of_same h (by simp [State.releaseDescriptor]) (by simp [State.releaseDescriptor])
    (by simp [State.releaseDescriptor])
  startDump _ _ _ _ _ h := causesMarked_of_same h rfl
    (fun q => by unfold State.startDump; rw [modPort_get]; split_ifs <;> rfl) rfl
  cancelDump _ _ h := causesMarked_of_same h rfl (fun q => by rw [modPort_get]; split_ifs <;> rfl) rfl
  freeCount _ _ h := h
  evaluate _ _ h := causesMarked_evaluate h
  deadlineExpired _ r h := causesMarked_deadlineExpired r h
  slipExpired _ _ h := h
  periodicExpiry _ _ _ h := (storeMoved_requestCheckpoint _).causesMarked (causesMarked_of_same h rfl (fun _ => rfl) rfl)
  verifyWrite s f _ h := by
    obtain ⟨x, ports, hfault, -, hm | hm⟩ := storeMoved_verifyWrite s f
    · exact hm.causesMarked (causesMarked_of_same h (by simp) (by simp) (by simp [hfault]))
    · exact hm.causesMarked (causesMarked_of_same h rfl (fun _ => rfl) hfault)
  verifyErase _ f _ h := (storeMoved_verifyErase _ f).causesMarked h
  sampleEvent _ h := causesMarked_of_same h (by simp) (by simp) (by simp)

/-! ### Zones (R113, R114, R116, R117) -/

theorem zoneMarked_of_same (h : s.ZoneMarked) (hzone : t.env.vehicle.zone = s.env.vehicle.zone)
    (hmgr : t.gen.mgr = s.gen.mgr) (hbreach : t.causeActive .zoneBreach = s.causeActive .zoneBreach) : t.ZoneMarked := by
  simpa only [State.ZoneMarked, hzone, hmgr, hbreach] using h

/-- A manager that is off or stopping needs no mark. -/
theorem zoneMarked_of_stopping (h : t.gen.mgr = .off ∨ t.gen.mgr = .stopRequested) : t.ZoneMarked := by
  intro _
  obtain h | h := h <;> simp [h]

/-- ZONE_BREACH settled marks any manager state but ABSORB. -/
theorem zoneMarked_settleZoneBreach (h : s.env.vehicle.zone = true → s.gen.mgr ≠ .absorb) :
    s.settleZoneBreach.ZoneMarked := by
  intro hzone
  have hz : s.env.vehicle.zone = true := by simpa using hzone
  unfold State.settleZoneBreach
  rw [if_pos hz]
  split_ifs with hmgr
  · have hsame : s.raiseZoneBreach.gen = s.gen := by simp
    refine ⟨hsame ▸ h hz, fun _ => ?_⟩
    unfold State.raiseZoneBreach
    split_ifs with hb
    · exact hb
    · simp
  · exact ⟨h hz, fun hrun => absurd hrun hmgr⟩

@[simp] theorem enterOff_gen_mgr (s : State) : s.enterOff.gen.mgr = .off := by simp [State.enterOff]

theorem sendStop_mgr : s.sendStop.gen.mgr = .off ∨ s.sendStop.gen.mgr = .stopRequested := by
  unfold State.sendStop
  split_ifs
  · exact .inl (enterOff_gen_mgr s)
  · exact .inr rfl

theorem sendStop_mgr_ne_absorb : s.sendStop.gen.mgr ≠ .absorb := by
  obtain h | h := sendStop_mgr (s := s) <;> simp [h]

theorem stoppedUnasked_mgr : s.stoppedUnasked.gen.mgr = .off := by simp [State.stoppedUnasked]

/-- The manager enters ABSORB only outside a zone, and leaves it in one. -/
theorem managerTransition_mgr_ne_absorb (hz : s.env.vehicle.zone = true) : s.managerTransition.gen.mgr ≠ .absorb := by
  have hstop := sendStop_mgr_ne_absorb (s := s)
  have hunasked := stoppedUnasked_mgr (s := s)
  unfold State.managerTransition
  split_ifs with hstale hoff hactive
  · simp [hoff]
  · simp
  · cases hm : s.gen.mgr <;> dsimp only
    case off =>
      unfold State.stepOff
      split_ifs <;> simp [hm]
    case startRequested =>
      unfold State.stepStartRequested
      split_ifs
      · exact hstop
      · simp [State.startReached]
      · simp [State.failedStart]
      · simp [hm]
    case run =>
      have hno : s.absorbWanted = false := by simp [State.absorbWanted, hz]
      unfold State.stepRun
      split_ifs
      · simp [hunasked]
      · exact hstop
      · exact hstop
      · simp_all
      · simp [hm]
    case absorb =>
      unfold State.stepAbsorb
      split_ifs
      · simp [hunasked]
      · exact hstop
      · simp [State.leaveAbsorb]
    case stopRequested =>
      unfold State.stepStopRequested
      split_ifs <;> simp [hm]
  · cases hm : s.gen.mgr <;> dsimp only
    case off => simp [hm]
    case stopRequested =>
      unfold State.stepStopRequested
      split_ifs <;> simp [hm]
    all_goals exact hstop

theorem zoneMarked_evaluate : s.evaluate.ZoneMarked := by
  have hsettled : (s.setSplit s.evaluated).filterDemand.testMinOff.managerTransition.settleZoneBreach.ZoneMarked :=
    zoneMarked_settleZoneBreach fun hz => managerTransition_mgr_ne_absorb (by simpa using hz)
  exact zoneMarked_of_same hsettled (by simp) (by simp [State.evaluate, State.gensetStep])
    (by simp [State.evaluate, State.gensetStep])

theorem zoneMarked_zoneAtCommit : s.zoneAtCommit.ZoneMarked := by
  unfold State.zoneAtCommit
  refine zoneMarked_settleZoneBreach fun hz => ?_
  have hstop := sendStop_mgr_ne_absorb (s := s)
  split_ifs at hz ⊢ with hzone hstops
  · cases hm : s.gen.mgr <;> simp [hm, hstop]
  · cases hm : s.gen.mgr <;> simp [hm, State.leaveAbsorb]
  · exact absurd hz hzone

theorem zoneMarked_raise {c : Cause} (hc : .zoneBreach ≠ c) (h : s.ZoneMarked) : (s.raise c).ZoneMarked := by
  refine zoneMarked_of_same h (by simp) ?_ (by simp [hc])
  cases hhard : c.hard
  · rw [(raise_soft s c hhard).2]
  · cases ha : s.causeActive c
    · rw [(raise_hard s ha hhard).1]
    · rw [raise_of_active s ha]

theorem zoneMarked_clear {c : Cause} (hc : .zoneBreach ≠ c) (h : s.ZoneMarked) : (s.clear c).ZoneMarked :=
  zoneMarked_of_same h (by simp) (by simp) (by simp [hc])

theorem zoneMarked_setCause {c : Cause} (b : Bool) (hc : .zoneBreach ≠ c) (h : s.ZoneMarked) :
    (s.setCause c b).ZoneMarked := by
  cases b
  · exact zoneMarked_clear hc h
  · exact zoneMarked_raise hc h

theorem writeEntry_zone {r : Role} (hr : r ≠ .vehicle) (v : List Int) (x : BitVec 6) :
    (s.writeEntry r v x).env.vehicle = s.env.vehicle := by
  cases r <;> first | exact absurd rfl hr | rfl

theorem linkCause_ne_zoneBreach (r : Role) : .zoneBreach ≠ linkCause r := by cases r <;> decide

theorem zoneMarked_handOn {r : Role} (hr : r ≠ .vehicle) (e : Envelope) (dt : Nat) (h : s.ZoneMarked) :
    (s.handOn r e dt).ZoneMarked := by
  cases r
  case vehicle => exact absurd rfl hr
  case traction => exact h
  case brake =>
    have hslip : s.readSlip.causeActive .zoneBreach = s.causeActive .zoneBreach := by
      unfold State.readSlip
      split_ifs <;> simp
    refine zoneMarked_of_same h (by simp) (by simp [State.handOn]) ?_
    show (s.brakeCommitted e.brake dt).causeActive .zoneBreach = _
    unfold State.brakeCommitted
    dsimp only
    split_ifs <;> simp [hslip]
  all_goals
    exact zoneMarked_of_same h (by simp) (by simp [State.handOn]) (by simp [State.handOn])

theorem zoneMarked_worsenCodes (h : s.ZoneMarked) : s.worsenCodes.ZoneMarked := h

theorem zoneMarked_commit (r : Role) (v : List Int) (x : BitVec 6) (h : s.ZoneMarked) : (s.commit r v x).ZoneMarked := by
  unfold State.commit
  dsimp only
  refine zoneMarked_worsenCodes ?_
  by_cases hr : r = .vehicle
  · subst hr
    exact zoneMarked_zoneAtCommit
  · have hentry : (s.writeEntry r v x).ZoneMarked :=
      zoneMarked_of_same h (by rw [writeEntry_zone hr]) (by simp) (by simp)
    refine zoneMarked_handOn hr _ _ ?_
    split_ifs
    · exact zoneMarked_clear (linkCause_ne_zoneBreach r) hentry
    · exact hentry

theorem zoneMarked_deadlineExpired (r : Role) (h : s.ZoneMarked) : (s.deadlineExpired r).ZoneMarked := by
  have hended : ∀ u : State, u.ZoneMarked → (u.discardStale r).worsenCodes.ZoneMarked := fun u hu =>
    zoneMarked_of_same hu (by simp) (by simp) (by simp)
  have hraised : ∀ b : PerRole RoleBook, ((s.setEnv { s.env with book := b }).raise (linkCause r)).ZoneMarked :=
    fun b => zoneMarked_raise (linkCause_ne_zoneBreach r) h
  unfold State.deadlineExpired
  dsimp only
  split_ifs
  · exact h
  · unfold State.becomeStale
    dsimp only
    split_ifs
    · exact hended _ (zoneMarked_clear (c := .slip) (by decide) (hraised _))
    · exact hended _ (hraised _)

theorem enterHalted_mgr : s.enterHalted.gen.mgr = .off := by simp [State.enterHalted]

theorem zoneMarked_operations : OperationsKeep State.ZoneMarked where
  queue _ _ h := h
  clock _ _ h := h
  shiftOut _ _ h := h
  respond _ _ _ _ h := h
  powerUp _ _ _ _ := zoneMarked_of_stopping (.inl rfl)
  loseSupply _ _ _ := zoneMarked_of_stopping (.inl rfl)
  assertReset _ _ h := zoneMarked_of_same h (by simp [State.assertReset]) (by simp [State.assertReset])
    (by simp [State.causeActive, State.assertReset])
  releaseReset _ _ _ := zoneMarked_of_stopping (.inl rfl)
  endSelfCheck _ _ _ _ := zoneMarked_of_stopping (.inl enterHalted_mgr)
  takeLevel _ l _ h := zoneMarked_setCause (l = .low) (c := .holdLine) (by decide) h
  cursors _ _ _ h := h
  assembly _ _ _ h := h
  dumpRange _ _ _ h := h
  staging _ _ _ _ _ h := h
  commit _ _ _ _ _ _ h := zoneMarked_commit _ _ _ h
  capture _ _ _ h := h
  readStream _ _ _ _ _ h := h
  enterStandby _ _ _ h := zoneMarked_of_same h (by simp [State.enterStandby, State.startDeadlines])
    (by simp [State.enterStandby]) (by simp [State.enterStandby])
  dropToStandby _ _ h := zoneMarked_of_same h (by simp)
    (by simp [State.dropToStandby, State.leaveActive, State.zeroCommand]) (by simp [State.dropToStandby])
  enterActive _ _ _ _ := zoneMarked_of_stopping (.inl (by simp))
  enterHalted _ _ _ := zoneMarked_of_stopping (.inl enterHalted_mgr)
  takeSelfCheck _ _ h := zoneMarked_of_same h (by simp [State.takeSelfCheck, State.startSelfCheck, State.stopDeadlines])
    (by simp [State.takeSelfCheck]) (by simp [State.takeSelfCheck])
  applyStaged _ _ _ h := zoneMarked_of_same h (by simp [State.applyStaged]) (by simp [State.applyStaged])
    (by simp [State.applyStaged])
  discardStaged _ h := zoneMarked_of_same h (by simp) (by simp) (by simp)
  startCheckpoint _ _ _ _ h := zoneMarked_of_same h (by simp) (by simp) (by simp)
  mergeCheckpoint _ _ _ _ h := h
  resetItem _ _ _ _ h := zoneMarked_of_same h (by simp) (by simp) (by simp)
  fireTrigger _ h := zoneMarked_of_same h (by simp) (by simp) (by simp [State.causeActive])
  releaseDescriptor _ _ h := zoneMarked_of_same h (by simp [State.releaseDescriptor]) (by simp [State.releaseDescriptor])
    (by simp [State.causeActive, State.releaseDescriptor])
  startDump _ _ _ _ _ h := h
  cancelDump _ _ h := h
  freeCount _ _ h := h
  evaluate _ _ _ := zoneMarked_evaluate
  deadlineExpired _ r h := zoneMarked_deadlineExpired r h
  slipExpired _ _ h := h
  periodicExpiry _ _ _ h := zoneMarked_of_same h (by simp [State.periodicExpiry]) (by simp [State.periodicExpiry])
    (by simp [State.periodicExpiry])
  verifyWrite _ _ _ h := zoneMarked_of_same h (by simp) (by simp) (by simp)
  verifyErase _ _ _ h := zoneMarked_of_same h (by simp) (by simp) (by simp)
  sampleEvent _ h := zoneMarked_of_same h (by simp) (by simp) (by simp [State.causeActive])

/-! ### The statement -/

/-- Two properties kept by every step are kept together. -/
theorem Kept.and {p q : State → Prop} (hp : Kept p) (hq : Kept q) : Kept fun s => p s ∧ q s :=
  fun s t h e => ⟨hp s t h.1 e, hq s t h.2 e⟩

theorem Kept.congr {p q : State → Prop} (hpq : ∀ s, p s ↔ q s) (hp : Kept p) : Kept q :=
  fun s t h e => (hpq t).mp (hp s t ((hpq s).mpr h) e)

/-- Settles O55: the marks of the causes and those of a zone are each kept by every operation. -/
theorem causeSetsKept : Obligations.CauseSetsKept :=
  (Kept.and (keep_step causesMarked_operations) (keep_step zoneMarked_operations)).congr fun _ => and_assoc

end Sys2Proof.Machine
end

section
/-! PROOFS. That every operation keeps the energy balance and the bounds of the dump queues at every port, and the statement
about the books of the ports. -/

namespace Sys2Proof.Machine

/-! ### Flows and dump contexts (R125, R126, R174 to R178) -/

/-- A flow that is not saturated after an addition was not before, and has taken all of it. -/
theorem joules_of_add {f : Flow} {x : Int} (h : (f.add x).saturated = false) :
    f.saturated = false ∧ (f.add x).joules = f.joules + x := by
  unfold Flow.add at h ⊢
  split_ifs at h ⊢ with hsat <;> simp_all

theorem balanced_addEvaluation {c : Counters} (motor aux gs : Int) (h : c.Balanced) :
    (c.addEvaluation motor aux gs).Balanced := by
  intro hmotor haux hgs hbat
  obtain ⟨hmotor, emotor⟩ := joules_of_add hmotor
  obtain ⟨haux, eaux⟩ := joules_of_add haux
  obtain ⟨hgs, egs⟩ := joules_of_add hgs
  obtain ⟨hbat, ebat⟩ := joules_of_add hbat
  have hbefore := h hmotor haux hgs hbat
  simp only [Counters.addEvaluation, emotor, eaux, egs, ebat, hbefore]
  omega

theorem balanced_zero : Counters.zero.Balanced := fun _ _ _ _ => rfl

/-- What R174 says of a dump context. -/
def DumpContext.Bounded (d : DumpContext) : Prop :=
  d.queue.length ≤ Config.queueSize ∧ (d.status = .idle → d.queue = []) ∧ (d.reason.isSome = true ↔ d.status = .ended)

theorem sample_words_length (x : Sample) : x.words.length = 10 := rfl

theorem bounded_fetch {d : DumpContext} (r : Recorder) (h : d.Bounded) : (d.fetch r).Bounded := by
  cases hmay : d.mayFetch r
  case false => rwa [fetch_of_not_mayFetch hmay]
  case true =>
    obtain ⟨hstatus, hroom, -, -⟩ := (mayFetch_iff d r).mp hmay
    obtain ⟨-, -, hreason⟩ := h
    cases hx : r.sampleNumber d.next with
    | none =>
      simp only [DumpContext.fetch, hmay, if_true, hx]
      exact ⟨by rw [Config.queueSize]; omega, by simp [hstatus], hreason⟩
    | some x =>
      rw [fetch_of_mayFetch hmay hx]
      refine ⟨by simp [sample_words_length, Config.queueSize]; omega, ?_, ?_⟩
      · split_ifs <;> simp
      · split_ifs
        · simp
        · simpa [hstatus] using hreason

theorem bounded_dropped {d : DumpContext} (k : Nat) (h : d.Bounded) : (d.dropped k).Bounded := by
  unfold DumpContext.dropped
  split_ifs with hdrop
  · exact ⟨h.1, by simp, by simp⟩
  · exact h

theorem bounded_cancelled (d : DumpContext) : d.cancelled.Bounded := ⟨Nat.zero_le _, fun _ => rfl, by simp [DumpContext.cancelled]⟩

theorem bounded_begun (source : DumpSource) (first last : Nat) :
    DumpContext.Bounded ⟨.streaming, none, source, first, last, []⟩ := ⟨Nat.zero_le _, fun _ => rfl, by simp⟩

/-- A word taken leaves a context that is still in bounds. -/
theorem bounded_tail {d : DumpContext} {w : Word} {rest : List Word} (hq : d.queue = w :: rest) (h : d.Bounded) :
    DumpContext.Bounded { d with queue := rest } := by
  obtain ⟨hlength, hidle, hreason⟩ := h
  rw [hq, List.length_cons] at hlength
  refine ⟨Nat.le_of_succ_le hlength, fun hs => ?_, hreason⟩
  have hnil := hidle hs
  rw [hq] at hnil
  cases hnil

/-! ### The books of the ports -/

/-- What O56 says of a port. -/
def PortState.Books (x : PortState) : Prop := x.counters.Balanced ∧ x.dump.Bounded

/-- What O56 says of a state. -/
def State.PortBooks (s : State) : Prop := ∀ p, (s.ports.get p).Books

variable {s t : State}

theorem portBooks_iff : s.PortBooks ↔ s.EnergyBalanced ∧ s.QueuesBounded := forall_and

theorem portBooks_of_same (h : s.PortBooks) (hcounters : ∀ p, (t.ports.get p).counters = (s.ports.get p).counters)
    (hdump : ∀ p, (t.ports.get p).dump = (s.ports.get p).dump) : t.PortBooks := by
  intro p
  rw [PortState.Books, hcounters, hdump]
  exact h p

theorem portBooks_mapPorts {f : PortState → PortState} (hf : ∀ x, x.Books → (f x).Books) (h : s.PortBooks) :
    (s.mapPorts f).PortBooks := by
  intro p
  rw [mapPorts_get]
  exact hf _ (h p)

theorem portBooks_modPort {p : Port} {f : PortState → PortState} (hf : (f (s.ports.get p)).Books) (h : s.PortBooks) :
    (s.modPort p f).PortBooks := by
  intro q
  rw [modPort_get]
  split_ifs with hq
  · exact hq ▸ hf
  · exact h q

theorem books_atPowerOn : PortState.atPowerOn.Books := ⟨balanced_zero, Nat.zero_le _, fun _ => rfl, by simp [PortState.atPowerOn]⟩

theorem portBooks_formPorts (s : State) (extra : NoticeSet) : (s.formPorts extra).PortBooks := by
  intro p
  cases p <;> exact books_atPowerOn

theorem portBooks_captureRecord (p : Port) (r : RecordId) (h : s.PortBooks) : (s.captureRecord p r).PortBooks := by
  refine portBooks_modPort ?_ h
  obtain ⟨hcounters, hdump⟩ := h p
  cases r
  case counters => exact ⟨balanced_zero, hdump⟩
  all_goals exact ⟨hcounters, hdump⟩

theorem portBooks_takeSelfCheck (h : s.PortBooks) : s.takeSelfCheck.PortBooks := by
  have hleveled : (s.setRc { s.rc with staged := .defaults, applied := .defaults, claim := none }
      ).recomputeLevels.PortBooks := portBooks_of_same h (by simp) (by simp)
  have hcleared := portBooks_mapPorts (f := PortState.forSelfCheck) (fun x _ => ⟨balanced_zero, bounded_cancelled x.dump⟩)
    hleveled
  exact portBooks_of_same hcleared (by simp [State.takeSelfCheck]) (by simp [State.takeSelfCheck])

theorem portBooks_countEnergy (h : s.PortBooks) : s.countEnergy.PortBooks :=
  portBooks_mapPorts (fun _ hx => ⟨balanced_addEvaluation _ _ _ hx.1, hx.2⟩) h

theorem portBooks_evaluate (h : s.PortBooks) : s.evaluate.PortBooks :=
  portBooks_countEnergy (portBooks_of_same h (by simp) (by simp))

theorem portBooks_countFriction (dt : Nat) (h : s.PortBooks) : (s.countFriction dt).PortBooks :=
  portBooks_mapPorts (fun _ hx => ⟨hx.1, hx.2⟩) h

theorem portBooks_brakeCommitted (b : BrakeReport) (dt : Nat) (h : s.PortBooks) : (s.brakeCommitted b dt).PortBooks := by
  have hcounted : ((s.readSlip.brakeWear dt).countFriction dt).PortBooks :=
    portBooks_countFriction dt (portBooks_of_same h (by simp) (by simp))
  unfold State.brakeCommitted
  dsimp only
  split_ifs <;> exact portBooks_of_same hcounted (by simp) (by simp)

theorem portBooks_handOn (r : Role) (e : Envelope) (dt : Nat) (h : s.PortBooks) : (s.handOn r e dt).PortBooks := by
  cases r
  case brake => exact portBooks_brakeCommitted e.brake dt h
  all_goals exact portBooks_of_same h (by simp [State.handOn]) (by simp [State.handOn])

theorem portBooks_commit (r : Role) (v : List Int) (x : BitVec 6) (h : s.PortBooks) : (s.commit r v x).PortBooks := by
  have hbegun : (if s.stale r then (s.writeEntry r v x).clear (linkCause r) else s.writeEntry r v x).PortBooks := by
    split_ifs <;> exact portBooks_of_same h (by simp) (by simp)
  exact portBooks_of_same (portBooks_handOn r s.env (s.deltaT r) hbegun) (by simp [State.commit]) (by simp [State.commit])

theorem portBooks_noticeAll (k : NoticeKind) (h : s.PortBooks) : (s.noticeAll k).PortBooks :=
  portBooks_mapPorts (fun _ hx => hx) h

theorem portBooks_dropSample (k : Nat) (h : s.PortBooks) : (s.dropSample k).PortBooks := by
  have hdropped : ∀ x : Recorder, ((s.setRcd x).mapPorts fun y => { y with dump := y.dump.dropped k }).PortBooks :=
    fun x => portBooks_mapPorts (fun _ hy => ⟨hy.1, bounded_dropped k hy.2⟩) h
  unfold State.dropSample
  dsimp only
  split_ifs
  · exact hdropped _
  · exact portBooks_noticeAll _ (hdropped _)

theorem portBooks_sampleEvent (h : s.PortBooks) : s.sampleEvent.PortBooks := by
  have hrecorded : s.recordSample.PortBooks := h
  have hcompleted : ∀ (u : State) (k : Nat), u.PortBooks → (u.completeSnapshots k).PortBooks := fun u k hu =>
    portBooks_of_same hu (by simp) (by simp)
  have hfetched : ∀ u : State, u.PortBooks → (u.mapPorts (PortState.fetch u.rcd)).PortBooks := fun u hu =>
    portBooks_mapPorts (fun _ hx => ⟨hx.1, bounded_fetch _ hx.2⟩) hu
  unfold State.sampleEvent State.recordEvent
  dsimp only
  split_ifs
  · exact hfetched _ (hcompleted _ _ (portBooks_dropSample _ hrecorded))
  · exact hfetched _ (hcompleted _ _ hrecorded)
  · exact h

theorem portBooks_operations : OperationsKeep State.PortBooks where
  queue _ _ h := h
  clock _ _ h := h
  shiftOut _ _ h := portBooks_modPort (h _) h
  respond _ _ _ _ h := portBooks_of_same h (by simp) (by simp)
  powerUp _ _ _ _ := portBooks_formPorts _ _
  loseSupply _ _ _ p := by cases p <;> exact books_atPowerOn
  assertReset _ _ h := portBooks_of_same h (by simp [State.assertReset]) (by simp [State.assertReset])
  releaseReset _ _ _ := portBooks_formPorts _ _
  endSelfCheck _ _ _ h := portBooks_of_same h (by simp) (by simp)
  takeLevel _ _ _ h := portBooks_of_same h (by simp [State.takeLevel]) (by simp [State.takeLevel])
  cursors _ _ _ h := portBooks_modPort (h _) h
  assembly _ _ _ h := portBooks_modPort (h _) h
  dumpRange _ _ _ h := portBooks_modPort (h _) h
  staging _ _ _ _ _ h := h
  commit _ _ _ _ _ _ h := portBooks_commit _ _ _ h
  capture _ p r h := portBooks_captureRecord p r h
  readStream s p _ _ hq h := portBooks_modPort ⟨(h p).1, bounded_fetch s.rcd (bounded_tail hq (h p).2)⟩ h
  enterStandby _ _ _ h := portBooks_of_same h (by simp) (by simp)
  dropToStandby _ _ h := portBooks_of_same h (by simp) (by simp)
  enterActive _ _ _ h := portBooks_of_same h (by simp) (by simp)
  enterHalted _ _ h := portBooks_of_same h (by simp) (by simp)
  takeSelfCheck _ _ h := portBooks_takeSelfCheck h
  applyStaged _ _ _ h := portBooks_of_same h (by simp [State.applyStaged]) (by simp [State.applyStaged])
  discardStaged _ h := portBooks_of_same h (by simp) (by simp)
  startCheckpoint _ _ _ _ h := portBooks_of_same h (by simp) (by simp)
  mergeCheckpoint _ _ _ _ h := h
  resetItem _ _ _ _ h := portBooks_of_same h (by simp) (by simp)
  fireTrigger _ h := portBooks_of_same h (by simp) (by simp)
  releaseDescriptor _ _ h := portBooks_of_same h (by simp [State.releaseDescriptor]) (by simp [State.releaseDescriptor])
  startDump _ p _ _ _ h := portBooks_modPort ⟨(h p).1, bounded_fetch _ (bounded_begun _ _ _)⟩ h
  cancelDump _ p h := portBooks_modPort ⟨(h p).1, bounded_cancelled _⟩ h
  freeCount _ _ h := h
  evaluate _ _ h := portBooks_evaluate h
  deadlineExpired _ _ h := portBooks_of_same h (by simp) (by simp)
  slipExpired _ _ h := h
  periodicExpiry _ _ _ h := portBooks_of_same h (by simp [State.periodicExpiry]) (by simp [State.periodicExpiry])
  verifyWrite _ _ _ h := portBooks_of_same h (by simp) (by simp)
  verifyErase _ _ _ h := portBooks_of_same h (by simp) (by simp)
  sampleEvent _ h := portBooks_sampleEvent h

/-- Settles O56: balance and bounds are properties of one port, kept by the operations that reach its flows or its dump. -/
theorem portBooksKept : Obligations.PortBooksKept := (keep_step portBooks_operations).congr fun _ => portBooks_iff

end Sys2Proof.Machine
end

section
/-! PROOFS. What triggers and returns of the sampling level keep, every operation that fires them keeps; that every operation
keeps run control, timers and the recorder state consistent, and the statement about run control. -/

namespace Sys2Proof.Machine

/-! ### Operations that reach the recorder by triggers alone (R45, R139, R165, R166) -/

/-- A property of the recorder, the windows and the run state that triggers and returns of the sampling level keep. -/
structure TriggersKeep (inv : State → Prop) : Prop where
  same : ∀ s t : State, t.rcd = s.rcd → t.rc.applied = s.rc.applied → t.rc.runState = s.rc.runState → inv s → inv t
  trigger : ∀ s c, inv s → inv (s.trigger c)
  returnLevel : ∀ s, inv s → inv s.returnLevel

section
variable {inv : State → Prop} (k : TriggersKeep inv) {s : State}
include k

theorem TriggersKeep.raise (c : Cause) (h : inv s) : inv (s.raise c) := by
  cases ha : s.causeActive c
  case true => rwa [raise_of_active s ha]
  case false =>
    rw [raise_of_inactive s ha]
    have hmarked : inv ((s.markRaised c).hardRaise c) := k.same s _ (by simp) (by simp) (by simp) h
    unfold State.raiseTrigger
    cases c.historyTrigger with
    | none => exact hmarked
    | some x => exact k.trigger _ x hmarked

theorem TriggersKeep.clear (c : Cause) (h : inv s) : inv (s.clear c) := k.same s _ (by simp) (by simp) (by simp) h

theorem TriggersKeep.setCause (c : Cause) (b : Bool) (h : inv s) : inv (s.setCause c b) := by
  cases b
  · exact k.clear c h
  · exact k.raise c h

theorem TriggersKeep.recomputeLevels (h : inv s) : inv s.recomputeLevels := by
  unfold State.recomputeLevels
  dsimp only
  split_ifs
  · exact k.trigger _ _ (k.same s _ (by simp) (by simp) (by simp) h)
  · exact k.same s _ (by simp) (by simp) (by simp) h
  · exact k.same s _ (by simp) (by simp) (by simp) h

theorem TriggersKeep.recomputeWear (x : Wear) (h : inv s) : inv (s.setWear x).recomputeLevels :=
  k.recomputeLevels (k.same s _ rfl rfl rfl h)

theorem TriggersKeep.resetItem (i : WearItem) (h : inv s) : inv (s.resetItem i) :=
  k.same _ _ (by simp [State.resetItem]) (by simp [State.resetItem]) (by simp [State.resetItem])
    (k.recomputeWear { s.wear with items := s.wear.items.set i { s.wear.items.get i with total := 0, residual := 0 } } h)

theorem TriggersKeep.readSlip (h : inv s) : inv s.readSlip := by
  unfold State.readSlip
  split_ifs
  · exact k.same (s.raise .slip) _ rfl rfl rfl (k.raise .slip h)
  · exact k.same (s.clear .slip) _ rfl rfl rfl (k.clear .slip h)
  · exact h

theorem TriggersKeep.slipGivenUp (h : inv s) : inv s.slipGivenUp := k.same s _ (by simp) (by simp) (by simp) h

theorem TriggersKeep.brakeCommitted (b : BrakeReport) (dt : Nat) (h : inv s) : inv (s.brakeCommitted b dt) := by
  have hleveled : inv (s.readSlip.addLiningWear dt).recomputeLevels := k.recomputeWear _ (k.readSlip h)
  have hcounted : inv ((s.readSlip.brakeWear dt).countFriction dt) :=
    k.same _ _ (by simp [State.brakeWear]) (by simp) (by simp) hleveled
  unfold State.brakeCommitted
  dsimp only
  split_ifs
  · exact k.returnLevel _ (k.trigger _ _ hcounted)
  · exact k.trigger _ _ hcounted
  · exact k.returnLevel _ hcounted
  · exact hcounted

theorem TriggersKeep.vehicleCommitted (h : inv s) : inv s.vehicleCommitted := by
  have hdoor : inv s.readDoor := k.setCause _ _ h
  unfold State.vehicleCommitted
  dsimp only
  split_ifs
  · exact k.same _ _ (by simp) (by simp) (by simp) (k.returnLevel _ hdoor)
  · exact k.same _ _ (by simp) (by simp) (by simp) hdoor

theorem TriggersKeep.commit (r : Role) (v : List Int) (x : BitVec 6) (h : inv s) : inv (s.commit r v x) := by
  have hhanded : ∀ u : State, inv u → inv ((u.handOn r s.env (s.deltaT r)).worsenCodes) := by
    intro u hu
    refine k.same (u.handOn r s.env (s.deltaT r)) _ rfl rfl rfl ?_
    cases r
    case vehicle => exact k.vehicleCommitted hu
    case genset => exact k.recomputeWear _ hu
    case storage => exact k.recomputeWear _ hu
    case traction => exact hu
    case brake => exact k.brakeCommitted _ _ hu
  unfold State.commit
  refine hhanded _ ?_
  split_ifs <;> exact k.same s _ (by simp) (by simp) (by simp) h

theorem TriggersKeep.deadlineExpired (r : Role) (h : inv s) : inv (s.deadlineExpired r) := by
  have hended : ∀ u : State, inv u → inv (u.discardStale r).worsenCodes := fun u hu =>
    k.same u _ (by simp) (by simp) (by simp) hu
  have hraised : ∀ x : Envelope, inv (((s.stopDeadline r).setEnv x).raise (linkCause r)) := fun x =>
    k.raise (linkCause r) (k.same s _ rfl rfl rfl h)
  unfold State.deadlineExpired
  dsimp only
  split_ifs
  · exact k.same s _ rfl rfl rfl h
  · unfold State.becomeStale
    dsimp only
    split_ifs
    · exact hended _ (k.slipGivenUp (hraised _))
    · exact hended _ (hraised _)

theorem TriggersKeep.failedStart (h : inv s) : inv s.failedStart := by
  unfold State.failedStart
  exact k.trigger _ _ (k.same s _ (by simp) (by simp) (by simp) h)

theorem TriggersKeep.stepStartRequested (h : inv s) : inv s.stepStartRequested := by
  unfold State.stepStartRequested
  split_ifs
  · exact k.same s _ (by simp) (by simp) (by simp) h
  · exact k.same s _ (by simp) (by simp) (by simp) h
  · exact k.failedStart h
  · exact h

theorem TriggersKeep.managerTransition (h : inv s) : inv s.managerTransition := by
  unfold State.managerTransition
  split_ifs
  · exact h
  · exact k.same s _ (by simp) (by simp) (by simp) h
  · cases s.gen.mgr
    case startRequested => exact k.stepStartRequested h
    all_goals exact k.same s _ (by simp) (by simp) (by simp) h
  · cases s.gen.mgr <;> exact k.same s _ (by simp) (by simp) (by simp) h

theorem TriggersKeep.evaluate (h : inv s) : inv s.evaluate := by
  have hbegun : inv (s.setSplit s.evaluated).filterDemand.testMinOff := k.same s _ (by simp) (by simp) (by simp) h
  exact k.same _ _ (by simp [State.evaluate, State.gensetStep]) (by simp) (by simp) (k.managerTransition hbegun)

end

variable {s t : State}

/-! ### Settings, the claim, and the timers of run control (R13, R18, R19, R32, R59, R151) -/

/-- The timers that the run state starts and stops run exactly then. -/
def State.RunTimers (s : State) : Prop :=
  (s.rc.checkEnd.isSome = true ↔ s.rc.runState = .selfCheck) ∧
  (s.split.evalDue.isSome = true ↔ s.rc.runState = .standby ∨ s.rc.runState = .active) ∧
  (s.store.timer.isSome = true ↔ s.rc.runState = .active) ∧
  (s.rc.runState = .selfCheck ∨ s.rc.runState = .halted → ∀ r, (s.env.book.get r).deadline = none)

/-- What O57 says of run control. -/
def State.RunControlled (s : State) : Prop := s.SettingsConsistent ∧ s.ClaimBound ∧ s.RunTimers

theorem runTimers_of_same (h : s.RunTimers) (hrc : t.rc = s.rc) (hdue : t.split.evalDue = s.split.evalDue)
    (htimer : t.store.timer = s.store.timer)
    (hbook : ∀ r, (t.env.book.get r).deadline = (s.env.book.get r).deadline) : t.RunTimers := by
  simpa only [State.RunTimers, hrc, hdue, htimer, hbook] using h

theorem runControlled_of_same (h : s.RunControlled) (hrc : t.rc = s.rc) (hdue : t.split.evalDue = s.split.evalDue)
    (htimer : t.store.timer = s.store.timer)
    (hbook : ∀ r, (t.env.book.get r).deadline = (s.env.book.get r).deadline) : t.RunControlled := by
  obtain ⟨hset, hclaim, htimers⟩ := h
  refine ⟨?_, ?_, runTimers_of_same htimers hrc hdue htimer hbook⟩
  · simpa only [State.SettingsConsistent, hrc] using hset
  · simpa only [State.ClaimBound, State.roleOf, hrc] using hclaim

theorem State.StoreMoved.timer (h : s.StoreMoved t) : t.store.timer = s.store.timer := by
  obtain ⟨x, -, htimer, rfl | rfl⟩ := h <;> simp [htimer]

@[simp] theorem requestCheckpoint_timer (s : State) : s.requestCheckpoint.store.timer = s.store.timer :=
  (storeMoved_requestCheckpoint s).timer

@[simp] theorem startCheckpoint_timer (s : State) : s.startCheckpoint.store.timer = s.store.timer :=
  (storeMoved_startCheckpoint s).timer

@[simp] theorem recomputeLevels_timer (s : State) : s.recomputeLevels.store.timer = s.store.timer := by
  unfold State.recomputeLevels
  dsimp only
  split_ifs <;> simp

@[simp] theorem verifyErase_timer (s : State) (f : CellFaults) : (s.verifyErase f).store.timer = s.store.timer :=
  (storeMoved_verifyErase s f).timer

@[simp] theorem verifyWrite_timer (s : State) (f : CellFaults) : (s.verifyWrite f).store.timer = s.store.timer := by
  obtain ⟨x, ports, -, htimer, hm | hm⟩ := storeMoved_verifyWrite s f
  · rw [hm.timer]
    simp [htimer]
  · rw [hm.timer]
    simp [htimer]

@[simp] theorem handOn_timer (s : State) (r : Role) (e : Envelope) (dt : Nat) :
    (s.handOn r e dt).store.timer = s.store.timer := by
  cases r
  case brake =>
    show (s.brakeCommitted e.brake dt).store.timer = _
    unfold State.brakeCommitted
    dsimp only
    split_ifs <;> simp [State.brakeWear]
  all_goals simp [State.handOn, State.countStart, State.batteryWear]

/-- A raise reaches no timer of run control. -/
@[simp] theorem raise_evalDue (s : State) (c : Cause) : (s.raise c).split.evalDue = s.split.evalDue := by
  cases ha : s.causeActive c
  case true => rw [raise_of_active s ha]
  case false =>
    cases hc : c.hard
    · rw [(raise_soft s c hc).1]
    · rw [(raise_hard s ha hc).2]

@[simp] theorem setCause_evalDue (s : State) (c : Cause) (b : Bool) :
    (s.setCause c b).split.evalDue = s.split.evalDue := by
  cases b <;> simp [State.setCause]

/-- The consistency of settings is a conjunction without a first failing condition (R18). -/
theorem consistent_of_firstFailing {x : Settings} (h : x.firstFailing = none) : x.consistent = true := by
  unfold Settings.firstFailing at h
  rw [List.findIdx?_eq_none_iff] at h
  unfold Settings.consistent
  rw [List.all_eq_true]
  intro b hb
  simpa using h b hb

theorem defaults_consistent : Settings.defaults.consistent = true := reset_settingsConsistent

/-- Of an unbound claimant the claim is gone, and what remains is a bound one's. -/
theorem claimBound_discardUnbound (s : State) : s.discardUnbound.ClaimBound := by
  intro p hp hrole
  have hstraps : s.discardUnbound.rc.straps = s.rc.straps := by simp
  rw [State.roleOf, hstraps] at hrole
  unfold State.discardUnbound at hp
  cases hc : s.rc.claim with
  | none => simp [hc] at hp
  | some q =>
    simp only [hc] at hp
    split_ifs at hp with hq
    · simp at hp
    · rw [hc] at hp
      cases hp
      exact absurd hrole hq

theorem claimBound_of_none (h : s.rc.claim = none) : s.ClaimBound := by
  intro p hp
  rw [h] at hp
  cases hp

theorem runControlled_staging {p : Port} {st : Settings} (hb : s.roleOf p = none → s.rc.runState = .halted)
    (h : s.RunControlled) : (s.setRc { s.rc with claim := some p, staged := st }).RunControlled := by
  obtain ⟨hset, -, htimers⟩ := h
  refine ⟨hset, fun q hq hrole => ?_, htimers⟩
  cases hq
  exact hb hrole

theorem runControlled_discardStaged (h : s.RunControlled) : s.discardStaged.RunControlled := by
  obtain ⟨hset, -, htimers⟩ := h
  refine ⟨by simpa [State.SettingsConsistent] using hset, claimBound_of_none (by simp), ?_⟩
  simpa [State.RunTimers] using htimers

theorem runControlled_discardStale (r : Role) (h : s.RunControlled) : (s.discardStale r).RunControlled := by
  unfold State.discardStale
  split
  · exact h
  · split_ifs
    · exact runControlled_discardStaged h
    · exact h

theorem stopDeadlines_deadline (s : State) (r : Role) : (s.stopDeadlines.env.book.get r).deadline = none := by
  simp [State.stopDeadlines]

theorem runControlled_enterHalted (hset : s.SettingsConsistent) (hcheck : s.rc.checkEnd = none)
    (htimer : s.rc.runState ≠ .active → s.store.timer = none) : s.enterHalted.RunControlled := by
  refine ⟨?_, claimBound_discardUnbound _, ?_, ?_, ?_, fun _ r => ?_⟩
  · unfold State.enterHalted
    dsimp only
    split_ifs <;> simpa [State.SettingsConsistent] using hset
  · unfold State.enterHalted
    dsimp only
    split_ifs <;> simp [hcheck]
  · unfold State.enterHalted
    dsimp only
    split_ifs <;> simp [State.stopSplit, Split.stopped]
  · unfold State.enterHalted
    dsimp only
    split_ifs with hr
    · simp [State.leaveActive]
    · simp [htimer hr]
  · unfold State.enterHalted
    dsimp only
    split_ifs <;> simp [stopDeadlines_deadline]

theorem State.RunTimers.of_standby (h : s.RunTimers) (hr : s.rc.runState = .standby) :
    s.rc.checkEnd = none ∧ s.split.evalDue.isSome = true ∧ s.store.timer = none := by
  obtain ⟨hcheck, hdue, htimer, -⟩ := h
  simpa [hr] using And.intro hcheck (And.intro hdue htimer)

theorem State.RunTimers.of_active (h : s.RunTimers) (hr : s.rc.runState = .active) :
    s.rc.checkEnd = none ∧ s.split.evalDue.isSome = true ∧ s.store.timer.isSome = true := by
  obtain ⟨hcheck, hdue, htimer, -⟩ := h
  simpa [hr] using And.intro hcheck (And.intro hdue htimer)

theorem State.RunTimers.of_halted (h : s.RunTimers) (hr : s.rc.runState = .halted) :
    s.rc.checkEnd = none ∧ s.split.evalDue = none ∧ s.store.timer = none := by
  obtain ⟨hcheck, hdue, htimer, -⟩ := h
  simpa [hr] using And.intro hcheck (And.intro hdue htimer)

theorem State.RunTimers.of_selfCheck (h : s.RunTimers) (hr : s.rc.runState = .selfCheck) :
    s.rc.checkEnd.isSome = true ∧ s.split.evalDue = none ∧ s.store.timer = none := by
  obtain ⟨hcheck, hdue, htimer, -⟩ := h
  simpa [hr] using And.intro hcheck (And.intro hdue htimer)

theorem runControlled_enterHalted_of_driving (hr : s.rc.runState = .standby ∨ s.rc.runState = .active)
    (h : s.RunControlled) : s.enterHalted.RunControlled := by
  obtain ⟨hset, -, htimers⟩ := h
  obtain hr | hr := hr
  · obtain ⟨hcheck, -, htimer⟩ := htimers.of_standby hr
    exact runControlled_enterHalted hset hcheck fun _ => htimer
  · obtain ⟨hcheck, -, -⟩ := htimers.of_active hr
    exact runControlled_enterHalted hset hcheck fun hne => absurd hr hne

theorem runControlled_endSelfCheck (f : StepFailures) (hr : s.rc.runState = .selfCheck) (h : s.RunControlled) :
    (s.endSelfCheck f).RunControlled := by
  obtain ⟨hset, -, htimers⟩ := h
  obtain ⟨-, -, htimer⟩ := htimers.of_selfCheck hr
  refine runControlled_enterHalted ?_ ?_ fun _ => ?_
  · split_ifs <;> simpa [State.SettingsConsistent] using hset
  · split_ifs <;> simp
  · split_ifs <;> simpa using htimer

theorem runControlled_enterStandby (hr : s.rc.runState = .halted) (h : s.RunControlled) :
    s.enterStandby.RunControlled := by
  obtain ⟨hset, -, htimers⟩ := h
  obtain ⟨hcheck, -, htimer⟩ := htimers.of_halted hr
  refine ⟨?_, claimBound_discardUnbound _, ?_, ?_, ?_, ?_⟩
  · simpa [State.SettingsConsistent, State.enterStandby] using hset
  · simp [State.enterStandby, hcheck]
  · simp [State.enterStandby]
  · simp [State.enterStandby, htimer]
  · simp [State.enterStandby]

theorem runControlled_dropToStandby (hr : s.rc.runState = .active) (h : s.RunControlled) :
    s.dropToStandby.RunControlled := by
  obtain ⟨hset, hclaim, htimers⟩ := h
  obtain ⟨hcheck, hdue, -⟩ := htimers.of_active hr
  refine ⟨?_, fun p hp hrole => ?_, ?_, ?_, ?_, ?_⟩
  · simpa [State.SettingsConsistent, State.dropToStandby] using hset
  · have hhalted := hclaim p (by simpa [State.dropToStandby] using hp)
      (by simpa [State.roleOf, State.dropToStandby] using hrole)
    rw [hr] at hhalted
    cases hhalted
  · simp [State.dropToStandby, hcheck]
  · simpa [State.dropToStandby, State.leaveActive, State.zeroCommand] using hdue
  · simp [State.dropToStandby, State.leaveActive]
  · simp [State.dropToStandby]

theorem runControlled_enterActive (hr : s.rc.runState = .standby) (h : s.RunControlled) :
    s.enterActive.RunControlled := by
  obtain ⟨hset, hclaim, htimers⟩ := h
  obtain ⟨hcheck, hdue, -⟩ := htimers.of_standby hr
  refine ⟨?_, fun p hp hrole => ?_, ?_, ?_, ?_, ?_⟩
  · simpa [State.SettingsConsistent] using hset
  · have hhalted := hclaim p (by simpa using hp) (by simpa [State.roleOf] using hrole)
    rw [hr] at hhalted
    cases hhalted
  · simp [hcheck]
  · simpa using hdue
  · simp
  · simp

theorem runControlled_takeSelfCheck (hr : s.rc.runState = .halted) (h : s.RunControlled) :
    s.takeSelfCheck.RunControlled := by
  obtain ⟨-, -, htimers⟩ := h
  obtain ⟨-, -, htimer⟩ := htimers.of_halted hr
  have hrun : s.takeSelfCheck.rc.runState = .selfCheck := by simp [State.takeSelfCheck, State.startSelfCheck]
  refine ⟨?_, claimBound_of_none (by simp [State.takeSelfCheck, State.startSelfCheck]), ?_, ?_, ?_, fun _ r => ?_⟩
  · simpa [State.SettingsConsistent, State.takeSelfCheck, State.startSelfCheck] using defaults_consistent
  · rw [hrun]
    simp [State.takeSelfCheck, State.startSelfCheck]
  · rw [hrun]
    simp [State.takeSelfCheck, State.startSelfCheck, State.stopSplit, Split.stopped]
  · rw [hrun]
    simp [State.takeSelfCheck, State.startSelfCheck, htimer]
  · simp [State.takeSelfCheck, State.startSelfCheck, State.stopDeadlines]

theorem runControlled_applyStaged (hf : s.rc.staged.firstFailing = none) (h : s.RunControlled) :
    s.applyStaged.RunControlled := by
  obtain ⟨-, -, htimers⟩ := h
  refine ⟨?_, claimBound_of_none (by simp [State.applyStaged]), ?_⟩
  · simpa [State.SettingsConsistent, State.applyStaged] using consistent_of_firstFailing hf
  · simpa [State.RunTimers, State.applyStaged] using htimers

theorem runControlled_commit (r : Role) (v : List Int) (x : BitVec 6) (h : s.RunControlled) :
    (s.commit r v x).RunControlled := by
  obtain ⟨hset, hclaim, hcheck, hdue, htimer, hbook⟩ := h
  have hrc : (s.commit r v x).rc = s.rc := by simp
  have henv : (s.commit r v x).env = (s.writeEntry r v x).env := by
    unfold State.commit
    dsimp only
    split_ifs <;> simp
  refine ⟨by simpa [State.SettingsConsistent] using hset, by simpa [State.ClaimBound, State.roleOf] using hclaim,
    by simpa using hcheck, ?_, ?_, fun hr q => ?_⟩
  · unfold State.commit
    dsimp only
    split_ifs <;> simpa using hdue
  · unfold State.commit
    dsimp only
    split_ifs <;> simpa using htimer
  · rw [hrc] at hr
    rw [henv]
    by_cases hq : q = r
    · subst hq
      obtain hr | hr := hr <;> simp [State.writeEntry, State.deadlineAfterCommit, hr]
    · have hentry : (s.writeEntry r v x).env.book.get q = s.env.book.get q := by
        show ((s.env.withReport r v).book.set r _).get q = _
        rw [role_get_set_other _ _ _ _ hq]
        cases r <;> rfl
      rw [hentry]
      exact hbook hr q

/-- A deadline that runs out has been stopped, and no other one is touched. -/
theorem stopDeadline_deadline (r q : Role) (h : (s.env.book.get q).deadline = none) :
    ((s.stopDeadline r).env.book.get q).deadline = none := by
  by_cases hq : q = r
  · subst hq
    simp [State.stopDeadline]
  · simpa [State.stopDeadline, hq] using h

theorem runControlled_stopDeadline (r : Role) (h : s.RunControlled) : (s.stopDeadline r).RunControlled := by
  obtain ⟨hset, hclaim, hcheck, hdue, htimer, hbook⟩ := h
  exact ⟨hset, hclaim, hcheck, hdue, htimer, fun hr q => stopDeadline_deadline r q (hbook hr q)⟩

theorem markStale_deadline (r q : Role) :
    ((s.setEnv { s.env with book := s.env.book.set r { s.env.book.get r with stale := true } }).env.book.get q).deadline =
      (s.env.book.get q).deadline := by
  by_cases hq : q = r
  · subst hq
    simp
  · simp [hq]

theorem runControlled_raise (c : Cause) (h : s.RunControlled) : (s.raise c).RunControlled :=
  runControlled_of_same h (by simp) (by simp) (by simp) (by simp)

theorem runControlled_slipGivenUp (h : s.RunControlled) : s.slipGivenUp.RunControlled :=
  runControlled_of_same h (by simp) (by simp) (by simp) (by simp)

theorem runControlled_becomeStale (r : Role) (h : s.RunControlled) : (s.becomeStale r).RunControlled := by
  have hmarked : (s.setEnv { s.env with book := s.env.book.set r { s.env.book.get r with stale := true } }).RunControlled :=
    runControlled_of_same h rfl rfl rfl (markStale_deadline r)
  have hended : ∀ u : State, u.RunControlled → (u.discardStale r).worsenCodes.RunControlled :=
    fun u hu => runControlled_discardStale r hu
  have hraised := runControlled_raise (linkCause r) hmarked
  unfold State.becomeStale
  dsimp only
  split_ifs
  · exact hended _ (runControlled_slipGivenUp hraised)
  · exact hended _ hraised

theorem runControlled_deadlineExpired (r : Role) (h : s.RunControlled) : (s.deadlineExpired r).RunControlled := by
  unfold State.deadlineExpired
  dsimp only
  split_ifs
  · exact runControlled_stopDeadline r h
  · exact runControlled_becomeStale r (runControlled_stopDeadline r h)

theorem runControlled_evaluate (hr : s.rc.runState = .standby ∨ s.rc.runState = .active) (h : s.RunControlled) :
    s.evaluate.RunControlled := by
  obtain ⟨hset, hclaim, hcheck, -, htimer, hbook⟩ := h
  refine ⟨by simpa [State.SettingsConsistent] using hset, by simpa [State.ClaimBound, State.roleOf] using hclaim,
    by simpa using hcheck, ?_, by simpa using htimer, by simpa using hbook⟩
  simpa [State.evaluated] using hr

theorem runControlled_periodicExpiry {d : Nat} (hd : s.store.timer = some d) (h : s.RunControlled) :
    s.periodicExpiry.RunControlled := by
  obtain ⟨hset, hclaim, hcheck, hdue, htimer, hbook⟩ := h
  have hactive : s.rc.runState = .active := htimer.mp (by simp [hd])
  refine ⟨by simpa [State.SettingsConsistent, State.periodicExpiry] using hset,
    by simpa [State.ClaimBound, State.roleOf, State.periodicExpiry] using hclaim,
    by simpa [State.periodicExpiry] using hcheck, by simpa [State.periodicExpiry] using hdue, ?_,
    by simpa [State.periodicExpiry] using hbook⟩
  simp [State.periodicExpiry, hactive]

theorem reset_runControlled : State.reset.RunControlled :=
  ⟨reset_settingsConsistent, claimBound_of_none rfl, by decide, by decide, by decide, fun _ r => by cases r <;> rfl⟩

theorem runControlled_operations : OperationsKeep State.RunControlled where
  queue _ _ h := h
  clock _ _ h := h
  shiftOut _ _ h := h
  respond _ _ _ _ h := h
  powerUp _ _ _ _ := ⟨reset_settingsConsistent, claimBound_of_none rfl, by simp [State.powerUp, State.formPorts, State.reset],
    by simp [State.powerUp, State.formPorts, State.reset, Split.atReset],
    by simp [State.powerUp, State.formPorts, State.reset, Store.scanned], fun _ r => by cases r <;> rfl⟩
  loseSupply _ _ _ := ⟨reset_settingsConsistent, claimBound_of_none rfl, by simp [State.loseSupply, State.reset],
    by simp [State.loseSupply, State.reset, Split.atReset], by simp [State.loseSupply, State.reset, Store.atPowerOn],
    fun _ r => by cases r <;> rfl⟩
  assertReset s c h := by
    refine runControlled_of_same h (by simp [State.assertReset]) (by simp [State.assertReset]) ?_
      (by simp [State.assertReset])
    unfold State.assertReset State.cutStoreOff
    cases s.store.phase <;> simp [Store.stopped]
  releaseReset _ _ _ := ⟨reset_settingsConsistent, claimBound_of_none rfl,
    by simp [State.releaseReset, State.formPorts, State.reset],
    by simp [State.releaseReset, State.formPorts, State.reset, Split.atReset],
    by simp [State.releaseReset, State.formPorts, State.reset, Store.scanned], fun _ r => by cases r <;> rfl⟩
  endSelfCheck _ f hr h := runControlled_endSelfCheck f hr h
  takeLevel _ _ _ h := runControlled_of_same h (by simp [State.takeLevel]) (by simp [State.takeLevel])
    (by simp [State.takeLevel]) (by simp [State.takeLevel])
  cursors _ _ _ h := h
  assembly _ _ _ h := h
  dumpRange _ _ _ h := h
  staging _ _ _ hb _ h := runControlled_staging hb h
  commit _ _ _ _ _ _ h := runControlled_commit _ _ _ h
  capture _ _ _ h := h
  readStream _ _ _ _ _ h := h
  enterStandby _ hr _ h := runControlled_enterStandby hr h
  dropToStandby _ hr h := runControlled_dropToStandby hr h
  enterActive _ hr _ h := runControlled_enterActive hr h
  enterHalted _ hr h := runControlled_enterHalted_of_driving hr h
  takeSelfCheck _ hr h := runControlled_takeSelfCheck hr h
  applyStaged _ _ hf h := runControlled_applyStaged hf h
  discardStaged _ h := runControlled_discardStaged h
  startCheckpoint _ _ _ _ h := runControlled_of_same h (by simp) (by simp) (by simp) (by simp)
  mergeCheckpoint _ _ _ _ h := h
  resetItem _ _ _ _ h := runControlled_of_same h (by simp) (by simp) (by simp [State.resetItem]) (by simp)
  fireTrigger _ h := runControlled_of_same h (by simp) (by simp) (by simp) (by simp)
  releaseDescriptor _ _ h := runControlled_of_same h (by simp [State.releaseDescriptor])
    (by simp [State.releaseDescriptor]) (by simp [State.releaseDescriptor]) (by simp [State.releaseDescriptor])
  startDump _ _ _ _ _ h := h
  cancelDump _ _ h := h
  freeCount _ _ h := h
  evaluate _ hr h := runControlled_evaluate hr h
  deadlineExpired _ r h := runControlled_deadlineExpired r h
  slipExpired _ _ h := h
  periodicExpiry _ _ hd h := runControlled_periodicExpiry hd h
  verifyWrite _ _ _ h := runControlled_of_same h (by simp) (by simp) (by simp) (by simp)
  verifyErase _ _ _ h := runControlled_of_same h (by simp) (by simp) (by simp) (by simp)
  sampleEvent _ h := runControlled_of_same h (by simp) (by simp) (by simp) (by simp)

end Sys2Proof.Machine
end

section
/-! PROOFS. The snapshot table by its descriptors, the recorder after a trigger, and that every operation keeps the recorder
settled; the statement about run control. -/

namespace Sys2Proof.Machine

/-! ### The snapshot table by its descriptors (R162, R167, R168) -/

theorem table_ext {t u : SnapshotTable} (h : ∀ id, t.get id = u.get id) : t = u := by
  cases t
  cases u
  have h0 := h 0#2
  have h1 := h 1#2
  have h2 := h 2#2
  have h3 := h 3#2
  simp only [SnapshotTable.get] at h0 h1 h2 h3
  simp_all

theorem table_get_set (t : SnapshotTable) (id k : BitVec 2) (d : Descriptor) :
    (t.set id d).get k = if k = id then d else t.get k := by
  by_cases h : k = id
  · subst h
    simp
  · rw [if_neg h, table_get_set_other _ _ _ _ h]

theorem mem_descriptorIds (id : BitVec 2) : id ∈ descriptorIds := by
  revert id
  decide

/-- The descriptor freezes the recorder. -/
def Descriptor.freezing (d : Descriptor) : Bool := d.state == .complete && d.freeze

theorem frozen_eq (t : SnapshotTable) :
    t.frozen = (t.d0.freezing || t.d1.freezing || t.d2.freezing || t.d3.freezing) := by
  simp [SnapshotTable.frozen, SnapshotTable.toList, Descriptor.freezing, Bool.or_assoc]

theorem frozen_iff_freezing (t : SnapshotTable) : t.frozen = true ↔ ∃ id, (t.get id).freezing = true := by
  rw [frozen_eq]
  constructor
  · simp only [Bool.or_eq_true]
    rintro (((h | h) | h) | h)
    exacts [⟨0#2, h⟩, ⟨1#2, h⟩, ⟨2#2, h⟩, ⟨3#2, h⟩]
  · rintro ⟨id, h⟩
    have hid := mem_descriptorIds id
    simp only [descriptorIds, List.mem_cons, List.not_mem_nil, or_false] at hid
    obtain rfl | rfl | rfl | rfl := hid <;> simp only [SnapshotTable.get] at h <;> simp_all

theorem frozen_congr {t u : SnapshotTable} (h : ∀ id, (u.get id).freezing = (t.get id).freezing) :
    u.frozen = t.frozen := by
  rw [Bool.eq_iff_iff, frozen_iff_freezing, frozen_iff_freezing]
  simp only [h]

theorem findId_some {t : SnapshotTable} {f : Descriptor → Bool} {id : BitVec 2} (h : t.findId f = some id) :
    f (t.get id) = true := List.find?_some (p := fun id => f (t.get id)) h

theorem findId_none {t : SnapshotTable} {f : Descriptor → Bool} (h : t.findId f = none) (id : BitVec 2) :
    f (t.get id) = false := by
  have hno := List.find?_eq_none.mp h id (mem_descriptorIds id)
  simpa using hno

/-- A descriptor that a trigger may take holds no snapshot. -/
theorem available_some {t : SnapshotTable} {id : BitVec 2} (h : t.available = some id) :
    (t.get id).state = .free ∨ (t.get id).state = .overwritten := by
  unfold SnapshotTable.available at h
  cases hf : t.findId fun d => d.state == .free with
  | some k =>
    rw [hf] at h
    cases h
    exact .inl (by simpa using findId_some hf)
  | none =>
    rw [hf] at h
    have h' : t.findId (fun d => d.state == .overwritten) = some id := h
    exact .inr (by simpa using findId_some h')

/-! ### The recorder after a trigger (R165, R168, R169) -/

variable (s : State)

/-- The descriptor that a trigger opens in a recorder `r` (R169). -/
def State.begunSnapshot (r : Recorder) (c : TriggerCause) : Descriptor where
  state := if s.rc.applied.post.get c = 0 then .complete else .collecting
  cause := c
  trigger := r.newest
  first := max r.oldest (r.newest - s.rc.applied.pre.get c)
  last := r.newest + s.rc.applied.post.get c
  retriggers := 0
  freeze := c.freezes

/-- The recorder with its state the one that its conditions fix (R162, R163). -/
def Recorder.settled (r : Recorder) (run : RunState) (now : Nat) : Recorder :=
  if recorderState r.table run = r.state then r
  else if recorderState r.table run = .recording then
    { r with state := recorderState r.table run, level := .run, still := none, due := some (now + 20) }
  else { r with state := recorderState r.table run, due := none }

theorem settleRecorder_eq : s.settleRecorder = s.setRcd (s.rcd.settled s.rc.runState s.now) := by
  unfold State.settleRecorder Recorder.settled
  dsimp only
  split_ifs <;> rfl

theorem settleRecorder_rcd : s.settleRecorder.rcd = s.rcd.settled s.rc.runState s.now := by
  rw [settleRecorder_eq, setRcd_rcd]

theorem completed_rcd : s.completed.rcd = s.rcd.settled s.rc.runState s.now := by
  unfold State.completed
  rw [settleRecorder_rcd]
  simp

theorem openSnapshot_rcd (c : TriggerCause) (id : BitVec 2) : (s.openSnapshot c id).rcd =
    if s.rc.applied.post.get c = 0 then
      { s.rcd with table := s.rcd.table.set id (s.begunSnapshot s.rcd c) }.settled s.rc.runState s.now
    else { s.rcd with table := s.rcd.table.set id (s.begunSnapshot s.rcd c) } := by
  unfold State.openSnapshot
  dsimp only
  split_ifs with h
  · rw [completed_rcd]
    simp [State.begunSnapshot, h]
  · simp [State.begunSnapshot, h]

/-- A descriptor triggered again (R168). -/
def Descriptor.retriggered (d : Descriptor) : Descriptor := { d with retriggers := min 255 (d.retriggers + 1) }

/-- What a trigger makes of the recorder (R168): the level has returned to RUN; a descriptor that collects for the cause is
merged with, or one is opened, or nothing more. -/
theorem trigger_rcd_cases (c : TriggerCause) :
    (∃ id, ((s.returnLevel.rcd.table.get id).state = .collecting ∧ (s.returnLevel.rcd.table.get id).cause = c) ∧
      (s.trigger c).rcd = { s.returnLevel.rcd with
        table := s.returnLevel.rcd.table.set id (s.returnLevel.rcd.table.get id).retriggered }) ∨
    (s.trigger c).rcd = s.returnLevel.rcd ∨
    (∃ id, (∀ k, (s.returnLevel.rcd.table.get k).state = .collecting → (s.returnLevel.rcd.table.get k).cause ≠ c) ∧
      s.returnLevel.rcd.state = .recording ∧ s.returnLevel.rcd.empty = false ∧
      ((s.returnLevel.rcd.table.get id).state = .free ∨ (s.returnLevel.rcd.table.get id).state = .overwritten) ∧
      (s.trigger c).rcd = (s.returnLevel.openSnapshot c id).rcd) := by
  unfold State.trigger State.fireTrigger
  generalize s.returnLevel = t
  dsimp only
  cases hm : t.rcd.table.findId fun d => d.state == .collecting && d.cause == c with
  | some id => exact .inl ⟨id, by simpa using findId_some hm, rfl⟩
  | none =>
    dsimp only
    split_ifs with hno
    · exact .inr (.inl rfl)
    · simp only [not_or, ne_eq, not_not, Bool.not_eq_true] at hno
      obtain ⟨hrecording, hempty⟩ := hno
      cases ha : t.rcd.table.available with
      | none => exact .inr (.inl (by simp))
      | some id =>
        refine .inr (.inr ⟨id, fun k hk hc => ?_, hrecording, hempty, available_some ha, rfl⟩)
        simpa [hk, hc] using findId_none hm k

@[simp] theorem returned_table (r : Recorder) (n : Nat) : (r.returned n).table = r.table := by
  unfold Recorder.returned
  split_ifs <;> rfl

@[simp] theorem returned_state (r : Recorder) (n : Nat) : (r.returned n).state = r.state := by
  unfold Recorder.returned
  split_ifs <;> rfl

@[simp] theorem returned_ring (r : Recorder) (n : Nat) : (r.returned n).ring = r.ring ∧ (r.returned n).next = r.next ∧
    (r.returned n).empty = r.empty := by
  unfold Recorder.returned
  split_ifs <;> simp

@[simp] theorem settled_table (r : Recorder) (run : RunState) (n : Nat) : (r.settled run n).table = r.table := by
  unfold Recorder.settled
  split_ifs <;> rfl

@[simp] theorem settled_ring (r : Recorder) (run : RunState) (n : Nat) : (r.settled run n).ring = r.ring ∧
    (r.settled run n).next = r.next ∧ (r.settled run n).empty = r.empty := by
  unfold Recorder.settled
  split_ifs <;> simp

@[simp] theorem settled_state (r : Recorder) (run : RunState) (n : Nat) :
    (r.settled run n).state = recorderState r.table run := by
  unfold Recorder.settled
  split_ifs with h
  · exact h.symm
  · rfl
  · rfl

/-! ### The recorder settled (R162, R163) -/

/-- The recorder's sample timer runs exactly while it records. -/
def Recorder.TimerFollows (r : Recorder) : Prop := r.due.isSome = true ↔ r.state = .recording

/-- What O57 says of the recorder. -/
def State.RecorderFollows (s : State) : Prop := s.RecorderSettled ∧ s.rcd.TimerFollows

variable {s} {t : State}

theorem timerFollows_returned {r : Recorder} (n : Nat) (h : r.TimerFollows) : (r.returned n).TimerFollows := by
  unfold Recorder.returned
  split_ifs with hne
  · exact h
  · exact h
  · simpa [Recorder.TimerFollows] using hne

theorem timerFollows_settled {r : Recorder} (run : RunState) (n : Nat) (h : r.TimerFollows) :
    (r.settled run n).TimerFollows := by
  unfold Recorder.settled
  split_ifs with hsame hrec
  · exact h
  · simpa [Recorder.TimerFollows] using hrec
  · simpa [Recorder.TimerFollows] using hrec

theorem recorderFollows_of_same (hr : t.rcd = s.rcd) (hrun : t.rc.runState = s.rc.runState) (h : s.RecorderFollows) :
    t.RecorderFollows := by
  simpa only [State.RecorderFollows, State.RecorderSettled, hr, hrun] using h

theorem recorderFollows_settleRecorder (h : s.rcd.TimerFollows) : s.settleRecorder.RecorderFollows := by
  rw [settleRecorder_eq]
  exact ⟨by simp [State.RecorderSettled], timerFollows_settled _ _ h⟩

theorem recorderFollows_completed (h : s.rcd.TimerFollows) : s.completed.RecorderFollows :=
  recorderFollows_settleRecorder (by simpa using h)

theorem recorderFollows_returnLevel (h : s.RecorderFollows) : s.returnLevel.RecorderFollows := by
  rw [returnLevel_eq]
  exact ⟨by simpa [State.RecorderSettled] using h.1, timerFollows_returned _ h.2⟩

/-- A table that freezes as before asks for the same recorder state. -/
theorem recorderFollows_setTable {table : SnapshotTable} (hf : table.frozen = s.rcd.table.frozen)
    (h : s.RecorderFollows) : (s.setRcd { s.rcd with table := table }).RecorderFollows := by
  obtain ⟨hset, htimer⟩ := h
  refine ⟨?_, htimer⟩
  simpa [State.RecorderSettled, recorderState, hf] using hset

theorem frozen_set {table : SnapshotTable} {id : BitVec 2} {d : Descriptor} (h : d.freezing = (table.get id).freezing) :
    (table.set id d).frozen = table.frozen := by
  refine frozen_congr fun k => ?_
  rw [table_get_set]
  split_ifs with hk
  · rw [h, hk]
  · rfl

theorem freezing_of_state_ne {d : Descriptor} (h : d.state ≠ .complete) : d.freezing = false := by
  simp [Descriptor.freezing, h]

theorem recorderFollows_openSnapshot {c : TriggerCause} {id : BitVec 2} (h : s.RecorderFollows)
    (hfree : (s.rcd.table.get id).state = .free ∨ (s.rcd.table.get id).state = .overwritten) :
    (s.openSnapshot c id).RecorderFollows := by
  obtain ⟨hset, htimer⟩ := h
  refine ⟨?_, ?_⟩
  · unfold State.RecorderSettled
    rw [openSnapshot_rcd]
    split_ifs with hpost
    · simp
    · have hkept : (s.rcd.table.set id (s.begunSnapshot s.rcd c)).frozen = s.rcd.table.frozen := by
        refine frozen_set ?_
        rw [freezing_of_state_ne, freezing_of_state_ne]
        · obtain hfree | hfree := hfree <;> simp [hfree]
        · have hpost' : s.rc.applied.post.get c ≠ 0 := hpost
          simp [State.begunSnapshot, hpost']
      simpa [State.RecorderSettled, recorderState, hkept] using hset
  · rw [openSnapshot_rcd]
    split_ifs
    · exact timerFollows_settled _ _ htimer
    · exact htimer

theorem recorderFollows_trigger (c : TriggerCause) (h : s.RecorderFollows) : (s.trigger c).RecorderFollows := by
  have hreturned : s.returnLevel.RecorderFollows := recorderFollows_returnLevel h
  obtain ⟨id, -, hr⟩ | hr | ⟨id, -, -, -, hfree, hr⟩ := trigger_rcd_cases s c
  · exact recorderFollows_of_same (s := s.returnLevel.setRcd _) hr (by simp)
      (recorderFollows_setTable (frozen_set rfl) hreturned)
  · exact recorderFollows_of_same hr (by simp) hreturned
  · exact recorderFollows_of_same hr (by simp) (recorderFollows_openSnapshot hreturned hfree)

theorem recorderFollows_triggers : TriggersKeep State.RecorderFollows where
  same _ _ hr _ hrun h := recorderFollows_of_same hr hrun h
  trigger _ c h := recorderFollows_trigger c h
  returnLevel _ h := recorderFollows_returnLevel h

theorem recorderFollows_changeRunState (x : RunState) (h : s.rcd.TimerFollows) : (s.changeRunState x).RecorderFollows :=
  recorderFollows_settleRecorder (by simpa using h)

theorem recorderFollows_enterHalted (h : s.rcd.TimerFollows) : s.enterHalted.RecorderFollows := by
  unfold State.enterHalted
  have hchanged := recorderFollows_changeRunState .halted
    (s := (if s.rc.runState = .active then s.leaveActive else s).stopDeadlines.stopSplit.sendOff)
    (by split_ifs <;> simpa using h)
  exact recorderFollows_of_same (by simp) (by simp) hchanged

theorem recorderFollows_enterStandby (h : s.rcd.TimerFollows) : s.enterStandby.RecorderFollows :=
  recorderFollows_of_same (s := s.startDeadlines.changeRunState .standby) (by simp [State.enterStandby])
    (by simp [State.enterStandby]) (recorderFollows_changeRunState .standby (by simpa using h))

theorem recorderFollows_dropToStandby (h : s.rcd.TimerFollows) : s.dropToStandby.RecorderFollows :=
  recorderFollows_of_same (s := s.leaveActive.changeRunState .standby) (by simp [State.dropToStandby])
    (by simp [State.dropToStandby]) (recorderFollows_changeRunState .standby (by simpa using h))

theorem recorderFollows_enterActive (h : s.rcd.TimerFollows) : s.enterActive.RecorderFollows :=
  recorderFollows_of_same (s := s.sendOff.changeRunState .active) (by simp [State.enterActive])
    (by simp [State.enterActive]) (recorderFollows_changeRunState .active (by simpa using h))

/-- What a requested self-check does before the run state changes (R15). -/
def State.selfCheckCleared (s : State) : State :=
  ((s.setRc { s.rc with staged := .defaults, applied := .defaults, claim := none }).recomputeLevels).mapPorts
    PortState.forSelfCheck

theorem takeSelfCheck_eq : s.takeSelfCheck = s.selfCheckCleared.startSelfCheck true := rfl

theorem recorderFollows_startSelfCheck (b : Bool) (h : s.rcd.TimerFollows) : (s.startSelfCheck b).RecorderFollows :=
  recorderFollows_of_same (s := s.stopDeadlines.stopSplit.changeRunState .selfCheck) (by simp [State.startSelfCheck])
    (by simp [State.startSelfCheck]) (recorderFollows_changeRunState .selfCheck (by simpa using h))

theorem recorderFollows_takeSelfCheck (h : s.RecorderFollows) : s.takeSelfCheck.RecorderFollows := by
  have hleveled : (s.setRc { s.rc with staged := .defaults, applied := .defaults, claim := none }
      ).recomputeLevels.RecorderFollows := recorderFollows_triggers.recomputeLevels h
  exact recorderFollows_startSelfCheck true hleveled.2

theorem recorderFollows_endSelfCheck (f : StepFailures) (h : s.RecorderFollows) : (s.endSelfCheck f).RecorderFollows := by
  unfold State.endSelfCheck
  refine recorderFollows_enterHalted ?_
  have hcaused : ∀ (x : RunControl) (y : Cutback),
      (((s.setRc x).setCut y).setCause .selfCheckFail (firstFailure f).isSome).rcd = s.rcd := by
    intro x y
    unfold State.setCause
    split_ifs <;> simp
  split_ifs
  · exact hcaused _ _ ▸ h.2
  · exact hcaused _ _ ▸ h.2

theorem recorderFollows_applyStaged (h : s.RecorderFollows) : s.applyStaged.RecorderFollows := by
  unfold State.applyStaged
  exact recorderFollows_triggers.recomputeLevels (recorderFollows_of_same (by simp) (by simp) h)

theorem recorderFollows_releaseDescriptor (id : BitVec 2) (h : s.RecorderFollows) :
    (s.releaseDescriptor id).RecorderFollows := recorderFollows_settleRecorder h.2

/-! ### A sample (R161 to R164, R170, R171) -/

/-- The drop of a sample completes nothing. -/
theorem freezing_dropped (k : Nat) {d : Descriptor} (h : d.freezing = false) : (d.dropped k).freezing = false := by
  unfold Descriptor.dropped
  split_ifs
  · rfl
  · exact h

@[simp] theorem dropSample_rcd (k : Nat) :
    (s.dropSample k).rcd = { s.rcd with table := s.rcd.table.map (Descriptor.dropped k) } := by
  unfold State.dropSample
  dsimp only
  split_ifs <;> simp

theorem completeSnapshots_rcd (k : Nat) : (s.completeSnapshots k).rcd =
    if s.rcd.table.map (Descriptor.recorded k) = s.rcd.table then s.rcd
    else { s.rcd with table := s.rcd.table.map (Descriptor.recorded k) }.settled s.rc.runState s.now := by
  unfold State.completeSnapshots
  dsimp only
  split_ifs
  · rfl
  · rw [completed_rcd]
    rfl

theorem recorderFollows_completeSnapshots (k : Nat) (h : s.RecorderFollows) :
    (s.completeSnapshots k).RecorderFollows := by
  unfold State.completeSnapshots
  dsimp only
  split_ifs
  · exact h
  · exact recorderFollows_completed h.2

theorem frozen_false_iff (t : SnapshotTable) : t.frozen = false ↔ ∀ id, (t.get id).freezing = false := by
  rw [Bool.eq_false_iff, ne_eq, frozen_iff_freezing]
  simp

theorem recorderFollows_sampleEvent (h : s.RecorderFollows) : s.sampleEvent.RecorderFollows := by
  unfold State.sampleEvent
  split_ifs with hrec
  · obtain ⟨hstate, -⟩ := hrec
    obtain ⟨hset, -⟩ := h
    have hrecorded : s.recordSample.RecorderFollows :=
      ⟨by simpa [State.RecorderSettled, State.recordSample] using hset,
        by simp [Recorder.TimerFollows, State.recordSample, hstate]⟩
    have hunfrozen : s.recordSample.rcd.table.frozen = false := by
      rw [State.RecorderSettled, hstate, recorderState.eq_def] at hset
      by_contra hf
      rw [if_pos (by simpa [State.recordSample] using hf)] at hset
      cases hset
    have hdropped : ∀ k, (s.recordSample.dropSample k).RecorderFollows := by
      intro k
      refine recorderFollows_of_same (s := s.recordSample.setRcd _) (dropSample_rcd k) (by simp)
        (recorderFollows_setTable ?_ hrecorded)
      rw [hunfrozen, frozen_false_iff]
      intro id
      rw [table_get_map]
      exact freezing_dropped k ((frozen_false_iff _).mp hunfrozen id)
    have hfetched : ∀ u : State, u.RecorderFollows → (u.mapPorts (PortState.fetch u.rcd)).RecorderFollows :=
      fun u hu => recorderFollows_of_same rfl rfl hu
    unfold State.recordEvent
    dsimp only
    split_ifs
    · exact hfetched _ (recorderFollows_completeSnapshots _ (hdropped _))
    · exact hfetched _ (recorderFollows_completeSnapshots _ hrecorded)
  · exact h

theorem recorderFollows_powerUp (straps : PerPort (BitVec 3)) : (s.powerUp straps).RecorderFollows :=
  ⟨rfl, by simp [Recorder.TimerFollows, State.powerUp, State.formPorts, State.reset, Recorder.atPowerOn]⟩

theorem recorderFollows_releaseReset (straps : PerPort (BitVec 3)) : (s.releaseReset straps).RecorderFollows := by
  refine ⟨rfl, ?_⟩
  simp only [Recorder.TimerFollows, State.releaseReset, State.formPorts, State.reset, Recorder.atPowerOn,
    recorderState, setPorts_rcd]
  split_ifs <;> simp

theorem recorderFollows_operations : OperationsKeep State.RecorderFollows where
  queue _ _ h := h
  clock _ _ h := h
  shiftOut _ _ h := h
  respond _ _ _ _ h := h
  powerUp _ x _ _ := recorderFollows_powerUp x
  loseSupply _ _ _ := ⟨rfl, by simp [Recorder.TimerFollows, State.loseSupply, State.reset, Recorder.atPowerOn]⟩
  assertReset _ _ h := recorderFollows_of_same (by simp [State.assertReset]) (by simp [State.assertReset]) h
  releaseReset _ x _ := recorderFollows_releaseReset x
  endSelfCheck _ f _ h := recorderFollows_endSelfCheck f h
  takeLevel _ l _ h := recorderFollows_triggers.setCause .holdLine (l = .low) h
  cursors _ _ _ h := h
  assembly _ _ _ h := h
  dumpRange _ _ _ h := h
  staging _ _ _ _ _ h := h
  commit _ r _ _ _ _ h := recorderFollows_triggers.commit r _ _ h
  capture _ _ _ h := h
  readStream _ _ _ _ _ h := h
  enterStandby _ _ _ h := recorderFollows_enterStandby h.2
  dropToStandby _ _ h := recorderFollows_dropToStandby h.2
  enterActive _ _ _ h := recorderFollows_enterActive h.2
  enterHalted _ _ h := recorderFollows_enterHalted h.2
  takeSelfCheck _ _ h := recorderFollows_takeSelfCheck h
  applyStaged _ _ _ h := recorderFollows_applyStaged h
  discardStaged _ h := recorderFollows_of_same (by simp) (by simp) h
  startCheckpoint _ _ _ _ h := recorderFollows_of_same (by simp) (by simp) h
  mergeCheckpoint _ _ _ _ h := h
  resetItem _ i _ _ h := recorderFollows_triggers.resetItem i h
  fireTrigger _ h := recorderFollows_trigger .manual h
  releaseDescriptor _ id h := recorderFollows_releaseDescriptor id h
  startDump _ _ _ _ _ h := h
  cancelDump _ _ h := h
  freeCount _ _ h := h
  evaluate _ _ h := recorderFollows_triggers.evaluate h
  deadlineExpired _ r h := recorderFollows_triggers.deadlineExpired r h
  slipExpired _ _ h := h
  periodicExpiry _ _ _ h := recorderFollows_of_same (by simp [State.periodicExpiry]) (by simp [State.periodicExpiry]) h
  verifyWrite _ _ _ h := recorderFollows_of_same (by simp) (by simp) h
  verifyErase _ _ _ h := recorderFollows_of_same (by simp) (by simp) h
  sampleEvent _ h := recorderFollows_sampleEvent h

/-! ### The statement -/

theorem runControl_iff : (s.RunControlled ∧ s.RecorderFollows) ↔
    s.SettingsConsistent ∧ s.ClaimBound ∧ s.RecorderSettled ∧ s.TimersFollow := by
  simp only [State.RunControlled, State.RunTimers, State.RecorderFollows, Recorder.TimerFollows, State.TimersFollow]
  tauto

/-- Settles O57: settings, claim and the run state's timers are kept by every operation, and so are the recorder's state and
timer. -/
theorem runControlKept : Obligations.RunControlKept :=
  (Kept.and (keep_step runControlled_operations) (keep_step recorderFollows_operations)).congr fun _ => runControl_iff

end Sys2Proof.Machine
end

section
/-! PROOFS. Every operation keeps the history: the ring without a gap, one collecting snapshot for each cause, the samples of
kept snapshots retained (R161, R167 to R171). -/

namespace Sys2Proof.Machine

variable {s t : State}

/-- What the statement asks of the history. -/
def State.HistoryWhole (s : State) : Prop :=
  s.SettingsConsistent ∧ s.RingWhole ∧ s.OneCollecting ∧ s.SnapshotsRetained

/-! ### What the recorder's settling and a run state's change leave of the history -/

@[simp] theorem changeRunState_history (s : State) (x : RunState) :
    (s.changeRunState x).rcd.ring = s.rcd.ring ∧ (s.changeRunState x).rcd.next = s.rcd.next ∧
      (s.changeRunState x).rcd.empty = s.rcd.empty ∧ (s.changeRunState x).rcd.table = s.rcd.table := by
  simp [State.changeRunState, settleRecorder_rcd]

@[simp] theorem returnLevel_history (s : State) :
    s.returnLevel.rcd.ring = s.rcd.ring ∧ s.returnLevel.rcd.next = s.rcd.next ∧
      s.returnLevel.rcd.empty = s.rcd.empty ∧ s.returnLevel.rcd.table = s.rcd.table := by
  simp [returnLevel_eq]

/-- The history is a matter of the ring, the table and the applied settings. -/
theorem historyWhole_of_same (h : s.HistoryWhole) (ha : t.rc.applied = s.rc.applied) (hring : t.rcd.ring = s.rcd.ring)
    (hnext : t.rcd.next = s.rcd.next) (hempty : t.rcd.empty = s.rcd.empty) (htable : t.rcd.table = s.rcd.table) :
    t.HistoryWhole := by
  simpa [State.HistoryWhole, State.SettingsConsistent, State.RingWhole, State.OneCollecting, State.SnapshotsRetained,
    Recorder.oldest, Recorder.newest, ha, hring, hnext, hempty, htable] using h

/-- Consistent settings bound the windows of a snapshot (R18). -/
theorem windows_of_consistent {a : Settings} (h : a.consistent = true) (c : TriggerCause) :
    a.pre.get c ≤ 4000 ∧ a.post.get c ≤ 4000 := by
  have hpre : (a.pre.toList.all fun w => decide (w ≤ 4000)) = true := by
    simp_all [Settings.consistent, Settings.conditions]
  have hpost : (a.post.toList.all fun w => decide (w ≤ 4000)) = true := by
    simp_all [Settings.consistent, Settings.conditions]
  simp only [PerTrigger.toList, List.all_cons, List.all_nil, Bool.and_true, Bool.and_eq_true, decide_eq_true_eq]
    at hpre hpost
  cases c <;> simp_all [PerTrigger.get]

/-! ### One descriptor -/

section
variable {oldest newest : Nat} {d : Descriptor}

/-- A descriptor that is neither COMPLETE nor COLLECTING holds no samples. -/
theorem retained_of_unused (hc : d.state ≠ .complete) (hk : d.state ≠ .collecting) : d.Retained oldest newest :=
  ⟨fun h => absurd h hc, fun h => absurd h hk⟩

theorem retained_begun (hcon : s.SettingsConsistent) (c : TriggerCause) :
    (s.begunSnapshot s.rcd c).Retained s.rcd.oldest s.rcd.newest := by
  obtain ⟨hpre, hpost⟩ := windows_of_consistent hcon c
  refine ⟨fun _ => Nat.le_max_left _ _, fun h => ?_⟩
  have hne : s.rc.applied.post.get c ≠ 0 := by
    intro h0
    simp [State.begunSnapshot, h0] at h
  simp only [State.begunSnapshot]
  omega

/-- A snapshot spans 8000 samples at most, so that one cut short at the newest sample is still retained (R179). -/
theorem retained_closed {r : Recorder} (h : d.Retained r.oldest r.newest) :
    (d.closed r.newest).Retained r.oldest r.newest := by
  obtain ⟨hcomplete, hcollecting⟩ := h
  unfold Descriptor.closed
  split_ifs with hc
  · refine ⟨fun _ => ?_, fun h => (nomatch h)⟩
    obtain ⟨htrig, hlast, hspan, hfirst⟩ := hcollecting hc
    simp only [Recorder.oldest, Config.ringSize]
    omega
  · exact ⟨hcomplete, hcollecting⟩

/-- The sample `k` recorded, the descriptor completed by it or kept: the window has moved by one. -/
theorem retained_recorded {k : Nat} (h : d.Retained (k - 1 - 8191) (k - 1))
    (hkept : d.state = .complete → 8192 ≤ k → k - 8192 < d.first) : (d.recorded k).Retained (k - 8191) k := by
  obtain ⟨hcomplete, hcollecting⟩ := h
  unfold Descriptor.recorded
  split_ifs with hc
  · obtain ⟨hstate, hlast⟩ := hc
    obtain ⟨htrig, hnew, hspan, hfirst⟩ := hcollecting hstate
    refine ⟨fun _ => ?_, fun h => (nomatch h)⟩
    show k - 8191 ≤ d.first
    omega
  · refine ⟨fun hs => ?_, fun hs => ?_⟩
    · have := hkept hs
      omega
    · obtain ⟨htrig, hnew, hspan, hfirst⟩ := hcollecting hs
      have hnot : ¬ d.last ≤ k := fun hl => hc ⟨hs, hl⟩
      omega

theorem retained_dropped {k : Nat} (h : d.Retained oldest newest) : (d.dropped k).Retained oldest newest := by
  unfold Descriptor.dropped
  split_ifs
  · exact retained_of_unused (by simp) (by simp)
  · exact h

/-- A COMPLETE descriptor outlives the drop of a sample older than its first (R171). -/
theorem first_of_dropped {k : Nat} (h : (d.dropped k).state = .complete) : k < (d.dropped k).first := by
  unfold Descriptor.dropped at h ⊢
  split_ifs at h ⊢ with hc
  rw [not_and] at hc
  exact Nat.lt_of_not_le (hc h)

theorem collecting_dropped {k : Nat} (h : (d.dropped k).state = .collecting) :
    d.state = .collecting ∧ (d.dropped k).cause = d.cause := by
  unfold Descriptor.dropped at h ⊢
  split_ifs at h ⊢
  exact ⟨h, rfl⟩

theorem collecting_recorded {k : Nat} (h : (d.recorded k).state = .collecting) :
    d.state = .collecting ∧ (d.recorded k).cause = d.cause := by
  unfold Descriptor.recorded at h ⊢
  split_ifs at h ⊢
  exact ⟨h, rfl⟩

theorem collecting_closed {k : Nat} : (d.closed k).state ≠ .collecting := by
  unfold Descriptor.closed
  split_ifs with h
  · simp
  · exact h

end

/-! ### The table -/

/-- A table of which each descriptor that collects did so before, for the same cause. -/
theorem oneCollecting_of_fewer (h : s.OneCollecting) (hf : ∀ id, (t.rcd.table.get id).state = .collecting →
    (s.rcd.table.get id).state = .collecting ∧ (t.rcd.table.get id).cause = (s.rcd.table.get id).cause) :
    t.OneCollecting := by
  intro a b ha hb hc
  obtain ⟨ha', hca⟩ := hf a ha
  obtain ⟨hb', hcb⟩ := hf b hb
  exact h a b ha' hb' (by rw [← hca, ← hcb, hc])

/-- A descriptor replaced by one that does not collect, or collects for a cause nobody else collects for. -/
theorem historyWhole_set (h : s.HistoryWhole) {id : BitVec 2} {d : Descriptor}
    (ht : t.rcd.table = s.rcd.table.set id d) (ha : t.rc.applied = s.rc.applied) (hring : t.rcd.ring = s.rcd.ring)
    (hnext : t.rcd.next = s.rcd.next) (hempty : t.rcd.empty = s.rcd.empty)
    (hone : d.state = .collecting → ∀ k, k ≠ id → (s.rcd.table.get k).state = .collecting →
      (s.rcd.table.get k).cause ≠ d.cause)
    (hret : d.Retained s.rcd.oldest s.rcd.newest) : t.HistoryWhole := by
  obtain ⟨hcon, hwhole, hcol, hretained⟩ := h
  refine ⟨by simpa [State.SettingsConsistent, ha] using hcon,
    by simpa [State.RingWhole, hring, hnext, hempty] using hwhole, ?_, fun k => ?_⟩
  · intro a b hsa hsb hc
    rw [ht, table_get_set] at hsa hsb hc
    rw [table_get_set] at hc
    split_ifs at hsa hsb hc with h1 h2 h2
    · rw [h1, h2]
    · exact absurd hc.symm (hone hsa b h2 hsb)
    · exact absurd hc (hone hsb a h1 hsa)
    · exact hcol a b hsa hsb hc
  · simp only [Recorder.oldest, Recorder.newest, hnext] at hret ⊢
    rw [ht, table_get_set]
    split_ifs
    · exact hret
    · exact hretained k

/-! ### Triggers (R168, R169) -/

theorem openSnapshot_table (s : State) (c : TriggerCause) (id : BitVec 2) :
    (s.openSnapshot c id).rcd.table = s.rcd.table.set id (s.begunSnapshot s.rcd c) ∧
      (s.openSnapshot c id).rcd.ring = s.rcd.ring ∧ (s.openSnapshot c id).rcd.next = s.rcd.next ∧
      (s.openSnapshot c id).rcd.empty = s.rcd.empty := by
  rw [openSnapshot_rcd]
  split_ifs <;> simp

theorem historyWhole_returnLevel (h : s.HistoryWhole) : s.returnLevel.HistoryWhole :=
  historyWhole_of_same h (by simp) (by simp) (by simp) (by simp) (by simp)

theorem historyWhole_trigger (c : TriggerCause) (h : s.HistoryWhole) : (s.trigger c).HistoryWhole := by
  have hret : s.returnLevel.HistoryWhole := historyWhole_returnLevel h
  obtain ⟨hcon, -, hcol, hretained⟩ := hret
  obtain ⟨id, ⟨hstate, -⟩, hr⟩ | hr | ⟨id, hnone, -, -, -, hr⟩ := trigger_rcd_cases s c
  case inl =>
    refine historyWhole_set (historyWhole_returnLevel h) (id := id) (d := (s.returnLevel.rcd.table.get id).retriggered)
      (by rw [hr]) (by simp) (by rw [hr]) (by rw [hr]) (by rw [hr]) (fun _ k hk hs hc => ?_) (hretained id)
    exact hk (hcol k id hs hstate hc)
  case inr.inl =>
    exact historyWhole_of_same (historyWhole_returnLevel h) (by simp) (by rw [hr]) (by rw [hr]) (by rw [hr]) (by rw [hr])
  case inr.inr =>
    obtain ⟨htable, hring, hnext, hempty⟩ := openSnapshot_table s.returnLevel c id
    refine historyWhole_set (historyWhole_returnLevel h) (id := id) (by rw [hr, htable]) (by simp) (by rw [hr, hring])
      (by rw [hr, hnext]) (by rw [hr, hempty]) (fun _ k _ hs => hnone k hs) (retained_begun hcon c)

theorem historyWhole_triggers : TriggersKeep State.HistoryWhole where
  same _ _ hr ha _ h := historyWhole_of_same h ha (by rw [hr]) (by rw [hr]) (by rw [hr]) (by rw [hr])
  trigger _ c h := historyWhole_trigger c h
  returnLevel _ h := historyWhole_returnLevel h

/-! ### Reset, self-check and settings -/

theorem historyWhole_atReset (ha : t.rc.applied = .defaults) (hr : t.rcd = State.reset.rcd) : t.HistoryWhole := by
  refine historyWhole_of_same (s := State.reset) ⟨reset_settingsConsistent, reset_ringWhole, ?_, fun id => ?_⟩ ha
    (by rw [hr]) (by rw [hr]) (by rw [hr]) (by rw [hr])
  · intro a b hstate
    rw [reset_descriptor] at hstate
    cases hstate
  · rw [reset_descriptor]
    exact retained_of_unused (by decide) (by decide)

theorem historyWhole_releaseReset (straps : PerPort (BitVec 3)) (h : s.HistoryWhole) :
    (s.releaseReset straps).HistoryWhole := by
  obtain ⟨-, hwhole, -, hretained⟩ := h
  refine ⟨defaults_consistent, hwhole, ?_, ?_⟩
  · intro a b hstate
    have hclosed : ((s.rcd.table.map (Descriptor.closed s.rcd.newest)).get a).state = .collecting := hstate
    rw [table_get_map] at hclosed
    exact absurd hclosed collecting_closed
  · intro id
    show ((s.rcd.table.map (Descriptor.closed s.rcd.newest)).get id).Retained s.rcd.oldest s.rcd.newest
    rw [table_get_map]
    exact retained_closed (hretained id)

theorem historyWhole_mapPorts (f : PortState → PortState) (h : s.HistoryWhole) : (s.mapPorts f).HistoryWhole :=
  historyWhole_of_same h (by simp) (by simp) (by simp) (by simp) (by simp)

theorem historyWhole_enterHalted (h : s.HistoryWhole) : s.enterHalted.HistoryWhole := by
  unfold State.enterHalted
  refine historyWhole_of_same h ?_ ?_ ?_ ?_ ?_
  all_goals
    simp only [discardUnbound_untouched, requestCheckpoint_untouched, discardUnbound_rc_kept, changeRunState_history, changeRunState_rc]
    split_ifs <;> simp

theorem historyWhole_endSelfCheck (f : StepFailures) (h : s.HistoryWhole) : (s.endSelfCheck f).HistoryWhole := by
  unfold State.endSelfCheck
  refine historyWhole_enterHalted ?_
  dsimp only
  have hcaused : ∀ (x : RunControl) (y : Cutback), x.applied = s.rc.applied →
      (((s.setRc x).setCut y).setCause .selfCheckFail (firstFailure f).isSome).HistoryWhole := fun x y hx =>
    historyWhole_triggers.setCause .selfCheckFail _ (historyWhole_of_same (s := s) h hx rfl rfl rfl rfl)
  split_ifs
  · exact hcaused _ _ rfl
  · exact historyWhole_mapPorts _ (hcaused _ _ rfl)

theorem historyWhole_settings {x : RunControl} (hx : x.applied.consistent = true) (h : s.HistoryWhole) :
    (s.setRc x).HistoryWhole := by
  obtain ⟨-, hwhole, hcol, hretained⟩ := h
  exact ⟨hx, hwhole, hcol, hretained⟩

theorem historyWhole_takeSelfCheck (h : s.HistoryWhole) : s.takeSelfCheck.HistoryWhole := by
  have hleveled := historyWhole_triggers.recomputeLevels
    (historyWhole_settings (x := { s.rc with staged := .defaults, applied := .defaults, claim := none })
      defaults_consistent h)
  rw [takeSelfCheck_eq]
  exact historyWhole_of_same hleveled (by simp [State.startSelfCheck, State.selfCheckCleared])
    (by simp [State.startSelfCheck, State.selfCheckCleared]) (by simp [State.startSelfCheck, State.selfCheckCleared])
    (by simp [State.startSelfCheck, State.selfCheckCleared]) (by simp [State.startSelfCheck, State.selfCheckCleared])

theorem historyWhole_applyStaged (hf : s.rc.staged.firstFailing = none) (h : s.HistoryWhole) :
    s.applyStaged.HistoryWhole := by
  unfold State.applyStaged
  refine historyWhole_triggers.recomputeLevels ?_
  exact historyWhole_of_same (s := s.setRc { s.rc with applied := s.rc.staged, claim := none })
    (historyWhole_settings (consistent_of_firstFailing hf) h) (by simp) (by simp) (by simp) (by simp) (by simp)

theorem historyWhole_releaseDescriptor (id : BitVec 2) (h : s.HistoryWhole) : (s.releaseDescriptor id).HistoryWhole := by
  refine historyWhole_set h (id := id) (d := { s.rcd.table.get id with state := .free }) ?_ ?_ ?_ ?_ ?_
    (fun hs => (nomatch hs)) (retained_of_unused (by simp) (by simp))
  all_goals simp [State.releaseDescriptor, settleRecorder_rcd]

/-! ### A sample (R161, R170, R171) -/

/-- The ring after a sample: the newest number in front, and the oldest gone from a full ring. -/
theorem ringWhole_recordSample (h : s.RingWhole) : s.recordSample.RingWhole := by
  obtain ⟨hring, -⟩ := h
  refine ⟨?_, by simp [State.recordSample]⟩
  simp only [State.recordSample, setRcd_rcd, List.map_take, List.map_cons, hring, Nat.add_sub_cancel]
  have hcons : (State.takeSample s).number :: (List.range (min s.rcd.next Config.ringSize)).map
      (fun i => s.rcd.next - 1 - i) = (List.range (min s.rcd.next Config.ringSize + 1)).map fun i => s.rcd.next - i := by
    rw [List.range_succ_eq_map, List.map_cons, List.map_map]
    refine congrArg₂ List.cons rfl (List.map_congr_left fun i _ => ?_)
    simp only [Function.comp_apply]
    omega
  rw [hcons, ← List.map_take, List.take_range]
  congr 2
  omega

/-- The recorder's table after a sample. -/
def State.sampledTable (s : State) : SnapshotTable :=
  (if Config.ringSize ≤ s.rcd.next then s.rcd.table.map (Descriptor.dropped (s.rcd.next - Config.ringSize))
    else s.rcd.table).map (Descriptor.recorded s.rcd.next)

theorem completeSnapshots_history (s : State) (k : Nat) :
    (s.completeSnapshots k).rcd.table = s.rcd.table.map (Descriptor.recorded k) ∧
      (s.completeSnapshots k).rcd.ring = s.rcd.ring ∧ (s.completeSnapshots k).rcd.next = s.rcd.next ∧
      (s.completeSnapshots k).rcd.empty = s.rcd.empty := by
  rw [completeSnapshots_rcd]
  split_ifs with h
  · exact ⟨h.symm, rfl, rfl, rfl⟩
  · simp

theorem recordEvent_history (s : State) :
    s.recordEvent.rcd.table = s.sampledTable ∧ s.recordEvent.rcd.ring = s.recordSample.rcd.ring ∧
      s.recordEvent.rcd.next = s.rcd.next + 1 ∧ s.recordEvent.rcd.empty = false := by
  unfold State.recordEvent State.sampledTable
  dsimp only
  rw [mapPorts_rcd]
  split_ifs <;> simp [completeSnapshots_history, State.recordSample]

theorem historyWhole_recordEvent (h : s.HistoryWhole) : s.recordEvent.HistoryWhole := by
  obtain ⟨hcon, hwhole, hcol, hretained⟩ := h
  obtain ⟨htable, hring, hnext, hempty⟩ := recordEvent_history s
  refine ⟨by simpa [State.SettingsConsistent] using hcon, ?_, ?_, fun id => ?_⟩
  · simpa [State.RingWhole, hring, hnext, hempty, State.recordSample] using ringWhole_recordSample hwhole
  · refine oneCollecting_of_fewer hcol fun id hs => ?_
    rw [htable, State.sampledTable, table_get_map] at hs ⊢
    obtain ⟨hs', hc⟩ := collecting_recorded hs
    rw [hc]
    split_ifs at hs' ⊢
    · rw [table_get_map] at hs' ⊢
      exact collecting_dropped hs'
    · exact ⟨hs', rfl⟩
  · simp only [Recorder.oldest, Recorder.newest, hnext, Nat.add_sub_cancel, htable, State.sampledTable, table_get_map]
    have hret : (s.rcd.table.get id).Retained (s.rcd.next - 1 - 8191) (s.rcd.next - 1) := hretained id
    split_ifs with hfull
    · rw [table_get_map]
      exact retained_recorded (retained_dropped hret) fun hs _ => first_of_dropped hs
    · exact retained_recorded hret fun _ h8 => absurd h8 hfull

theorem historyWhole_sampleEvent (h : s.HistoryWhole) : s.sampleEvent.HistoryWhole := by
  unfold State.sampleEvent
  split_ifs
  · exact historyWhole_recordEvent h
  · exact h

/-! ### The statement -/

theorem historyWhole_operations : OperationsKeep State.HistoryWhole where
  queue _ _ h := h
  clock _ _ h := h
  shiftOut _ _ h := h
  respond _ _ _ _ h := h
  powerUp _ _ _ _ := historyWhole_atReset rfl rfl
  loseSupply _ _ _ := historyWhole_atReset rfl rfl
  assertReset _ _ h := historyWhole_of_same h (by simp [State.assertReset]) (by simp [State.assertReset])
    (by simp [State.assertReset]) (by simp [State.assertReset]) (by simp [State.assertReset])
  releaseReset _ x h := historyWhole_releaseReset x h
  endSelfCheck _ f _ h := historyWhole_endSelfCheck f h
  takeLevel _ l _ h := historyWhole_triggers.setCause .holdLine (l = .low) h
  cursors _ _ _ h := h
  assembly _ _ _ h := h
  dumpRange _ _ _ h := h
  staging _ _ _ _ _ h := h
  commit _ r _ _ _ _ h := historyWhole_triggers.commit r _ _ h
  capture _ _ _ h := h
  readStream _ _ _ _ _ h := h
  enterStandby _ _ _ h := historyWhole_of_same h (by simp [State.enterStandby]) (by simp [State.enterStandby])
    (by simp [State.enterStandby]) (by simp [State.enterStandby]) (by simp [State.enterStandby])
  dropToStandby _ _ h := historyWhole_of_same h (by simp [State.dropToStandby]) (by simp [State.dropToStandby])
    (by simp [State.dropToStandby]) (by simp [State.dropToStandby]) (by simp [State.dropToStandby])
  enterActive _ _ _ h := historyWhole_of_same h (by simp [State.enterActive]) (by simp [State.enterActive])
    (by simp [State.enterActive]) (by simp [State.enterActive]) (by simp [State.enterActive])
  enterHalted _ _ h := historyWhole_enterHalted h
  takeSelfCheck _ _ h := historyWhole_takeSelfCheck h
  applyStaged _ _ hf h := historyWhole_applyStaged hf h
  discardStaged _ h := historyWhole_of_same h (by simp) (by simp) (by simp) (by simp) (by simp)
  startCheckpoint _ _ _ _ h := historyWhole_of_same h (by simp) (by simp) (by simp) (by simp) (by simp)
  mergeCheckpoint _ _ _ _ h := h
  resetItem _ i _ _ h := historyWhole_triggers.resetItem i h
  fireTrigger _ h := historyWhole_trigger .manual h
  releaseDescriptor _ id h := historyWhole_releaseDescriptor id h
  startDump _ _ _ _ _ h := h
  cancelDump _ _ h := h
  freeCount _ _ h := h
  evaluate _ _ h := historyWhole_triggers.evaluate h
  deadlineExpired _ r h := historyWhole_triggers.deadlineExpired r h
  slipExpired _ _ h := h
  periodicExpiry _ _ _ h := historyWhole_of_same h (by simp [State.periodicExpiry]) (by simp [State.periodicExpiry])
    (by simp [State.periodicExpiry]) (by simp [State.periodicExpiry]) (by simp [State.periodicExpiry])
  verifyWrite _ _ _ h := historyWhole_of_same h (by simp) (by simp) (by simp) (by simp) (by simp)
  verifyErase _ _ _ h := historyWhole_of_same h (by simp) (by simp) (by simp) (by simp) (by simp)
  sampleEvent _ h := historyWhole_sampleEvent h

/-- Settles O59: a snapshot spans at most 8000 samples of a ring of 8192, so that it is complete before its first is dropped. -/
theorem historyKept : Obligations.HistoryKept := keep_step historyWhole_operations

end Sys2Proof.Machine
end

section
/-! PROOFS. Every operation keeps the wear levels: each level is the one of its total, and no stored code is better than the
current status (R138, R142). -/

namespace Sys2Proof.Machine

variable {s t : State}

/-! ### The worse of two codes and the current statuses (R141, R142) -/

theorem code_worse (a b : WearCode) : (a.worse b).code = min a.code b.code := by
  unfold WearCode.worse
  split_ifs with h <;> omega

@[simp] theorem wearStatuses_get (s : State) (i : WearItem) : s.wearStatuses.get i = s.wearStatus i := by
  simp only [State.wearStatuses, item_get_map]
  cases i <;> rfl

theorem wearStatus_congr {i : WearItem} (hi : t.wear.items.get i = s.wear.items.get i)
    (hs : ∀ r, t.stale r = s.stale r) : t.wearStatus i = s.wearStatus i := by
  simp only [State.wearStatus, hi, hs]

theorem worsenCodes_codes (s : State) (p : Port) (i : WearItem) :
    ((s.worsenCodes.ports.get p).codes.get i).code = min ((s.ports.get p).codes.get i).code (s.wearStatus i).code := by
  simp [State.worsenCodes, code_worse]

theorem worsenCodes_wearStatus (s : State) (i : WearItem) : s.worsenCodes.wearStatus i = s.wearStatus i :=
  wearStatus_congr (by simp) (by simp [State.stale])

/-! ### Levels (R138) -/

/-- The items keep their levels where totals and thresholds are kept. -/
theorem levelsMatch_of_same (h : s.LevelsMatch) (hi : t.wear.items = s.wear.items)
    (ht : t.rc.applied.thresholds = s.rc.applied.thresholds) : t.LevelsMatch := by
  simpa [State.LevelsMatch, hi, ht] using h

@[simp] theorem recomputeLevels_items (s : State) :
    s.recomputeLevels.wear.items = leveled s.wear.items s.rc.applied.thresholds := by
  unfold State.recomputeLevels
  dsimp only
  split_ifs <;> simp

@[simp] theorem leveled_get (items : PerItem ItemState) (x : PerItem Thresholds) (i : WearItem) :
    (leveled items x).get i = { items.get i with level := levelOf (x.get i) (items.get i).total } := by
  simp [leveled]

theorem levelsMatch_recomputeLevels (s : State) : s.recomputeLevels.LevelsMatch := by
  intro i
  simp

/-! ### Codes (R142) -/

/-- Codes that got no better cover statuses that got no worse. -/
theorem codesCover_of_same (h : s.CodesCover) (hi : t.wear.items = s.wear.items) (hs : ∀ r, t.stale r = s.stale r)
    (hc : ∀ p, (t.ports.get p).codes = (s.ports.get p).codes) : t.CodesCover := by
  intro p i
  rw [hc, wearStatus_congr (s := s) (by rw [hi]) hs]
  exact h p i

theorem codesCover_worsenCodes (s : State) : s.worsenCodes.CodesCover := by
  intro p i
  rw [worsenCodes_codes, worsenCodes_wearStatus]
  exact Nat.min_le_right _ _

theorem codesCover_recomputeLevels (s : State) : s.recomputeLevels.CodesCover := by
  unfold State.recomputeLevels
  dsimp only
  have hworse := codesCover_worsenCodes (s.setWear { s.wear with items := leveled s.wear.items s.rc.applied.thresholds })
  split_ifs
  · exact codesCover_of_same hworse (by simp) (by simp [State.stale]) (by simp)
  · exact codesCover_of_same hworse (by simp) (by simp [State.stale]) (by simp)
  · exact hworse

theorem codesCover_formPorts (s : State) (x : NoticeSet) : (s.formPorts x).CodesCover := by
  intro p i
  have hstatus : (s.formPorts x).wearStatus i = s.wearStatus i := rfl
  rw [hstatus]
  simp [State.formPorts]

/-! ### Both -/

/-- What the statement asks of levels and codes. -/
def State.WearRead (s : State) : Prop := s.LevelsMatch ∧ s.CodesCover

theorem wearRead_of_same (h : s.WearRead) (hi : t.wear = s.wear) (ht : t.rc.applied = s.rc.applied)
    (hs : ∀ r, t.stale r = s.stale r) (hc : ∀ p, (t.ports.get p).codes = (s.ports.get p).codes) : t.WearRead :=
  ⟨levelsMatch_of_same h.1 (by rw [hi]) (by rw [ht]), codesCover_of_same h.2 (by rw [hi]) hs hc⟩

theorem wearRead_recomputeLevels (s : State) : s.recomputeLevels.WearRead :=
  ⟨levelsMatch_recomputeLevels s, codesCover_recomputeLevels s⟩

theorem wearRead_modPort {p : Port} {f : PortState → PortState} (hf : (f (s.ports.get p)).codes = (s.ports.get p).codes)
    (h : s.WearRead) : (s.modPort p f).WearRead := by
  refine wearRead_of_same h rfl rfl (fun _ => rfl) fun q => ?_
  rw [modPort_get]
  split_ifs with hq
  · rw [hq, hf]
  · rfl

theorem wearRead_powerUp (straps : PerPort (BitVec 3)) : (s.powerUp straps).WearRead := by
  refine ⟨fun i => ?_, codesCover_formPorts _ _⟩
  simp [State.powerUp, State.formPorts, restoredItems, State.reset]

theorem wearRead_releaseReset (straps : PerPort (BitVec 3)) : (s.releaseReset straps).WearRead := by
  refine ⟨fun i => ?_, codesCover_formPorts _ _⟩
  simp [State.releaseReset, State.formPorts, releasedItems, State.reset]

theorem wearRead_loseSupply (c : WriteCut) : (s.loseSupply c).WearRead :=
  wearRead_of_same (s := State.reset) ⟨reset_levelsMatch, reset_codesCover⟩ rfl rfl (fun _ => rfl) fun _ => rfl

theorem wearRead_captureRecord (p : Port) (r : RecordId) (h : s.WearRead) : (s.captureRecord p r).WearRead := by
  obtain ⟨hlevels, hcodes⟩ := h
  refine ⟨hlevels, fun q i => ?_⟩
  have hstatus : (s.captureRecord p r).wearStatus i = s.wearStatus i := rfl
  rw [hstatus, State.captureRecord, modPort_get]
  split_ifs with hq
  · subst hq
    cases r
    case wearStatus => simp [State.captureEffect]
    all_goals exact hcodes q i
  · exact hcodes q i

theorem wearRead_takeSelfCheck : s.takeSelfCheck.WearRead := by
  rw [takeSelfCheck_eq]
  have hleveled := wearRead_recomputeLevels
    (s.setRc { s.rc with staged := .defaults, applied := .defaults, claim := none })
  have hcleared : s.selfCheckCleared.WearRead :=
    wearRead_of_same hleveled rfl rfl (fun _ => rfl) fun p => by simp [State.selfCheckCleared, PortState.forSelfCheck]
  exact wearRead_of_same hcleared (by simp) (by simp [State.startSelfCheck])
    (by simp [State.stale, State.startSelfCheck, State.stopDeadlines, State.stopSplit]) (by simp)

theorem wearRead_applyStaged : s.applyStaged.WearRead := wearRead_recomputeLevels _

theorem wearRead_resetItem (i : WearItem) : (s.resetItem i).WearRead := by
  have hleveled := wearRead_recomputeLevels (s.setWear { s.wear with
    items := s.wear.items.set i { s.wear.items.get i with total := 0, residual := 0 } })
  exact wearRead_of_same (t := State.requestCheckpoint _) hleveled (by simp) (by simp) (by simp [State.stale]) (by simp)

/-! ### A commit and a deadline (R28, R33) -/

theorem levelsMatch_brakeCommitted (b : BrakeReport) (dt : Nat) : (s.brakeCommitted b dt).LevelsMatch := by
  have hheat : ∀ u : State, (u.heatLinings dt).wear.items = u.wear.items := by
    intro u
    unfold State.heatLinings
    dsimp only
    split_ifs <;> simp
  have hwear : ((s.readSlip).brakeWear dt).LevelsMatch := by
    unfold State.brakeWear
    exact levelsMatch_of_same (levelsMatch_recomputeLevels _) (hheat _) (by simp)
  refine levelsMatch_of_same hwear ?_ ?_
  all_goals
    unfold State.brakeCommitted
    dsimp only
    split_ifs <;> simp

theorem levelsMatch_handOn (r : Role) (e : Envelope) (dt : Nat) (h : s.LevelsMatch) : (s.handOn r e dt).LevelsMatch := by
  cases r with
  | traction => exact h
  | brake => exact levelsMatch_brakeCommitted _ _
  | storage => exact levelsMatch_recomputeLevels _
  | vehicle => exact levelsMatch_of_same h (by simp [State.handOn]) (by simp [State.handOn])
  | genset => exact levelsMatch_recomputeLevels _

theorem wearRead_commit (r : Role) (v : List Int) (c : BitVec 6) (h : s.WearRead) : (s.commit r v c).WearRead := by
  have hwritten : (if s.stale r then (s.writeEntry r v c).clear (linkCause r) else s.writeEntry r v c).LevelsMatch :=
    levelsMatch_of_same h.1 (by split_ifs <;> simp) (by split_ifs <;> simp)
  exact ⟨levelsMatch_of_same (t := State.worsenCodes _) (levelsMatch_handOn r s.env (s.deltaT r) hwritten) (by simp)
    (by simp), codesCover_worsenCodes _⟩

theorem wearRead_deadlineExpired (r : Role) (h : s.WearRead) : (s.deadlineExpired r).WearRead := by
  have hstopped : (s.stopDeadline r).WearRead := by
    refine wearRead_of_same h (by simp) (by simp) (fun q => ?_) (by simp)
    simp only [State.stale, State.stopDeadline, setEnv_env]
    by_cases hq : q = r
    · simp [hq]
    · simp [role_get_set_other _ _ _ _ hq]
  unfold State.deadlineExpired
  dsimp only
  split_ifs
  · exact hstopped
  · unfold State.becomeStale
    refine ⟨levelsMatch_of_same hstopped.1 ?_ ?_, codesCover_worsenCodes _⟩
    all_goals
      dsimp only
      split_ifs <;> simp

/-! ### Staleness is a matter of reports and deadlines alone -/

@[simp] theorem stopDeadlines_stale (s : State) (r : Role) : s.stopDeadlines.stale r = s.stale r := by
  simp [State.stale, State.stopDeadlines]

@[simp] theorem enterHalted_stale (s : State) (r : Role) : s.enterHalted.stale r = s.stale r := by
  simp only [State.enterHalted, State.stale, discardUnbound_untouched, requestCheckpoint_untouched,
    changeRunState_untouched, sendOff_untouched, stopSplit_untouched]
  rw [← State.stale, stopDeadlines_stale]
  split_ifs <;> simp [State.stale]

@[simp] theorem enterStandby_stale (s : State) (r : Role) : s.enterStandby.stale r = s.stale r := by
  simp [State.stale, State.enterStandby, State.startDeadlines]

@[simp] theorem endSelfCheck_stale (s : State) (f : StepFailures) (r : Role) :
    (s.endSelfCheck f).stale r = s.stale r := by
  unfold State.endSelfCheck
  rw [enterHalted_stale]
  dsimp only
  split_ifs <;> simp [State.stale]

@[simp] theorem enterHalted_applied (s : State) : s.enterHalted.rc.applied = s.rc.applied := by
  simp only [State.enterHalted, requestCheckpoint_untouched, discardUnbound_rc_kept, changeRunState_rc]
  split_ifs <;> simp

@[simp] theorem endSelfCheck_applied (s : State) (f : StepFailures) : (s.endSelfCheck f).rc.applied = s.rc.applied := by
  unfold State.endSelfCheck
  rw [enterHalted_applied]
  dsimp only
  split_ifs <;> simp

/-! ### The statement -/

theorem wearRead_operations : OperationsKeep State.WearRead where
  queue _ _ h := h
  clock _ _ h := h
  shiftOut _ _ h := wearRead_modPort rfl h
  respond _ _ _ _ h := wearRead_modPort rfl h
  powerUp _ x _ _ := wearRead_powerUp x
  loseSupply _ c _ := wearRead_loseSupply c
  assertReset _ _ h := wearRead_of_same h (by simp [State.assertReset]) (by simp [State.assertReset])
    (by simp [State.stale, State.assertReset]) (by simp [State.assertReset])
  releaseReset _ x _ := wearRead_releaseReset x
  endSelfCheck _ f _ h := wearRead_of_same h (by simp) (by simp) (by simp) (by simp)
  takeLevel _ l _ h := wearRead_of_same h (by simp [State.takeLevel]) (by simp [State.takeLevel])
    (by simp [State.takeLevel, State.stale]) (by simp [State.takeLevel])
  cursors _ _ _ h := wearRead_modPort rfl h
  assembly _ _ _ h := wearRead_modPort rfl h
  dumpRange _ _ _ h := wearRead_modPort rfl h
  staging _ _ _ _ _ h := h
  commit _ r _ _ _ _ h := wearRead_commit r _ _ h
  capture _ p r h := wearRead_captureRecord p r h
  readStream _ _ _ _ _ h := wearRead_modPort rfl h
  enterStandby _ _ _ h := wearRead_of_same h (by simp) (by simp [State.enterStandby]) (by simp) (by simp)
  dropToStandby _ _ h := wearRead_of_same h (by simp) (by simp [State.dropToStandby]) (by simp [State.stale]) (by simp)
  enterActive _ _ _ h := wearRead_of_same h (by simp) (by simp [State.enterActive]) (by simp [State.stale]) (by simp)
  enterHalted _ _ h := wearRead_of_same h (by simp) (by simp) (by simp) (by simp)
  takeSelfCheck _ _ _ := wearRead_takeSelfCheck
  applyStaged _ _ _ _ := wearRead_applyStaged
  discardStaged _ h := wearRead_of_same h (by simp) (by simp) (by simp [State.stale]) (by simp)
  startCheckpoint _ _ _ _ h := wearRead_of_same h (by simp) (by simp) (by simp [State.stale]) (by simp)
  mergeCheckpoint _ _ _ _ h := h
  resetItem _ i _ _ _ := wearRead_resetItem i
  fireTrigger s h := wearRead_of_same (t := s.trigger .manual) h (by simp) (by simp) (by simp [State.stale]) (by simp)
  releaseDescriptor _ _ h := wearRead_of_same h (by simp [State.releaseDescriptor]) (by simp [State.releaseDescriptor])
    (by simp [State.stale, State.releaseDescriptor]) (by simp [State.releaseDescriptor])
  startDump _ _ _ _ _ h := wearRead_modPort rfl h
  cancelDump _ _ h := wearRead_modPort rfl h
  freeCount _ _ h := h
  evaluate _ _ h := wearRead_of_same h (by simp) (by simp) (by simp [State.stale]) (by simp)
  deadlineExpired _ r h := wearRead_deadlineExpired r h
  slipExpired _ _ h := h
  periodicExpiry _ _ _ h := wearRead_of_same h (by simp [State.periodicExpiry]) (by simp [State.periodicExpiry])
    (by simp [State.stale, State.periodicExpiry]) (by simp [State.periodicExpiry])
  verifyWrite _ _ _ h := wearRead_of_same h (by simp) (by simp) (by simp [State.stale]) (by simp)
  verifyErase _ _ _ h := wearRead_of_same h (by simp) (by simp) (by simp [State.stale]) (by simp)
  sampleEvent _ h := wearRead_of_same h (by simp) (by simp) (by simp [State.stale]) (by simp)

/-- Settles O58: levels are formed wherever totals or thresholds change, codes wherever a status can get worse. -/
theorem wearLevelsKept : Obligations.WearLevelsKept := keep_step wearRead_operations

end Sys2Proof.Machine
end

section
/-! PROOFS. Every operation keeps the wear store sound and its journal canonical (R149, R150, R154 to R159). -/

namespace Sys2Proof.Machine

variable {s t : State} {x : Store}

/-! ### What a store is between its operations -/

/-- What the statement asks of the store. -/
def Store.Whole (x : Store) : Prop := x.journal.wf = true ∧ x.Sound

/-- The journal is canonical, the write position and the numbers are in range (R149, R156). -/
def Store.Bounded (x : Store) : Prop :=
  x.journal.wf = true ∧ x.pos ≤ Config.segmentSlots ∧ x.lastUsed ≤ Config.lastSequence ∧
    x.lastVerified ≤ Config.lastSequence

/-- A store without fault whose waiting ports wait for a pending checkpoint. -/
def Store.Serving (x : Store) : Prop :=
  x.Bounded ∧ x.fault = false ∧ (x.pendingFlag = false → x.waiting = noPorts)

/-- A store that is about to make one of the attempts of a checkpoint (R156). -/
def Store.Attempting (x : Store) : Prop := x.Serving ∧ x.record.isSome = true ∧ x.attempts ≤ 2

theorem Store.Whole.bounded (h : x.Whole) : x.Bounded := by
  obtain ⟨hwf, hpos, hused, hverified, -⟩ := h
  exact ⟨hwf, hpos, hused, hverified⟩

theorem Store.Whole.serving (h : x.Whole) (hf : x.fault = false) : x.Serving := by
  refine ⟨h.bounded, hf, ?_⟩
  obtain ⟨-, -, -, -, -, -, -, -, -, hwaiting, -⟩ := h
  exact hwaiting

/-- A store with a checkpoint in flight is not in fault, and it has the checkpoint's record. -/
theorem Store.Whole.inFlight (h : x.Whole) (hp : x.phase ≠ .idle) : x.Serving ∧ x.record.isSome = true := by
  have hfault : x.fault = false := by
    obtain ⟨-, -, -, -, -, -, -, -, -, -, hfault⟩ := h
    exact Bool.eq_false_iff.mpr fun hf => hp (hfault hf)
  refine ⟨h.serving hfault, ?_⟩
  obtain ⟨-, -, -, -, -, -, -, hrecord, -⟩ := h
  exact hrecord.mpr hp

/-- An idle store with nothing pending is whole as soon as its numbers are in range. -/
theorem whole_of_idle (hb : x.Bounded) (hp : x.phase = .idle) (hend : x.endAt = none) (hrecord : x.record = none)
    (hattempts : x.attempts = 0) (hpending : x.pendingFlag = false) (hcurrent : x.current = noPorts)
    (hwaiting : x.waiting = noPorts) : x.Whole := by
  obtain ⟨hwf, hpos, hused, hverified⟩ := hb
  exact ⟨hwf, hpos, hused, hverified, by simp [hp], by simp [hp], by simp [hp, hend], by simp [hp, hrecord],
    fun _ => ⟨hattempts, hpending, hcurrent⟩, fun _ => hwaiting, fun _ => hp⟩

/-! ### Faults, attempts and checkpoints (R153 to R157) -/

theorem whole_storeFault (h : s.store.Bounded) : s.storeFault.store.Whole := by
  rw [storeFault_store]
  exact whole_of_idle h rfl rfl rfl rfl rfl rfl rfl

/-- The number of an attempt is in range, and it is the last number used (R156). -/
theorem nextSequence_range {used : Nat} (totals : PerItem Nat) (h : used ≤ Config.lastSequence) :
    (nextSequence used totals).2 ≤ Config.lastSequence ∧
      ∀ n, (nextSequence used totals).1 = some n → n ≤ Config.lastSequence := by
  unfold nextSequence
  split_ifs with h1 h2 h3
  · exact ⟨h, fun n hn => (nomatch hn)⟩
  · exact ⟨by simp only; omega, fun n hn => (nomatch hn)⟩
  · refine ⟨by simp only; omega, fun n hn => ?_⟩
    cases hn
    omega
  · refine ⟨by simp only; omega, fun n hn => ?_⟩
    cases hn
    omega

theorem whole_writeAttempt (h : s.store.Attempting) (hpos : s.store.pos < Config.segmentSlots) :
    s.writeAttempt.store.Whole := by
  obtain ⟨⟨⟨hwf, hle, hused, hverified⟩, hfault, hwaiting⟩, hrecord, hattempts⟩ := h
  obtain ⟨hlast, hnumber⟩ := nextSequence_range s.store.recordTotals hused
  unfold State.writeAttempt
  split
  next n m hn =>
    refine ⟨hwf, hle, hnumber n (by rw [hn]), hverified, fun _ => ⟨hpos, ?_, ?_⟩, fun h => (nomatch h), by simp,
      by simpa using hrecord, fun h => (nomatch h), hwaiting, fun hf => ?_⟩
    · exact Nat.le_add_left 1 _
    · exact Nat.succ_le_succ hattempts
    · exact absurd (hfault.symm.trans hf) Bool.false_ne_true
  next m hn =>
    refine whole_storeFault ⟨hwf, hle, ?_, hverified⟩
    rw [hn] at hlast
    exact hlast

theorem whole_writeOrErase (h : s.store.Attempting) : s.writeOrErase.store.Whole := by
  unfold State.writeOrErase
  split_ifs with hpos
  · exact whole_writeAttempt h hpos
  · obtain ⟨⟨⟨hwf, hle, hused, hverified⟩, hfault, hwaiting⟩, hrecord, hattempts⟩ := h
    exact ⟨hwf, hle, hused, hverified, fun h => (nomatch h), fun _ => hattempts, by simp, by simpa using hrecord,
      fun h => (nomatch h), hwaiting, fun hf => absurd (hfault.symm.trans hf) Bool.false_ne_true⟩

theorem whole_startCheckpoint (h : s.store.Serving) : s.startCheckpoint.store.Whole :=
  whole_writeOrErase ⟨h, rfl, Nat.zero_le 2⟩

/-- A pending flag set while a checkpoint is in flight. -/
theorem whole_pending (h : x.Whole) (hp : x.phase ≠ .idle) (w : PerPort Bool) :
    { x with pendingFlag := true, waiting := w }.Whole := by
  obtain ⟨hwf, hpos, hused, hverified, hwriting, herasing, hend, hrecord, -, -, hfault⟩ := h
  exact ⟨hwf, hpos, hused, hverified, hwriting, herasing, hend, hrecord, fun h => absurd h hp, fun h => (nomatch h), hfault⟩

theorem whole_requestCheckpoint (h : s.store.Whole) : s.requestCheckpoint.store.Whole := by
  unfold State.requestCheckpoint
  split_ifs with hf hp
  · exact h
  · exact whole_startCheckpoint (h.serving (Bool.eq_false_iff.mpr hf))
  · exact whole_pending h hp s.store.waiting

theorem whole_endCheckpoint (h : s.store.Serving) : s.endCheckpoint.store.Whole := by
  obtain ⟨hbounded, hfault, hwaiting⟩ := h
  unfold State.endCheckpoint
  dsimp only
  split_ifs with hpending
  · exact whole_startCheckpoint ⟨hbounded, hfault, fun _ => rfl⟩
  · have hnone : s.store.pendingFlag = false := Bool.eq_false_iff.mpr hpending
    exact whole_of_idle hbounded rfl rfl rfl rfl hnone rfl (hwaiting hnone)

/-! ### The end of a write and of an erase (R155, R156) -/

/-- A slot spent on whatever the write has made of the journal. -/
theorem serving_spent {m : Memory} (h : x.Serving) (hpos : x.pos < Config.segmentSlots) (hm : m.wf = true) :
    { x with journal := m, pos := x.pos + 1 }.Serving := by
  obtain ⟨⟨-, -, hused, hverified⟩, hfault, hwaiting⟩ := h
  exact ⟨⟨hm, hpos, hused, hverified⟩, hfault, hwaiting⟩

theorem serving_verified (h : x.Serving) : { x with lastVerified := x.lastUsed }.Serving := by
  obtain ⟨⟨hwf, hpos, hused, -⟩, hfault, hwaiting⟩ := h
  exact ⟨⟨hwf, hpos, hused, hused⟩, hfault, hwaiting⟩

/-- An erase of the other segment, whatever it has made of the journal. -/
theorem serving_erased {m : Memory} (h : x.Serving) (c : SegmentFlags) (hm : m.wf = true) :
    { x with journal := m, cutErase := c }.Serving := by
  obtain ⟨⟨-, hpos, hused, hverified⟩, hfault, hwaiting⟩ := h
  exact ⟨⟨hm, hpos, hused, hverified⟩, hfault, hwaiting⟩

theorem serving_switched (h : x.Serving) (g : Segment) : { x with active := g, pos := 0 }.Serving := by
  obtain ⟨⟨hwf, -, hused, hverified⟩, hfault, hwaiting⟩ := h
  exact ⟨⟨hwf, Nat.zero_le _, hused, hverified⟩, hfault, hwaiting⟩

theorem whole_verifyWrite (f : CellFaults) (hp : s.store.phase = .writing) (h : s.store.Whole) :
    (s.verifyWrite f).store.Whole := by
  have hflight : s.store.phase ≠ .idle := by simp [hp]
  obtain ⟨hserving, hrecord⟩ := h.inFlight hflight
  have hpos : s.store.pos < Config.segmentSlots := by
    obtain ⟨-, -, -, -, hwriting, -⟩ := h
    obtain ⟨hpos, -⟩ := hwriting hp
    exact hpos
  have hspent : (s.store.written f).Serving :=
    serving_spent hserving hpos (Store.journalWritten_wf _ f hserving.1.1)
  rw [verifyWrite_eq]
  split_ifs with hread hattempts
  · exact whole_endCheckpoint (s := State.noticeTo _ _ _) (serving_verified hspent)
  · exact whole_writeOrErase ⟨hspent, hrecord, Nat.le_of_lt_succ hattempts⟩
  · exact whole_storeFault hspent.1

theorem whole_verifyErase (f : CellFaults) (hp : s.store.phase = .erasing) (h : s.store.Whole) :
    (s.verifyErase f).store.Whole := by
  have hflight : s.store.phase ≠ .idle := by simp [hp]
  obtain ⟨hserving, hrecord⟩ := h.inFlight hflight
  have hattempts : s.store.attempts ≤ 2 := by
    obtain ⟨-, -, -, -, -, herasing, -⟩ := h
    exact herasing hp
  have herased : (s.store.erased f).Serving :=
    serving_erased hserving _ (Memory.writeList_wf _ _ (Memory.erase_wf _ _ hserving.1.1))
  rw [verifyErase_eq]
  split_ifs
  · have hready : { s.store.erased f with active := s.store.active.other, pos := 0 }.Attempting :=
      ⟨serving_switched herased _, by simpa only [Store.erased] using hrecord,
        by simpa only [Store.erased] using hattempts⟩
    exact whole_writeAttempt hready (Nat.succ_pos 31)
  · exact whole_storeFault herased.1

/-! ### The interrupted operation and the scan (R158, R159) -/

theorem cutStoreOff_journal_wf (c : WriteCut) (h : s.store.journal.wf = true) :
    (s.cutStoreOff c).store.journal.wf = true := by
  unfold State.cutStoreOff
  cases s.store.phase with
  | idle => exact h
  | writing => exact Store.journalWritten_wf _ _ h
  | erasing =>
    simp only [setFreeCount_store, setStore_store]
    exact Memory.writeList_wf _ _ h

/-- What the interrupted operation leaves of the store's numbers: everything. -/
theorem cutStoreOff_numbers (c : WriteCut) : (s.cutStoreOff c).store.pos = s.store.pos ∧
    (s.cutStoreOff c).store.lastUsed = s.store.lastUsed ∧
    (s.cutStoreOff c).store.lastVerified = s.store.lastVerified := by
  unfold State.cutStoreOff
  cases s.store.phase <;> simp

theorem whole_stopped (h : x.Bounded) : x.stopped.Whole := whole_of_idle h rfl rfl rfl rfl rfl rfl rfl

theorem twoWords_le (high low : Word) : twoWords high low ≤ 4294967295 := by
  have hhigh := high.isLt
  have hlow := low.isLt
  unfold twoWords
  omega

/-- FFFFFFFFh is no number, so that one in a slot is in range (R158). -/
theorem sequence_le_of_numbered {v : SlotView} (h : v.numbered = true) : v.sequence ≤ Config.lastSequence := by
  have hle : v.sequence ≤ 4294967295 := twoWords_le _ _
  have hne : v.sequence ≠ 4294967295 := by simpa [SlotView.numbered] using h
  show v.sequence ≤ 4294967294
  omega

theorem highestNumber_le (slots : List SlotView) : highestNumber slots ≤ Config.lastSequence := by
  unfold highestNumber
  refine List.foldlRecOn slots _ (motive := fun n => n ≤ Config.lastSequence) (Nat.zero_le _) fun best hbest v _ => ?_
  split_ifs with hv
  · exact hbest
  · simp only [Bool.or_eq_true, not_or, Bool.not_eq_true, Bool.not_eq_true', Bool.not_eq_false] at hv
    obtain ⟨-, hnumbered⟩ := hv
    exact Nat.max_le.mpr ⟨hbest, sequence_le_of_numbered hnumbered⟩

theorem numbered_of_newestRecord {slots : List SlotView} {v : SlotView} (h : newestRecord slots = some v) :
    v.numbered = true := by
  have hall : ∀ w, newestRecord slots = some w → w.numbered = true := by
    unfold newestRecord
    refine List.foldlRecOn slots _ (motive := fun best => ∀ w : SlotView, best = some w → w.numbered = true)
      (fun w hw => absurd hw (by simp)) fun best hbest u _ w hw => ?_
    split_ifs at hw with hu
    · have hnumbered : u.numbered = true := by simp_all
      cases best with
      | none =>
        cases hw
        exact hnumbered
      | some b =>
        dsimp only at hw
        split_ifs at hw
        · cases hw
          exact hnumbered
        · exact hbest w hw
    · exact hbest w hw
  exact hall v h

theorem writePosition_le (m : Memory) (c : SegmentFlags) (g : Segment) :
    writePosition (scanSlots m c) g ≤ Config.segmentSlots := by
  unfold writePosition
  refine List.foldlRecOn _ _ (motive := fun n => n ≤ Config.segmentSlots) (Nat.zero_le _) fun best hbest v hv => ?_
  have hslot : v.slot < Config.segmentSlots := by
    simp only [scanSlots, List.mem_append, List.mem_map, List.mem_range] at hv
    obtain ⟨k, hk, rfl⟩ | ⟨k, hk, rfl⟩ := hv <;> exact hk
  split_ifs
  · exact Nat.max_le.mpr ⟨hbest, hslot⟩
  · exact hbest

theorem whole_scanned (h : x.journal.wf = true) : x.scanned.Whole := by
  refine whole_of_idle ⟨h, writePosition_le _ _ _, highestNumber_le _, ?_⟩ rfl rfl rfl rfl rfl rfl rfl
  show ((newestRecord (scanSlots x.journal x.cutErase)).map SlotView.sequence).getD 0 ≤ Config.lastSequence
  cases hn : newestRecord (scanSlots x.journal x.cutErase) with
  | none => exact Nat.zero_le _
  | some v => exact sequence_le_of_numbered (numbered_of_newestRecord hn)

/-! ### The operations of the machine -/

/-- The state's store is whole. -/
def State.StoreWhole (s : State) : Prop := s.store.Whole

theorem storeWhole_of_same (h : s.StoreWhole) (hs : t.store = s.store) : t.StoreWhole := by
  rw [State.StoreWhole, hs]
  exact h

/-- The periodic timer is no part of what makes a store whole. -/
theorem storeWhole_of_timer (h : s.StoreWhole) (n : Option Nat) (hs : t.store = { s.store with timer := n }) :
    t.StoreWhole := by
  rw [State.StoreWhole, hs]
  exact h

theorem storeWhole_leaveActive (h : s.StoreWhole) : s.leaveActive.StoreWhole :=
  storeWhole_of_timer h none (by simp [State.leaveActive])

theorem storeWhole_recomputeLevels (h : s.StoreWhole) : s.recomputeLevels.StoreWhole := by
  unfold State.recomputeLevels
  dsimp only
  split_ifs
  · have hnoticed : (((s.setWear { s.wear with items := leveled s.wear.items s.rc.applied.thresholds }).worsenCodes
        ).noticeAll .wearLevel).StoreWhole := storeWhole_of_same h (by simp)
    exact storeWhole_of_same (t := State.trigger _ _) (whole_requestCheckpoint hnoticed) (by simp)
  · exact storeWhole_of_same h (by simp)
  · exact storeWhole_of_same h (by simp)

theorem storeWhole_resetItem (i : WearItem) (h : s.StoreWhole) : (s.resetItem i).StoreWhole :=
  whole_requestCheckpoint (storeWhole_recomputeLevels h)

theorem storeWhole_enterHalted (h : s.StoreWhole) : s.enterHalted.StoreWhole := by
  unfold State.enterHalted
  dsimp only
  have hleft : (if s.rc.runState = .active then s.leaveActive else s).StoreWhole := by
    split_ifs
    · exact storeWhole_leaveActive h
    · exact h
  have hchanged : (((if s.rc.runState = .active then s.leaveActive else s).stopDeadlines.stopSplit.sendOff).changeRunState
      .halted).StoreWhole := storeWhole_of_same hleft (by simp)
  exact storeWhole_of_same (t := State.discardUnbound _) (whole_requestCheckpoint hchanged) (by simp)

theorem storeWhole_endSelfCheck (f : StepFailures) (h : s.StoreWhole) : (s.endSelfCheck f).StoreWhole := by
  unfold State.endSelfCheck
  dsimp only
  refine storeWhole_enterHalted (storeWhole_of_same h ?_)
  split_ifs <;> simp

theorem storeWhole_takeSelfCheck (h : s.StoreWhole) : s.takeSelfCheck.StoreWhole := by
  have hleveled : (s.setRc { s.rc with staged := .defaults, applied := .defaults, claim := none }
      ).recomputeLevels.StoreWhole := storeWhole_recomputeLevels h
  exact storeWhole_of_same hleveled (by simp [takeSelfCheck_eq, State.selfCheckCleared])

theorem storeWhole_applyStaged (h : s.StoreWhole) : s.applyStaged.StoreWhole := by
  unfold State.applyStaged
  exact storeWhole_recomputeLevels (storeWhole_of_same h (by simp))

theorem storeWhole_brakeCommitted (b : BrakeReport) (dt : Nat) (h : s.StoreWhole) :
    (s.brakeCommitted b dt).StoreWhole := by
  have hwear : ((s.readSlip).brakeWear dt).StoreWhole := by
    unfold State.brakeWear
    have hleveled := storeWhole_recomputeLevels (s := (s.readSlip).addLiningWear dt) (storeWhole_of_same h (by simp))
    exact storeWhole_of_same hleveled (by simp)
  refine storeWhole_of_same hwear ?_
  unfold State.brakeCommitted
  dsimp only
  split_ifs <;> simp

theorem storeWhole_handOn (r : Role) (e : Envelope) (dt : Nat) (h : s.StoreWhole) : (s.handOn r e dt).StoreWhole := by
  cases r with
  | traction => exact h
  | brake => exact storeWhole_brakeCommitted _ _ h
  | storage => exact storeWhole_recomputeLevels h
  | genset => exact storeWhole_recomputeLevels h
  | vehicle => exact storeWhole_of_same h (by simp [State.handOn])

theorem storeWhole_commit (r : Role) (v : List Int) (c : BitVec 6) (h : s.StoreWhole) : (s.commit r v c).StoreWhole := by
  have hwritten : (if s.stale r then (s.writeEntry r v c).clear (linkCause r) else s.writeEntry r v c).StoreWhole :=
    storeWhole_of_same h (by split_ifs <;> simp)
  exact storeWhole_of_same (t := State.worsenCodes _) (storeWhole_handOn r s.env (s.deltaT r) hwritten) (by simp)

theorem storeWhole_deadlineExpired (r : Role) (h : s.StoreWhole) : (s.deadlineExpired r).StoreWhole :=
  storeWhole_of_same h (by simp)

theorem storeWhole_assertReset (c : WriteCut) (h : s.StoreWhole) : (s.assertReset c).StoreWhole := by
  obtain ⟨hwf, hpos, hused, hverified⟩ := h.bounded
  obtain ⟨epos, eused, everified⟩ := cutStoreOff_numbers (s := s) c
  exact whole_stopped ⟨cutStoreOff_journal_wf c hwf, by rwa [epos], by rwa [eused], by rwa [everified]⟩

theorem storeWhole_loseSupply (c : WriteCut) (h : s.StoreWhole) : (s.loseSupply c).StoreWhole := by
  have hwf : (s.loseSupply c).store.journal.wf = true := cutStoreOff_journal_wf c h.bounded.1
  exact ⟨hwf, reset_storeSound⟩

/-! ### The statement -/

theorem storeWhole_operations : OperationsKeep State.StoreWhole where
  queue _ _ h := h
  clock _ _ h := h
  shiftOut _ _ h := h
  respond _ _ _ _ h := h
  powerUp _ _ _ h := whole_scanned h.bounded.1
  loseSupply _ c h := storeWhole_loseSupply c h
  assertReset _ c h := storeWhole_assertReset c h
  releaseReset _ _ h := whole_scanned h.bounded.1
  endSelfCheck _ f _ h := storeWhole_endSelfCheck f h
  takeLevel _ l _ h := storeWhole_of_same h (by simp [State.takeLevel])
  cursors _ _ _ h := h
  assembly _ _ _ h := h
  dumpRange _ _ _ h := h
  staging _ _ _ _ _ h := h
  commit _ r _ _ _ _ h := storeWhole_commit r _ _ h
  capture _ _ _ h := h
  readStream _ _ _ _ _ h := h
  enterStandby _ _ _ h := storeWhole_of_same h (by simp)
  dropToStandby _ _ h := storeWhole_of_same (storeWhole_leaveActive h) (by simp [State.dropToStandby])
  enterActive s _ _ h :=
    storeWhole_of_timer h (some (s.now + s.rc.applied.tCheckpoint * 1000)) (by simp [State.enterActive])
  enterHalted _ _ h := storeWhole_enterHalted h
  takeSelfCheck _ _ h := storeWhole_takeSelfCheck h
  applyStaged _ _ _ h := storeWhole_applyStaged h
  discardStaged _ h := storeWhole_of_same h (by simp)
  startCheckpoint _ _ hf _ h := whole_startCheckpoint (h.serving hf)
  mergeCheckpoint _ _ _ hp h := whole_pending h hp _
  resetItem _ i _ _ h := storeWhole_resetItem i h
  fireTrigger s h := storeWhole_of_same (t := s.trigger .manual) h (by simp)
  releaseDescriptor _ _ h := storeWhole_of_same h (by simp [State.releaseDescriptor])
  startDump _ _ _ _ _ h := h
  cancelDump _ _ h := h
  freeCount _ _ h := h
  evaluate _ _ h := storeWhole_of_same h (by simp)
  deadlineExpired _ r h := storeWhole_deadlineExpired r h
  slipExpired _ _ h := h
  periodicExpiry _ _ _ h := whole_requestCheckpoint h
  verifyWrite _ f hp h := whole_verifyWrite f hp h
  verifyErase _ f hp h := whole_verifyErase f hp h
  sampleEvent _ h := storeWhole_of_same h (by simp)

/-- Settles O60: each attempt's number, slot and record are in range when it begins, and the scan finds them so again. -/
theorem wearStoreKept : Obligations.WearStoreKept := keep_step storeWhole_operations

end Sys2Proof.Machine
end

section
/-! PROOFS. The statements about the step as a whole and about the loss of supply and the reset input (R7, R159, R180). -/

namespace Sys2Proof.Machine

variable {s t : State}

/-! ### A part that does not run (R7, R180) -/

theorem timed_of_stopped (h : s.running = false) (timer : Option Nat) (effect : State → State) :
    s.timed timer effect = s := by
  simp [State.timed, h]

theorem timed_of_due {due : Nat} (h : s.running = true) {timer : Option Nat} (ht : timer = some due)
    (effect : State → State) : s.timed timer effect = effect (s.setNow (max s.now due)) := by
  simp [State.timed, h, ht, State.arrive]

theorem timed_of_none (effect : State → State) : s.timed none effect = s := by
  simp [State.timed]

theorem exchange_of_stopped (h : s.running = false) (p : Port) (c : BitVec 4) (effect : State → State × Reply) :
    s.exchange p c effect = s := by
  simp [State.exchange, h]

theorem heldExchange_of_stopped (h : s.running = false) (p : Port) (c : BitVec 4) (effect : State → State × Reply) :
    s.heldExchange p c effect = s := exchange_of_stopped h p c _

theorem request_of_stopped (h : s.running = false) (p : Port) (effect : State → State × Reply) :
    s.request p effect = .next s := by
  rw [State.request, heldExchange_of_stopped h]

theorem exec_of_port_of_stopped {i : Instr} {p : Port} (hp : i.port = some p) (h : s.running = false) :
    exec i s = .next s := by
  obtain ⟨command, effect, e⟩ := exec_of_port (s := s) hp
  rw [e, exchange_of_stopped h]

theorem powered_of_running (h : s.running = true) : s.powered = true ∧ s.resetAsserted = false := by
  simpa [State.running] using h

theorem exec_of_stopped (c : Instr) (h : s.running = false) (hon : ∀ x, c ≠ .powerOn x)
    (hrelease : ∀ x, c ≠ .resetLineRelease x) (hfail : ∀ x, c ≠ .powerFailure x) : exec c s = .next s := by
  cases hp : c.port with
  | some p => exact exec_of_port_of_stopped hp h
  | none =>
    cases c
    case powerOn x => exact absurd rfl (hon x)
    case resetLineRelease x => exact absurd rfl (hrelease x)
    case powerFailure x => exact absurd rfl (hfail x)
    case resetAssert x => simp [exec, execResetAssert, h]
    case selfCheckEnd => exact congrArg _ (timed_of_stopped h _ _)
    case holdLineSample => exact congrArg _ (timed_of_stopped h _ _)
    case evaluation => exact congrArg _ (timed_of_stopped h _ _)
    case linkDeadlineExpiry => exact congrArg _ (timed_of_stopped h _ _)
    case slipHoldExpiry => exact congrArg _ (timed_of_stopped h _ _)
    case gensetTimerEnd => exact congrArg _ (timed_of_stopped h _ _)
    case periodicCheckpointExpiry => exact congrArg _ (timed_of_stopped h _ _)
    case writeVerify => exact congrArg _ (timed_of_stopped h _ _)
    case eraseEnd => exact congrArg _ (timed_of_stopped h _ _)
    case sample => exact congrArg _ (timed_of_stopped h _ _)
    all_goals cases hp

/-- Settles O6: a stopped part takes no frame and brings about no event, and the two supply commands look at the supply. -/
theorem stoppedPartIgnoresCommands : Obligations.StoppedPartIgnoresCommands := by
  refine ⟨fun c s => exec_of_stopped c, fun cut s h => ?_, fun straps s h => ?_⟩
  · simp [exec, execPowerFailure, h]
  · have hnot : ¬ (s.powered = true ∧ s.resetAsserted = true) := by
      rintro ⟨hp, hr⟩
      obtain h | h := h
      · exact absurd (h.symm.trans hp) Bool.false_ne_true
      · exact absurd (h.symm.trans hr) Bool.false_ne_true
    simp [exec, execResetLineRelease, hnot]

/-! ### What neither the queue nor the clock notices -/

/-- The queue and the clock are as they were. -/
def State.Quiet (s t : State) : Prop := t.pending = s.pending ∧ t.now = s.now

/-- The queue is as it was and the clock has not been turned back. -/
def State.Onward (s t : State) : Prop := t.pending = s.pending ∧ s.now ≤ t.now

theorem State.Quiet.onward (h : s.Quiet t) : s.Onward t := ⟨h.1, Nat.le_of_eq h.2.symm⟩

theorem onward_refl : s.Onward s := ⟨rfl, Nat.le_refl _⟩

theorem onward_timed (timer : Option Nat) {effect : State → State} (h : ∀ u : State, u.Quiet (effect u)) :
    s.Onward (s.timed timer effect) := by
  unfold State.timed
  split_ifs
  · cases timer with
    | none => exact onward_refl
    | some due =>
      obtain ⟨hq, hn⟩ := h (s.arrive due)
      exact ⟨hq, by rw [hn]; exact Nat.le_max_left _ _⟩
  · exact onward_refl

theorem onward_exchange (p : Port) (c : BitVec 4) {effect : State → State × Reply}
    (h : ∀ u : State, u.Quiet (effect u).1) : s.Onward (s.exchange p c effect) := by
  unfold State.exchange
  split_ifs
  · obtain ⟨hq, hn⟩ := h (s.modPort p PortState.shiftOut)
    exact ⟨hq, Nat.le_of_eq hn.symm⟩
  · exact onward_refl

theorem onward_heldExchange (p : Port) (c : BitVec 4) {effect : State → State × Reply}
    (h : ∀ u : State, u.Quiet (effect u).1) : s.Onward (s.heldExchange p c effect) := by
  refine onward_exchange p c fun u => ?_
  split_ifs
  · exact ⟨rfl, rfl⟩
  · exact h u

/-! ### The requests are quiet -/

theorem quiet_refl : s.Quiet s := ⟨rfl, rfl⟩

theorem quiet_requestStandby (p : Port) : s.Quiet (s.requestStandby p).1 := by
  unfold State.requestStandby
  split
  · exact quiet_refl
  · cases s.rc.runState with
    | selfCheck => exact quiet_refl
    | standby => exact quiet_refl
    | halted =>
      dsimp only
      split_ifs <;> simp [State.Quiet]
    | active =>
      dsimp only
      split_ifs <;> simp [State.Quiet]

theorem quiet_requestActive (p : Port) : s.Quiet (s.requestActive p).1 := by
  unfold State.requestActive
  split_ifs
  · exact quiet_refl
  · cases s.rc.runState <;> cases s.activeBlocker <;> simp [State.Quiet]

theorem quiet_requestHalt (p : Port) : s.Quiet (s.requestHalt p).1 := by
  unfold State.requestHalt
  split
  · exact quiet_refl
  · cases s.rc.runState with
    | selfCheck => exact quiet_refl
    | halted => exact quiet_refl
    | standby => simp [State.Quiet]
    | active =>
      dsimp only
      split_ifs <;> simp [State.Quiet]

theorem quiet_takeSelfCheck : s.Quiet s.takeSelfCheck := by
  simp [State.Quiet, State.takeSelfCheck]

theorem quiet_requestSelfCheck (p : Port) : s.Quiet (s.requestSelfCheck p).1 := by
  unfold State.requestSelfCheck
  split_ifs
  · exact quiet_refl
  · cases s.rc.runState
    case halted => exact quiet_takeSelfCheck
    all_goals exact quiet_refl

theorem quiet_requestApply (p : Port) : s.Quiet (s.requestApply p).1 := by
  unfold State.requestApply
  cases s.claimRefusal p with
  | some r => exact quiet_refl
  | none =>
    dsimp only
    split_ifs
    · exact quiet_refl
    · cases s.rc.staged.firstFailing <;> simp [State.Quiet, State.applyStaged]

theorem quiet_requestDiscard (p : Port) : s.Quiet (s.requestDiscard p).1 := by
  unfold State.requestDiscard
  cases s.claimRefusal p <;> simp [State.Quiet]

theorem quiet_requestSaveWear (p : Port) : s.Quiet (s.requestSaveWear p).1 := by
  unfold State.requestSaveWear
  split_ifs <;> simp [State.Quiet]

theorem quiet_requestWearReset (p : Port) (o : BitVec 5) : s.Quiet (s.requestWearReset p o).1 := by
  unfold State.requestWearReset
  split
  · exact quiet_refl
  · cases s.rc.runState with
    | selfCheck => exact quiet_refl
    | standby => exact quiet_refl
    | active => exact quiet_refl
    | halted =>
      cases itemOfNumber o.toNat with
      | none => exact quiet_refl
      | some i =>
        dsimp only
        split_ifs <;> simp [State.Quiet]

theorem quiet_requestTrigger : s.Quiet s.requestTrigger.1 := by
  simp [State.requestTrigger, State.Quiet]

theorem quiet_requestRelease (o : BitVec 5) : s.Quiet (s.requestRelease o).1 := by
  unfold State.requestRelease
  cases descriptorOf o <;> simp [State.Quiet, State.releaseDescriptor]

theorem quiet_requestDumpSnapshot (p : Port) (o : BitVec 5) : s.Quiet (s.requestDumpSnapshot p o).1 := by
  unfold State.requestDumpSnapshot
  cases descriptorOf o with
  | none => exact quiet_refl
  | some id => cases h : (s.rcd.table.get id).state <;> simp [h, State.Quiet, State.startDump]

theorem quiet_requestDumpRange (p : Port) : s.Quiet (s.requestDumpRange p).1 := by
  unfold State.requestDumpRange
  dsimp only
  split_ifs <;> exact ⟨rfl, rfl⟩

theorem quiet_requestDumpCancel (p : Port) : s.Quiet (s.requestDumpCancel p).1 := by
  unfold State.requestDumpCancel
  dsimp only
  split_ifs <;> exact ⟨rfl, rfl⟩

theorem quiet_requestCursorMode (p : Port) (o : BitVec 5) : s.Quiet (s.requestCursorMode p o).1 := by
  unfold State.requestCursorMode
  split_ifs <;> exact ⟨rfl, rfl⟩

theorem quiet_readFrame (p : Port) (b : Bool) : s.Quiet (s.readFrame p b).1 := by simp [State.Quiet]
theorem quiet_writeFrame (p : Port) (b : Bool) (w : Word) : s.Quiet (s.writeFrame p b w).1 := by simp [State.Quiet]

/-! ### Every command goes on -/

/-- Every command but power-on and power failure completes, the queue kept and the clock not turned back. -/
theorem exec_onward (c : Instr) (hon : ∀ x, c ≠ .powerOn x) (hfail : ∀ x, c ≠ .powerFailure x) :
    ∃ t, exec c s = .next t ∧ s.Onward t := by
  cases c with
  | powerOn x => exact absurd rfl (hon x)
  | powerFailure x => exact absurd rfl (hfail x)
  | resetAssert x =>
    refine ⟨_, rfl, ?_⟩
    split_ifs
    · exact ⟨by simp [State.assertReset], by simp [State.assertReset]⟩
    · exact onward_refl
  | resetLineRelease x =>
    refine ⟨_, rfl, ?_⟩
    split_ifs
    · exact ⟨rfl, Nat.le_refl _⟩
    · exact onward_refl
  | selfCheckEnd f => exact ⟨_, rfl, onward_timed _ fun u => by simp [State.Quiet]⟩
  | holdLineSample l => exact ⟨_, rfl, onward_timed _ fun u => by simp [State.Quiet, State.takeLevel]⟩
  | brokenExchange p => exact ⟨_, rfl, onward_exchange p _ fun u => quiet_refl⟩
  | badframe p o => exact ⟨_, rfl, onward_exchange p _ fun u => quiet_refl⟩
  | poll p => exact ⟨_, rfl, onward_exchange p _ fun u => quiet_refl⟩
  | cursor p a w => exact ⟨_, rfl, onward_heldExchange p _ fun u => by simp [State.Quiet]⟩
  | write p b w => exact ⟨_, rfl, onward_heldExchange p _ fun u => quiet_writeFrame p b w⟩
  | reportWordWrite p b w => exact ⟨_, rfl, onward_heldExchange p _ fun u => quiet_writeFrame p b w⟩
  | stagedSettingWrite p b w => exact ⟨_, rfl, onward_heldExchange p _ fun u => quiet_writeFrame p b w⟩
  | dumpRangeRecordWrite p b w => exact ⟨_, rfl, onward_heldExchange p _ fun u => quiet_writeFrame p b w⟩
  | capture p b => exact ⟨_, rfl, onward_heldExchange p _ fun u => quiet_readFrame p b⟩
  | counterCapture p b => exact ⟨_, rfl, onward_heldExchange p _ fun u => quiet_readFrame p b⟩
  | latchCapture p b => exact ⟨_, rfl, onward_heldExchange p _ fun u => quiet_readFrame p b⟩
  | noticeCapture p b => exact ⟨_, rfl, onward_heldExchange p _ fun u => quiet_readFrame p b⟩
  | wearStatusCapture p b => exact ⟨_, rfl, onward_heldExchange p _ fun u => quiet_readFrame p b⟩
  | dumpStreamRead p b => exact ⟨_, rfl, onward_heldExchange p _ fun u => quiet_readFrame p b⟩
  | runStandby p => exact ⟨_, rfl, onward_heldExchange p _ fun u => quiet_requestStandby p⟩
  | runActive p => exact ⟨_, rfl, onward_heldExchange p _ fun u => quiet_requestActive p⟩
  | runHalt p => exact ⟨_, rfl, onward_heldExchange p _ fun u => quiet_requestHalt p⟩
  | selfCheck p => exact ⟨_, rfl, onward_heldExchange p _ fun u => quiet_requestSelfCheck p⟩
  | apply p => exact ⟨_, rfl, onward_heldExchange p _ fun u => quiet_requestApply p⟩
  | discard p => exact ⟨_, rfl, onward_heldExchange p _ fun u => quiet_requestDiscard p⟩
  | saveWear p => exact ⟨_, rfl, onward_heldExchange p _ fun u => quiet_requestSaveWear p⟩
  | wearReset p o => exact ⟨_, rfl, onward_heldExchange p _ fun u => quiet_requestWearReset p o⟩
  | trigger p => exact ⟨_, rfl, onward_heldExchange p _ fun u => quiet_requestTrigger⟩
  | release p o => exact ⟨_, rfl, onward_heldExchange p _ fun u => quiet_requestRelease o⟩
  | dumpSnapshot p o => exact ⟨_, rfl, onward_heldExchange p _ fun u => quiet_requestDumpSnapshot p o⟩
  | dumpRange p => exact ⟨_, rfl, onward_heldExchange p _ fun u => quiet_requestDumpRange p⟩
  | dumpCancel p => exact ⟨_, rfl, onward_heldExchange p _ fun u => quiet_requestDumpCancel p⟩
  | cursorMode p o => exact ⟨_, rfl, onward_heldExchange p _ fun u => quiet_requestCursorMode p o⟩
  | evaluation => exact ⟨_, rfl, onward_timed _ fun u => by simp [State.Quiet]⟩
  | linkDeadlineExpiry r => exact ⟨_, rfl, onward_timed _ fun u => by simp [State.Quiet]⟩
  | slipHoldExpiry => exact ⟨_, rfl, onward_timed _ fun u => by simp [State.Quiet]⟩
  | gensetTimerEnd g => exact ⟨_, rfl, onward_timed _ fun u => quiet_refl⟩
  | periodicCheckpointExpiry => exact ⟨_, rfl, onward_timed _ fun u => by simp [State.Quiet, State.periodicExpiry]⟩
  | writeVerify f => exact ⟨_, rfl, onward_timed _ fun u => by simp [State.Quiet]⟩
  | eraseEnd f => exact ⟨_, rfl, onward_timed _ fun u => by simp [State.Quiet]⟩
  | sample => exact ⟨_, rfl, onward_timed _ fun u => by simp [State.Quiet]⟩

/-- Settles O2: a command completes, by the case of it; only power-on and power failure begin the clock again. -/
theorem everyStepGoesOn : Obligations.EveryStepGoesOn := by
  refine ⟨fun c s => ?_, fun s h => ⟨fun hrun => ?_, fun hrun => ?_⟩⟩
  · by_cases hon : ∃ x, c = .powerOn x
    · obtain ⟨x, rfl⟩ := hon
      refine ⟨_, rfl, ?_, fun h => absurd rfl (h x)⟩
      unfold State.powerOn
      split_ifs <;> rfl
    by_cases hfail : ∃ x, c = .powerFailure x
    · obtain ⟨x, rfl⟩ := hfail
      refine ⟨_, rfl, ?_, fun _ h => absurd rfl (h x)⟩
      split_ifs <;> rfl
    obtain ⟨t, e, hq, hn⟩ := exec_onward (s := s) c (fun x hx => hon ⟨x, hx⟩) fun x hx => hfail ⟨x, hx⟩
    exact ⟨t, e, hq, fun _ _ => hn⟩
  · have hstep : step s = .next s.idle := by
      unfold step
      rw [h]
    rw [hstep, State.idle, if_pos hrun]
    rfl
  · simp [step, h, State.idle, hrun]

/-! ### The interrupted operation of the store (R159) -/

theorem cutOff_cutStoreOff (cut : WriteCut) :
    s.CutOff cut (s.cutStoreOff cut).store.journal (s.cutStoreOff cut).store.cutErase := by
  have hmin : min cut.words Config.slotWords ≤ 13 := Nat.min_le_right _ _
  refine ⟨fun hp => ?_, fun hp => ?_, fun hp => ?_⟩
  · simp [State.cutStoreOff, hp]
  · have hstore : (s.cutStoreOff cut).store = { s.store with
        journal := s.store.journalWritten (min cut.words Config.slotWords) cut.faults } := by
      simp [State.cutStoreOff, hp]
    rw [hstore]
    refine ⟨rfl, fun b hb => Store.journalWritten_outside _ _ hmin hb, fun hf hwf k hk => ?_⟩
    rw [hf]
    exact Store.journalWritten_inside hmin hk hwf
  · have hstore : (s.cutStoreOff cut).store = { s.store with
        journal := s.store.journal.writeList s.store.active.other.base
          ((List.range Config.segmentWords).map (Config.eraseRemnant s.freeCount))
        cutErase := s.store.cutErase.set s.store.active.other true } := by
      simp [State.cutStoreOff, hp]
    rw [hstore]
    refine ⟨rfl, fun b hb => ?_⟩
    dsimp only
    rw [Memory.read_writeList_outside]
    rwa [List.length_map, List.length_range]

/-- Settles O5: the loss of supply cuts the store off and forms everything else as a reset does. -/
theorem powerFailureKeepsJournal : Obligations.PowerFailureKeepsJournal := by
  intro cut s h
  refine ⟨s.loseSupply cut, by simp [exec, execPowerFailure, h], rfl, cutOff_cutStoreOff cut, rfl⟩

theorem cutStoreOff_store (cut : WriteCut) : (s.cutStoreOff cut).store = { s.store with
    journal := (s.cutStoreOff cut).store.journal, cutErase := (s.cutStoreOff cut).store.cutErase } := by
  unfold State.cutStoreOff
  cases s.store.phase <;> simp

/-- Settles O7: the assertion cuts the store off and stops it. -/
theorem resetAssertStopsStore : Obligations.ResetAssertStopsStore := by
  intro cut s h
  obtain ⟨hpowered, -⟩ := powered_of_running h
  refine ⟨s.assertReset cut, by simp [exec, execResetAssert, h], ?_, rfl, ?_, ?_, ?_, ?_⟩
  · simpa [State.assertReset] using hpowered
  · simp [State.drivesHold, State.assertReset, hpowered]
  · simpa [State.assertReset, Store.stopped] using cutOff_cutStoreOff (s := s) cut
  · simp only [State.assertReset, setResetAsserted_store, setStore_store]
    rw [cutStoreOff_store]
    rfl
  · intro b hb
    cases b <;> simp [Block.Same, State.assertReset] at hb ⊢

end Sys2Proof.Machine
end

section
/-! PROOFS. The statements about power-on and the release of the reset line (R5, R7, R134, R179, R192). -/

namespace Sys2Proof.Machine

variable {s t : State}

/-! ### The ports formed anew (R192) -/

theorem formPorts_get (s : State) (extra : NoticeSet) (p : Port) : (s.formPorts extra).ports.get p =
    { PortState.atPowerOn with
      notices := NoticeKind.runStateChange.bit ||| extra
      latch := s.cut.live
      codes := s.wearStatuses
      response := { PortState.atPowerOn.response with headline := headline s.cut.live } } := by
  cases p <;> rfl

/-- A port's notices right after a reset: RUN_STATE_CHANGE, and one kind more where a condition holds. -/
theorem formPorts_hasNotice (s : State) (b : Bool) (j k : NoticeKind) (p : Port) :
    ((s.formPorts (if b then j.bit else 0#13)).ports.get p).hasNotice k = true ↔
      k = .runStateChange ∨ k = j ∧ b = true := by
  rw [formPorts_get]
  cases b <;> simp [PortState.hasNotice, BitVec.getLsbD_or, noticeBit_has]

theorem formPorts_attention (s : State) (extra : NoticeSet) (p : Port) : (s.formPorts extra).attention p = true := by
  have hset : ((s.formPorts extra).ports.get p).notices.getLsbD NoticeKind.runStateChange.code = true := by
    rw [formPorts_get, BitVec.getLsbD_or, noticeBit_has]
    rfl
  have hne : ((s.formPorts extra).ports.get p).notices ≠ 0#13 := by
    intro h0
    rw [h0] at hset
    simp at hset
  simpa [State.attention] using hne

/-- The stored codes right after a reset are the statuses of items that nothing has evaluated (R142). -/
theorem wearStatus_unevaluated (hstale : ∀ r, t.stale r = false) (i : WearItem)
    (he : (t.wear.items.get i).evaluated = false) : t.wearStatus i = wearCode (t.wear.items.get i).level false false := by
  simp only [State.wearStatus, hstale, he]

/-! ### The scan of an erased journal (R158) -/

theorem scanSlots_erased : ∀ v ∈ scanSlots [] ⟨false, false⟩, v.free = true ∧ v.valid = false := by
  intro v hv
  have hview : ∀ g j, (slotView [] ⟨false, false⟩ g j).free = true ∧ (slotView [] ⟨false, false⟩ g j).valid = false := by
    intro g j
    cases g <;> simp [slotView, SegmentFlags.get, Memory.readList, Memory.read]
  simp only [scanSlots, List.mem_append, List.mem_map] at hv
  obtain ⟨j, -, rfl⟩ | ⟨j, -, rfl⟩ := hv <;> exact hview _ j

theorem newestRecord_erased : newestRecord (scanSlots [] ⟨false, false⟩) = none := by
  unfold newestRecord
  refine List.foldlRecOn _ _ (motive := fun best => best = none) rfl fun best hbest v hv => ?_
  simp [(scanSlots_erased v hv).2, hbest]

theorem scanned_erased {x : Store} (hj : x.journal = []) (hc : x.cutErase = ⟨false, false⟩) :
    x.scanned = .atPowerOn := by
  have hnumber : highestNumber (scanSlots [] ⟨false, false⟩) = 0 := by
    unfold highestNumber
    refine List.foldlRecOn _ _ (motive := fun n => n = 0) rfl fun best hbest v hv => ?_
    simp [(scanSlots_erased v hv).1, hbest]
  have hpos : ∀ g, writePosition (scanSlots [] ⟨false, false⟩) g = 0 := by
    intro g
    unfold writePosition
    refine List.foldlRecOn _ _ (motive := fun n => n = 0) rfl fun best hbest v hv => ?_
    simp [(scanSlots_erased v hv).1, hbest]
  simp [Store.scanned, hj, hc, newestRecord_erased, hnumber, hpos, Store.stopped, Store.atPowerOn]

theorem restored_erased {x : Store} (hj : x.journal = []) (hc : x.cutErase = ⟨false, false⟩) : x.restored = none := by
  simp [Store.restored, hj, hc, newestRecord_erased]

/-! ### Power-on (R5) -/

theorem headline_doorInterlock : headline Cause.doorInterlock.bit = 8#5 := by decide

theorem exec_powerOn_of_off (straps : PerPort (BitVec 3)) (h : s.powered = false) :
    exec (.powerOn straps) s = .next (s.powerUp straps) := by
  simp [exec, execPowerOn, State.powerOn, h]

/-- A part formed with an erased journal is the one right after reset. -/
theorem powerUp_erased (hj : s.store.journal = []) (hc : s.store.cutErase = ⟨false, false⟩) :
    s.powerUp ⟨0#3, 0#3, 0#3, 0#3, 0#3⟩ = { State.reset with freeCount := s.freeCount, pending := s.pending } := by
  have hhead : headline State.reset.cut.live = 8#5 := headline_doorInterlock
  simp only [State.powerUp, restored_erased hj hc, scanned_erased hj hc, State.formPorts, hhead]
  rfl

theorem powerUp_items (straps : PerPort (BitVec 3)) (i : WearItem) : (s.powerUp straps).wear.items.get i =
    { total := (s.store.restored.getD ⟨0, 0, 0, 0, 0⟩).get i, residual := 0, evaluated := false
      level := levelOf (Settings.defaults.thresholds.get i) ((s.store.restored.getD ⟨0, 0, 0, 0, 0⟩).get i) } := by
  simp [State.powerUp, State.formPorts, restoredItems]

theorem stale_atReset (r : Role) (h : t.env = .atReset) : t.stale r = false := by
  rw [State.stale, h]
  cases r <;> rfl

theorem powerUp_hasNotice (straps : PerPort (BitVec 3)) (p : Port) (k : NoticeKind) :
    ((s.powerUp straps).ports.get p).hasNotice k = true ↔
      k = .runStateChange ∨ k = .storeEmpty ∧ s.store.restored = none := by
  rw [State.powerUp, formPorts_hasNotice, Option.isNone_iff_eq_none]

theorem formPorts_codes (s : State) (extra : NoticeSet) (p : Port) (i : WearItem) (hs : s.env = .atReset)
    (he : (s.wear.items.get i).evaluated = false) :
    ((s.formPorts extra).ports.get p).codes.get i = wearCode (s.wear.items.get i).level false false := by
  rw [formPorts_get]
  show s.wearStatuses.get i = _
  rw [wearStatuses_get]
  exact wearStatus_unevaluated (fun r => stale_atReset r hs) i he

/-- Settles O3: the state is written out by the power-on itself, but for the scan, the items and the ports. -/
theorem powerOnFormsState : Obligations.PowerOnFormsState := by
  refine ⟨fun s hp hj hc => ?_, fun straps s => ⟨fun hp => ?_, fun hp => ?_⟩⟩
  · rw [exec_powerOn_of_off _ hp, powerUp_erased hj hc]
  · have hon : s.powerOn straps = (s.loseSupply ⟨0, []⟩).powerUp straps := by
      simp [State.powerOn, hp, noWordWritten]
    rw [exec_powerOn_of_off (s := s.loseSupply ⟨0, []⟩) straps rfl]
    exact congrArg _ hon
  · refine ⟨s.powerUp straps, exec_powerOn_of_off straps hp, rfl, rfl, rfl, rfl, rfl, rfl, rfl, rfl, rfl, rfl, rfl,
      rfl, rfl, rfl, rfl, rfl, rfl, rfl, rfl, rfl, fun i => ?_, fun p => ?_⟩
    · rw [powerUp_items]
      exact ⟨rfl, rfl, rfl, rfl⟩
    · have hcodes : ∀ i, ((s.powerUp straps).ports.get p).codes.get i =
          wearCode ((s.powerUp straps).wear.items.get i).level false false := fun i =>
        formPorts_codes _ _ p i rfl (by
          have hi := powerUp_items (s := s) straps i
          exact congrArg ItemState.evaluated hi)
      have hresponse : ((s.powerUp straps).ports.get p).response = ⟨0#4, .ok, true, .selfCheck, 8#5, 0#16⟩ := by
        rw [State.powerUp, formPorts_get]
        show (⟨0#4, .ok, true, .selfCheck, headline Cause.doorInterlock.bit, 0#16⟩ : Response) = _
        rw [headline_doorInterlock]
      refine ⟨?_, ?_, ?_, ?_, hresponse, formPorts_attention _ _ p, powerUp_hasNotice straps p, ?_, ?_, ?_, hcodes, ?_, ?_, ?_⟩
      all_goals
        rw [State.powerUp, formPorts_get]
        rfl

/-! ### The release of the reset line (R7) -/

theorem causeBit_has (c d : Cause) : CauseSet.has c.bit d = decide (d = c) := by
  cases c <;> cases d <;> rfl

theorem initialCauses_has (l : PerGroup Lining) (c : Cause) : CauseSet.has (initialCauses l) c = true ↔
    c = .doorInterlock ∨ c = .liningCritical ∧ isCritical l = true := by
  have hor : ∀ x y : CauseSet, CauseSet.has (x ||| y) c = (CauseSet.has x c || CauseSet.has y c) := fun x y =>
    BitVec.getLsbD_or
  unfold initialCauses
  rw [hor, causeBit_has]
  split_ifs with h
  · simp [causeBit_has, h]
  · simp [CauseSet.has, h]

theorem headline_initialCauses (l : PerGroup Lining) : headline (initialCauses l) = 8#5 := by
  unfold initialCauses
  split_ifs <;> decide

theorem releaseReset_items (straps : PerPort (BitVec 3)) (i : WearItem) : (s.releaseReset straps).wear.items.get i =
    { s.wear.items.get i with
      evaluated := false, level := levelOf (Settings.defaults.thresholds.get i) (s.wear.items.get i).total } := by
  simp [State.releaseReset, State.formPorts, releasedItems]

theorem anyCollecting_iff (x : SnapshotTable) :
    (x.toList.any fun d => d.state == .collecting) = true ↔ ∃ id, (x.get id).state = .collecting := by
  simp only [SnapshotTable.toList, List.any_cons, List.any_nil, Bool.or_false, Bool.or_eq_true, beq_iff_eq]
  constructor
  · rintro (h | h | h | h)
    · exact ⟨0#2, h⟩
    · exact ⟨1#2, h⟩
    · exact ⟨2#2, h⟩
    · exact ⟨3#2, h⟩
  · rintro ⟨id, h⟩
    have hids : ∀ k : BitVec 2, k = 0#2 ∨ k = 1#2 ∨ k = 2#2 ∨ k = 3#2 := by decide
    obtain rfl | rfl | rfl | rfl := hids id
    · exact .inl h
    · exact .inr (.inl h)
    · exact .inr (.inr (.inl h))
    · exact .inr (.inr (.inr h))

theorem releaseReset_hasNotice (straps : PerPort (BitVec 3)) (p : Port) (k : NoticeKind) :
    ((s.releaseReset straps).ports.get p).hasNotice k = true ↔
      k = .runStateChange ∨ k = .snapshotComplete ∧ ∃ id, (s.rcd.table.get id).state = .collecting := by
  rw [State.releaseReset]
  dsimp only
  rw [formPorts_hasNotice, anyCollecting_iff]

/-- Settles O8: what is formed anew is written out by the release, but for the items, the table and the ports. -/
theorem resetReleaseKeepsRam : Obligations.ResetReleaseKeepsRam := by
  intro straps s hp hr
  refine ⟨s.releaseReset straps, by simp [exec, execResetLineRelease, hp, hr], rfl, rfl, rfl, rfl, rfl, rfl, rfl, rfl,
    rfl, rfl, rfl, rfl, rfl, rfl, rfl, rfl, rfl, rfl, initialCauses_has _, rfl, fun i => ?_, rfl, rfl, rfl, rfl, rfl, rfl,
    rfl, fun id => ?_, rfl, fun p => ?_⟩
  · rw [releaseReset_items]
    exact ⟨rfl, rfl, rfl, rfl⟩
  · show (s.rcd.table.map (Descriptor.closed s.rcd.newest)).get id = _
    rw [table_get_map]
    rfl
  · have hcodes : ∀ i, ((s.releaseReset straps).ports.get p).codes.get i =
        wearCode ((s.releaseReset straps).wear.items.get i).level false false := fun i =>
      formPorts_codes _ _ p i rfl (by
        have hi := releaseReset_items (s := s) straps i
        exact congrArg ItemState.evaluated hi)
    have hresponse : ((s.releaseReset straps).ports.get p).response = ⟨0#4, .ok, true, .selfCheck, 8#5, 0#16⟩ := by
      rw [State.releaseReset, formPorts_get]
      show (⟨0#4, .ok, true, .selfCheck, headline (initialCauses s.wear.lining), 0#16⟩ : Response) = _
      rw [headline_initialCauses]
    refine ⟨?_, ?_, ?_, releaseReset_hasNotice straps p, hresponse, ?_, formPorts_attention _ _ p, ?_, ?_, ?_, hcodes, ?_, ?_, ?_⟩
    all_goals
      rw [State.releaseReset]
      dsimp only
      rw [formPorts_get]
      rfl

end Sys2Proof.Machine
end

section
/-! PROOFS. The statement about the scan: its three folds by what they find, and a slot by its words (R149, R158). -/

namespace Sys2Proof.Machine

/-! ### A maximum found by a fold -/

/-- A fold that keeps the greatest value of the entries that count. -/
theorem foldl_max_spec {α : Type} (counts : α → Bool) (value : α → Nat) (l : List α) (n : Nat) :
    let r := l.foldl (fun best x => if counts x then max best (value x) else best) n
    n ≤ r ∧ (∀ x ∈ l, counts x = true → value x ≤ r) ∧
      (r = n ∨ ∃ x ∈ l, counts x = true ∧ r = value x) := by
  induction l generalizing n with
  | nil => exact ⟨Nat.le_refl n, fun _ h => absurd h List.not_mem_nil, .inl rfl⟩
  | cons x xs ih =>
    simp only [List.foldl_cons]
    cases hc : counts x with
    | false =>
      obtain ⟨hle, hall, hfrom⟩ := ih n
      refine ⟨hle, fun y hy hcy => ?_, hfrom.imp_right fun ⟨y, hy, h⟩ => ⟨y, List.mem_cons_of_mem _ hy, h⟩⟩
      obtain rfl | hy := List.mem_cons.mp hy
      · exact absurd (hc.symm.trans hcy) Bool.false_ne_true
      · exact hall y hy hcy
    | true =>
      obtain ⟨hle, hall, hfrom⟩ := ih (max n (value x))
      simp only [if_true]
      refine ⟨le_trans (Nat.le_max_left _ _) hle, fun y hy hcy => ?_, ?_⟩
      · obtain rfl | hy := List.mem_cons.mp hy
        · exact le_trans (Nat.le_max_right _ _) hle
        · exact hall y hy hcy
      · obtain hfrom | ⟨y, hy, h⟩ := hfrom
        · obtain hm | hm := max_choice n (value x)
          · exact .inl (hfrom.trans hm)
          · exact .inr ⟨x, List.mem_cons_self, hc, hfrom.trans hm⟩
        · exact .inr ⟨y, List.mem_cons_of_mem _ hy, h⟩

/-! ### The three folds of the scan (R158) -/

theorem numbered_iff (v : SlotView) : v.numbered = true ↔ v.sequence ≠ 4294967295 := by simp [SlotView.numbered]

/-- A slot that carries a number that was used. -/
def SlotView.used (v : SlotView) : Bool := !v.free && v.numbered

theorem used_iff (v : SlotView) : v.used = true ↔ v.free = false ∧ v.sequence ≠ 4294967295 := by
  simp [SlotView.used, numbered_iff]

theorem highestNumber_eq (slots : List SlotView) : highestNumber slots =
    slots.foldl (fun best v => if v.used then max best v.sequence else best) 0 := by
  unfold highestNumber
  congr 1
  funext best v
  cases hf : v.free <;> cases hn : v.numbered <;> simp [SlotView.used, hf, hn]

theorem highestNumber_spec (slots : List SlotView) :
    (∀ v ∈ slots, v.free = false → v.sequence ≠ 4294967295 → v.sequence ≤ highestNumber slots) ∧
      (highestNumber slots = 0 ∨
        ∃ v ∈ slots, v.free = false ∧ v.sequence ≠ 4294967295 ∧ highestNumber slots = v.sequence) := by
  rw [highestNumber_eq]
  obtain ⟨-, hall, hfrom⟩ := foldl_max_spec SlotView.used SlotView.sequence slots 0
  refine ⟨fun v hv hf hn => hall v hv ((used_iff v).mpr ⟨hf, hn⟩), hfrom.imp_right ?_⟩
  rintro ⟨v, hv, hu, h⟩
  obtain ⟨hf, hn⟩ := (used_iff v).mp hu
  exact ⟨v, hv, hf, hn, h⟩

/-- A slot of a segment that is not free. -/
def SlotView.taken (g : Segment) (v : SlotView) : Bool := decide (v.segment = g ∧ v.free = false)

theorem writePosition_spec (slots : List SlotView) (g : Segment) :
    (∀ v ∈ slots, v.segment = g → v.free = false → v.slot < writePosition slots g) ∧
      (writePosition slots g = 0 ∨
        ∃ v ∈ slots, v.segment = g ∧ v.free = false ∧ writePosition slots g = v.slot + 1) := by
  have heq : writePosition slots g =
      slots.foldl (fun best v => if SlotView.taken g v then max best (v.slot + 1) else best) 0 := by
    simp only [writePosition, SlotView.taken, decide_eq_true_eq]
  rw [heq]
  obtain ⟨-, hall, hfrom⟩ := foldl_max_spec (SlotView.taken g) (fun v => v.slot + 1) slots 0
  refine ⟨fun v hv hg hf => hall v hv (by simp [SlotView.taken, hg, hf]), hfrom.imp_right ?_⟩
  rintro ⟨v, hv, ht, h⟩
  obtain ⟨hg, hf⟩ := of_decide_eq_true ht
  exact ⟨v, hv, hg, hf, h⟩

/-- A slot that is a record: valid, with a number (R158; entry 39). -/
def SlotView.isRecord (v : SlotView) : Bool := v.valid && v.numbered

theorem isRecord_iff (v : SlotView) : v.isRecord = true ↔ v.valid = true ∧ v.sequence ≠ 4294967295 := by
  simp [SlotView.isRecord, numbered_iff]

/-- One step of the search for the newest record. -/
def newerRecord (best : Option SlotView) (x : SlotView) : Option SlotView :=
  if x.isRecord then
    match best with
    | none => some x
    | some b => if b.sequence < x.sequence then some x else best
  else best

/-- The search ends with a record that none of those met outnumbers; without one it ends as it began. -/
theorem foldl_newerRecord (slots : List SlotView) (best : Option SlotView) :
    (∀ v, slots.foldl newerRecord best = some v →
      (best = some v ∨ v ∈ slots ∧ v.isRecord = true) ∧ (∀ b, best = some b → b.sequence ≤ v.sequence) ∧
        ∀ w ∈ slots, w.isRecord = true → w.sequence ≤ v.sequence) ∧
    (slots.foldl newerRecord best = none → best = none ∧ ∀ w ∈ slots, w.isRecord = false) := by
  induction slots generalizing best with
  | nil =>
    refine ⟨fun v hv => ⟨.inl hv, fun b hb => ?_, fun _ h => absurd h List.not_mem_nil⟩,
      fun h => ⟨h, fun _ h => absurd h List.not_mem_nil⟩⟩
    have hbv : some b = some v := hb.symm.trans hv
    cases hbv
    exact Nat.le_refl _
  | cons x xs ih =>
    rw [List.foldl_cons]
    obtain ⟨hsome, hnone⟩ := ih (newerRecord best x)
    cases hx : x.isRecord with
    | false =>
      have hstep : newerRecord best x = best := by simp [newerRecord, hx]
      rw [hstep] at hsome hnone ⊢
      refine ⟨fun v hv => ?_, fun h => ?_⟩
      · obtain ⟨hfrom, hbest, hall⟩ := hsome v hv
        refine ⟨hfrom.imp_right fun h => ⟨List.mem_cons_of_mem _ h.1, h.2⟩, hbest, fun w hw hr => ?_⟩
        obtain rfl | hw := List.mem_cons.mp hw
        · exact absurd (hx.symm.trans hr) Bool.false_ne_true
        · exact hall w hw hr
      · obtain ⟨hb, hall⟩ := hnone h
        exact ⟨hb, List.forall_mem_cons.mpr ⟨hx, hall⟩⟩
    | true =>
      have hstep : ∃ b, newerRecord best x = some b ∧ (b = x ∨ best = some b) ∧ x.sequence ≤ b.sequence ∧
          ∀ c, best = some c → c.sequence ≤ b.sequence := by
        cases best with
        | none => exact ⟨x, by simp [newerRecord, hx], .inl rfl, Nat.le_refl _, fun c hc => (nomatch hc)⟩
        | some b =>
          by_cases hlt : b.sequence < x.sequence
          · refine ⟨x, by simp [newerRecord, hx, hlt], .inl rfl, Nat.le_refl _, fun c hc => ?_⟩
            cases hc
            exact Nat.le_of_lt hlt
          · refine ⟨b, by simp [newerRecord, hx, hlt], .inr rfl, Nat.le_of_not_lt hlt, fun c hc => ?_⟩
            cases hc
            exact Nat.le_refl _
      obtain ⟨b, hb, hfromb, hxb, hcb⟩ := hstep
      refine ⟨fun v hv => ?_, fun h => ?_⟩
      · obtain ⟨hfrom, hbest, hall⟩ := hsome v hv
        have hbv : b.sequence ≤ v.sequence := hbest b hb
        refine ⟨?_, fun c hc => le_trans (hcb c hc) hbv, fun w hw hr => ?_⟩
        · obtain hfrom | ⟨hmem, hr⟩ := hfrom
          · have hvb : b = v := Option.some.inj (hb.symm.trans hfrom)
            subst hvb
            obtain rfl | hbefore := hfromb
            · exact .inr ⟨List.mem_cons_self, hx⟩
            · exact .inl hbefore
          · exact .inr ⟨List.mem_cons_of_mem _ hmem, hr⟩
        · obtain rfl | hw := List.mem_cons.mp hw
          · exact le_trans hxb hbv
          · exact hall w hw hr
      · exact absurd (hb.symm.trans (hnone h).1) (by simp)

theorem newestRecord_eq (slots : List SlotView) : newestRecord slots = slots.foldl newerRecord none := rfl

theorem newestRecord_some {slots : List SlotView} {v : SlotView} (h : newestRecord slots = some v) :
    v ∈ slots ∧ v.valid = true ∧ v.sequence ≠ 4294967295 ∧
      ∀ w ∈ slots, w.valid = true → w.sequence ≠ 4294967295 → w.sequence ≤ v.sequence := by
  obtain ⟨hfrom, -, hall⟩ := (foldl_newerRecord slots none).1 v h
  obtain hfrom | ⟨hmem, hr⟩ := hfrom
  · cases hfrom
  · obtain ⟨hvalid, hn⟩ := (isRecord_iff v).mp hr
    exact ⟨hmem, hvalid, hn, fun w hw hv hs => hall w hw ((isRecord_iff w).mpr ⟨hv, hs⟩)⟩

theorem newestRecord_none {slots : List SlotView} (h : newestRecord slots = none) :
    ∀ v ∈ slots, v.valid = false ∨ v.sequence = 4294967295 := by
  intro v hv
  obtain ⟨-, hall⟩ := (foldl_newerRecord slots none).2 h
  have hno := hall v hv
  by_contra hnot
  rw [not_or, Bool.not_eq_false] at hnot
  exact absurd ((isRecord_iff v).mpr hnot) (by simp [hno])

/-! ### A slot by its words (R149) -/

theorem mem_scanSlots {m : Memory} {c : SegmentFlags} {v : SlotView} :
    v ∈ scanSlots m c ↔ ∃ g j, j < 32 ∧ v = slotView m c g j := by
  simp only [scanSlots, List.mem_append, List.mem_map, List.mem_range]
  constructor
  · rintro (⟨j, hj, rfl⟩ | ⟨j, hj, rfl⟩)
    · exact ⟨.seg0, j, hj, rfl⟩
    · exact ⟨.seg1, j, hj, rfl⟩
  · rintro ⟨g, j, hj, rfl⟩
    cases g
    · exact .inl ⟨j, hj, rfl⟩
    · exact .inr ⟨j, hj, rfl⟩

theorem slotView_words (m : Memory) (c : SegmentFlags) (g : Segment) (j : Nat) :
    (slotView m c g j).words = (List.range 13).map fun k => m.read (416 * g.number + 13 * j + k) := by
  simp only [slotView, Memory.readList, slotAddress, Segment.base, Config.segmentWords, Config.slotWords]
  refine List.map_congr_left fun k _ => congrArg m.read ?_
  omega

theorem slotView_words_get (m : Memory) (c : SegmentFlags) (g : Segment) (j : Nat) {k : Nat} (hk : k < 13) (d : Word) :
    (slotView m c g j).words[k]? = some ((slotView m c g j).words.getD k d) := by
  have hl : (slotView m c g j).words.length = 13 := by simp [slotView_words]
  rw [List.getD_eq_getElem?_getD, List.getElem?_eq_getElem (by omega)]
  rfl

theorem slotView_free (m : Memory) (c : SegmentFlags) (g : Segment) (j : Nat) : (slotView m c g j).free = true ↔
    c.get g = false ∧ ∀ w ∈ (slotView m c g j).words, w = 0xFFFF#16 := by
  simp [slotView, Config.erasedWord]

theorem slotView_valid (m : Memory) (c : SegmentFlags) (g : Segment) (j : Nat) : (slotView m c g j).valid = true ↔
    c.get g = false ∧ (slotView m c g j).free = false ∧ (slotView m c g j).words[12]? ≠ some 0xFFFF#16 ∧
      (slotView m c g j).words[12]? = some (serialCrc ((slotView m c g j).words.take 12)) := by
  rw [slotView_words_get m c g j (by decide) Config.erasedWord, ← crc_eq_serialCrc]
  simp only [ne_eq, Option.some.injEq]
  simp only [slotView, Bool.and_eq_true, Bool.not_eq_true', bne_iff_ne, beq_iff_eq, ne_eq, Config.erasedWord, and_assoc]

theorem slotView_twoWords (m : Memory) (c : SegmentFlags) (g : Segment) (j : Nat) {k : Nat} (hk : k < 12) :
    TwoWords (slotView m c g j).words[k]? (slotView m c g j).words[k + 1]?
      (twoWords ((slotView m c g j).words.getD k 0#16) ((slotView m c g j).words.getD (k + 1) 0#16)) :=
  ⟨_, _, slotView_words_get m c g j (by omega) 0#16, slotView_words_get m c g j (by omega) 0#16, rfl⟩

theorem slotView_totals (m : Memory) (c : SegmentFlags) (g : Segment) (j : Nat) {k : Nat} {item : WearItem}
    (h : itemOfNumber k = some item) :
    TwoWords (slotView m c g j).words[2 + 2 * k]? (slotView m c g j).words[3 + 2 * k]?
      ((slotView m c g j).totals.get item) := by
  match k, h with
  | 0, h => cases h; exact slotView_twoWords m c g j (by omega)
  | 1, h => cases h; exact slotView_twoWords m c g j (by omega)
  | 2, h => cases h; exact slotView_twoWords m c g j (by omega)
  | 3, h => cases h; exact slotView_twoWords m c g j (by omega)
  | 4, h => cases h; exact slotView_twoWords m c g j (by omega)
  | k + 5, h => cases h

/-! ### The statement -/

/-- Settles O4: the scan's three folds find what they look for, and each slot is read from its thirteen words. -/
theorem scanFindsNewestRecord : Obligations.ScanFindsNewestRecord := by
  intro x
  dsimp only
  obtain ⟨hnumbers, hnumber⟩ := highestNumber_spec (scanSlots x.journal x.cutErase)
  obtain ⟨hslots, hslot⟩ := writePosition_spec (scanSlots x.journal x.cutErase) x.scanned.active
  have hpos : x.scanned.pos = writePosition (scanSlots x.journal x.cutErase) x.scanned.active := by
    simp only [Store.scanned]
  rw [← hpos] at hslots hslot
  refine ⟨?newest, hnumbers, hnumber, hslots, hslot, rfl, rfl, rfl, rfl, rfl, rfl, rfl, fun g j hj => ?every, fun v hv => ?view⟩
  case newest =>
    cases hn : newestRecord (scanSlots x.journal x.cutErase) with
    | none =>
      exact .inr ⟨newestRecord_none hn, by simp [Store.restored, hn], by simp [Store.scanned, hn], by simp [Store.scanned, hn]⟩
    | some v =>
      obtain ⟨hmem, hvalid, hs, hall⟩ := newestRecord_some hn
      exact .inl ⟨v, hmem, hvalid, hs, by simp [Store.restored, hn], by simp [Store.scanned, hn],
        by simp [Store.scanned, hn], hall⟩
  case every => exact ⟨slotView x.journal x.cutErase g j, mem_scanSlots.mpr ⟨g, j, hj, rfl⟩, rfl, rfl⟩
  case view =>
    obtain ⟨g, j, hj, rfl⟩ := mem_scanSlots.mp hv
    exact ⟨hj, slotView_words _ _ g j, slotView_free _ _ g j, slotView_valid _ _ g j,
      slotView_twoWords _ _ g j (by omega), fun k item => slotView_totals _ _ g j⟩

end Sys2Proof.Machine
end

section
/-! PROOFS. What operations tell the ports, put together from parts: the causes, the store's faults, the notices; and the
statements about the hold line sampler and the timers whose end changes little. -/

namespace Sys2Proof.Machine

variable {s t u : State}

/-! ### Parts that stay as they are, one event after another -/

theorem PortField.same_trans {x y z : PortState} {f : PortField} (h : f.Same x y) (g : f.Same y z) : f.Same x z := by
  cases f with
  | frame => exact ⟨g.1.trans h.1, g.2.trans h.2⟩
  | cursors => exact Eq.trans g h
  | assembly => exact Eq.trans g h
  | holding => exact Eq.trans g h
  | notices => exact Eq.trans g h
  | missed => exact Eq.trans g h
  | latch => exact Eq.trans g h
  | counters => exact Eq.trans g h
  | codes => exact Eq.trans g h
  | dump => exact Eq.trans g h
  | dumpRange => exact Eq.trans g h

theorem portChanges_trans {l : List PortField} {q : Port} (h : PortChanges l s t q) (g : PortChanges l t u q) :
    PortChanges l s u q := fun f hf => PortField.same_trans (h f hf) (g f hf)

theorem portChanges_mono {l m : List PortField} {q : Port} (h : PortChanges l s t q) (hlm : l ⊆ m) :
    PortChanges m s t q := fun f hf => h f fun hl => hf (hlm hl)

theorem portChanges_of_ports {q : Port} (l : List PortField) (h : t.ports.get q = s.ports.get q) : PortChanges l s t q := by
  intro f _
  rw [h]
  cases f <;> first | rfl | exact ⟨rfl, rfl⟩

theorem Block.same_trans {b : Block} (h : b.Same s t) (g : b.Same t u) : b.Same s u := by
  cases b with
  | supply => exact ⟨g.1.trans h.1, g.2.trans h.2⟩
  | clock => exact Eq.trans g h
  | free => exact Eq.trans g h
  | runControl => exact Eq.trans g h
  | envelope => exact Eq.trans g h
  | cutback => exact Eq.trans g h
  | split => exact Eq.trans g h
  | genset => exact Eq.trans g h
  | wear => exact Eq.trans g h
  | store => exact Eq.trans g h
  | recorder => exact Eq.trans g h
  | ports => exact Eq.trans g h
  | queue => exact Eq.trans g h

theorem changes_trans {l : List Block} (h : Changes l s t) (g : Changes l t u) : Changes l s u :=
  fun b hb => Block.same_trans (h b hb) (g b hb)

theorem changes_mono {l m : List Block} (h : Changes l s t) (hlm : l ⊆ m) : Changes m s t :=
  fun b hb => h b fun hl => hb (hlm hl)

theorem changes_refl (l : List Block) : Changes l s s := by
  intro b _
  cases b <;> first | rfl | exact ⟨rfl, rfl⟩

theorem noticesWithin_mono {l m : List NoticeKind} (h : State.NoticesWithin l s t) (hlm : l ⊆ m) :
    State.NoticesWithin m s t := fun p k => ⟨(h p k).1, fun hk => (h p k).2 fun hl => hk (hlm hl)⟩

/-- Notices that stand and one kind more at every port. -/
theorem noticesWithin_of_added {l : List NoticeKind} {k : NoticeKind} {b : Port → Bool} (hk : k ∈ l)
    (h : ∀ p j, (t.ports.get p).hasNotice j = ((s.ports.get p).hasNotice j || (b p && decide (j = k)))) :
    State.NoticesWithin l s t := by
  intro p j
  rw [h]
  refine ⟨fun hj => by simp [hj], fun hj => ?_⟩
  have hne : j ≠ k := fun e => hj (e ▸ hk)
  simp [hne]

/-! ### Causes (R45, R46, R57) -/

/-- What CausesTold speaks of is the same in both. -/
def State.SameCauses (s t : State) : Prop :=
  t.cut.live = s.cut.live ∧ ∀ p, (t.ports.get p).latch = (s.ports.get p).latch ∧
    (t.ports.get p).hasNotice .cutbackChange = (s.ports.get p).hasNotice .cutbackChange

theorem State.SameCauses.told (h : s.SameCauses t) : s.CausesTold t := by
  obtain ⟨hlive, hports⟩ := h
  refine ⟨fun p => by simp [hlive, (hports p).2], fun p c => ?_⟩
  rw [(hports p).1, causeActive_of_cut hlive]
  cases s.causeActive c <;> simp

theorem State.SameCauses.trans_told (h : s.SameCauses t) (g : t.CausesTold u) : s.CausesTold u := by
  obtain ⟨hlive, hports⟩ := h
  obtain ⟨hcut, hlatch⟩ := g
  refine ⟨fun p => ?_, fun p c => ?_⟩
  · rw [hcut p, (hports p).2, hlive]
  · rw [hlatch p c, (hports p).1, causeActive_of_cut hlive]

theorem State.CausesTold.trans_same (h : s.CausesTold t) (g : t.SameCauses u) : s.CausesTold u := by
  obtain ⟨hcut, hlatch⟩ := h
  obtain ⟨hlive, hports⟩ := g
  refine ⟨fun p => ?_, fun p c => ?_⟩
  · rw [(hports p).2, hcut p, hlive]
  · rw [(hports p).1, hlatch p c, causeActive_of_cut hlive]

theorem raise_live_eq_iff (s : State) (c : Cause) : (s.raise c).cut.live = s.cut.live ↔ s.causeActive c = true := by
  constructor
  · intro h
    have hc : (s.raise c).causeActive c = s.causeActive c := causeActive_of_cut h c
    simpa using hc.symm
  · intro h
    rw [raise_of_active s h]

theorem raise_causesTold (s : State) (c : Cause) : s.CausesTold (s.raise c) := by
  cases hc : s.causeActive c with
  | true =>
    rw [raise_of_active s hc]
    exact causesTold_refl s
  | false =>
    have hne : (s.raise c).cut.live ≠ s.cut.live := fun h => by
      rw [raise_live_eq_iff, hc] at h
      cases h
    refine ⟨fun p => ?_, fun p d => ?_⟩
    · rw [raise_hasNotice s hc, decide_eq_true hne]
      simp
    rw [raise_has_latch s hc, raise_causeActive]
    by_cases hd : d = c
    · simp [hd, hc]
    · cases hs : s.causeActive d <;> simp [hd]

theorem setCause_causesTold (s : State) (c : Cause) (b : Bool) : s.CausesTold (s.setCause c b) := by
  cases b
  · exact clear_causesTold s c
  · exact raise_causesTold s c

/-- A cause set as it stands already. -/
theorem setCause_of_same (s : State) {c : Cause} {b : Bool} (h : s.causeActive c = b) : s.setCause c b = s := by
  cases b
  · exact clear_of_inactive s h
  · exact raise_of_active s h

theorem setCause_cut_eq (s : State) (c : Cause) (b : Bool) :
    (s.setCause c b).cut = { s.cut with live := (s.setCause c b).cut.live } := by
  cases b <;> simp [State.setCause]

theorem recordedAs_trans (h : s.RecordedAs t) (g : t.RecordedAs u) : s.RecordedAs u := by
  obtain ⟨hr, hmarks⟩ := h
  obtain ⟨hr', hmarks'⟩ := g
  refine ⟨hr'.trans hr, fun p => ?_⟩
  obtain ⟨h1, h2, h3⟩ := hmarks p
  obtain ⟨h1', h2', h3'⟩ := hmarks' p
  exact ⟨h1'.trans h1, h2'.trans h2, h3'.trans h3⟩

/-! ### The hold line sampler (R54, R55) -/

theorem drivesHold_iff (hrun : s.running = true) :
    s.drivesHold = true ↔ s.rc.runState = .selfCheck ∨ s.causeActive .selfCheckFail = true := by
  obtain ⟨hp, hr⟩ := powered_of_running hrun
  simp [State.drivesHold, hp, hr]

/-- When the sampler of a part that leaves the line alone takes a level (R55; entry 23). -/
def State.samplerDue (s : State) (level : LineLevel) : Nat :=
  if s.cut.holdLevel = some level then s.cut.holdFrom else s.cut.holdFrom + 1

theorem samplerTimer_of_free (h : s.drivesHold = false) (level : LineLevel) :
    s.samplerTimer level = some (s.samplerDue level) := by
  simp only [State.samplerTimer, State.samplerDue, h, Bool.false_eq_true, if_false]
  split_ifs <;> rfl

/-- The sampler's own record of the level it takes. -/
def State.sampled (s : State) (level : LineLevel) : State :=
  s.setCut { s.cut with holdFrom := s.now, holdLevel := some level }

theorem takeLevel_eq (s : State) (level : LineLevel) :
    s.takeLevel level = (s.sampled level).setCause .holdLine (level = .low) := rfl

/-- A level taken that means of HOLD_LINE what stands already. -/
theorem takeLevel_same {level : LineLevel} (h : s.causeActive .holdLine = true ↔ level = .low) :
    s.takeLevel level = s.sampled level := by
  rw [takeLevel_eq]
  refine setCause_of_same _ ?_
  show s.causeActive .holdLine = _
  rw [Bool.eq_iff_iff, h, decide_eq_true_eq]

/-- Settles O10: the sampler takes a level when its timer is due, and the level sets or clears HOLD_LINE. -/
theorem holdLineSampleSetsCause : Obligations.HoldLineSampleSetsCause := by
  intro level s hrun
  refine ⟨drivesHold_iff hrun, fun hdrive => ?_, fun hfree => ?_⟩
  · have hnone : s.samplerTimer level = none := by simp [State.samplerTimer, hdrive]
    have hsame : s.timed (s.samplerTimer level) (fun t => t.takeLevel level) = s := by rw [hnone, timed_of_none]
    exact congrArg _ hsame
  · have hdue := samplerTimer_of_free hfree level
    refine ⟨(s.setNow (max s.now (s.samplerDue level))).takeLevel level, congrArg _ (timed_of_due hrun hdue _), ?_⟩
    generalize hn : max s.now (s.samplerDue level) = n
    have hnow : ((s.setNow n).takeLevel level).now = n := by simp [State.takeLevel]
    have hcut := setCause_cut_eq ((s.setNow n).sampled level) .holdLine (level = .low)
    rw [hnow]
    refine ⟨fun h => by rw [← hn, State.samplerDue, if_neg h], fun h => by rw [← hn, State.samplerDue, if_pos h], hcut,
      by simp [State.takeLevel], by simp [State.takeLevel], fun c hc => by simp [State.takeLevel, hc]; rfl, fun h => ?_,
      setCause_causesTold ((s.setNow n).sampled level) _ _, fun hlow hoff => ?_, fun hhigh hon => ?_⟩
    case refine_1 =>
      rw [takeLevel_same (s := s.setNow n) h]
      refine ⟨rfl, fun b hb => ?_⟩
      cases b <;> simp [Block.Same, State.sampled] at hb ⊢
    case refine_2 =>
      subst hlow
      have hraise : (s.setNow n).takeLevel .low = ((s.setNow n).sampled .low).raise .holdLine := rfl
      have hinactive : ((s.setNow n).sampled .low).causeActive .holdLine = false := hoff
      rw [hraise]
      obtain ⟨hgen, hsplit⟩ := raise_hard _ hinactive (by decide)
      have hsampled : (s.setNow n).RecordedAs ((s.setNow n).sampled .low) := ⟨rfl, fun _ => ⟨rfl, rfl, rfl⟩⟩
      have hrecorded : ((s.setNow n).trigger .holdLine).RecordedAs (((s.setNow n).sampled .low).raise .holdLine) :=
        recordedAs_trans (trigger_recordedAs .holdLine hsampled rfl rfl) (raise_recordedAs _ hinactive)
      have hwithin := raise_noticesWithin ((s.setNow n).sampled .low) .holdLine
      have hports := raise_portChanges ((s.setNow n).sampled .low) .holdLine
      refine ⟨raise_allNoticed _ hinactive, fun p => by simp [raise_has_latch _ hinactive], hsplit, hgen, hrecorded,
        hwithin, hports, fun b hb => ?_⟩
      cases b <;> simp [Block.Same, State.sampled] at hb ⊢
    case refine_3 =>
      subst hhigh
      have hclear : (s.setNow n).takeLevel .high = ((s.setNow n).sampled .high).clear .holdLine := rfl
      have hactive : ((s.setNow n).sampled .high).causeActive .holdLine = true := hon
      rw [hclear]
      have hwithin : State.NoticesWithin [.cutbackChange] s (((s.setNow n).sampled .high).clear .holdLine) :=
        clear_noticesWithin (u := (s.setNow n).sampled .high) (by simp [State.sampled]) _
      have hports := clear_portChanges ((s.setNow n).sampled .high) .holdLine
      refine ⟨clear_allNoticed _ hactive, fun p => by simp [State.sampled], hwithin, hports, fun b hb => ?_⟩
      cases b <;> simp [Block.Same, State.sampled] at hb ⊢

end Sys2Proof.Machine
end

section
/-! PROOFS. What the operations of the wear store tell (R157), and the statements about the timers whose end changes little,
SAVE_WEAR, the end of a write and the end of an erase (R105, R151 to R157). -/

namespace Sys2Proof.Machine

variable {s t u : State}

/-! ### An entry of the store into fault (R157) -/

/-- What every operation of the store leaves of the rest: at most an entry into fault is told. -/
structure State.StoreTold (s t : State) : Prop where
  causes : s.CausesTold t
  others : ∀ c, c ≠ .wearStoreFault → t.causeActive c = s.causeActive c
  cut : t.cut = { s.cut with live := t.cut.live }
  within : State.NoticesWithin [.cutbackChange, .storeFault] s t
  port : ∀ q, PortChanges [.notices, .latch] s t q
  blocks : Changes [.store, .cutback, .ports] s t

/-- The store's own part of an entry into fault (R157). -/
def State.faultEntered (s : State) : State :=
  s.setStore { s.store with
    fault := true, phase := .idle, pendingFlag := false, current := noPorts, waiting := noPorts
    record := none, attempts := 0, endAt := none }

theorem storeFault_eq (s : State) :
    s.storeFault = (s.faultEntered.raise .wearStoreFault).noticeAll .storeFault := rfl

@[simp] theorem storeFault_hasNotice (s : State) (k : NoticeKind) (p : Port) :
    (s.storeFault.ports.get p).hasNotice k = ((s.ports.get p).hasNotice k || decide (k = .storeFault) ||
      (!s.causeActive .wearStoreFault && decide (k = .cutbackChange))) := by
  rw [storeFault_eq, noticeAll_hasNotice]
  have hports : s.faultEntered.ports = s.ports := rfl
  cases hc : s.causeActive .wearStoreFault with
  | true =>
    rw [raise_of_active s.faultEntered hc, hports]
    simp
  | false =>
    have hnone : s.faultEntered.raiseTells .wearStoreFault = none := rfl
    rw [raise_hasNotice s.faultEntered hc, hnone, hports]
    simp only [reduceCtorEq, decide_false, Bool.or_false, Bool.not_false, Bool.true_and]
    exact Bool.or_right_comm _ _ _

theorem storeFault_causesTold (s : State) : s.CausesTold s.storeFault := by
  have hentered : s.SameCauses s.faultEntered := ⟨rfl, fun _ => ⟨rfl, rfl⟩⟩
  have hnoticed : (s.faultEntered.raise .wearStoreFault).SameCauses s.storeFault := by
    rw [storeFault_eq]
    exact ⟨by simp, fun p => ⟨by simp, by simp⟩⟩
  exact (hentered.trans_told (raise_causesTold _ .wearStoreFault)).trans_same hnoticed

/-- A raise without a history trigger leaves the missed masks. -/
theorem raise_missed_untriggered (s : State) {c : Cause} (h : c.historyTrigger = none) (p : Port) :
    ((s.raise c).ports.get p).missed = (s.ports.get p).missed := by
  unfold State.raise State.raiseTrigger
  split_ifs
  · rfl
  · simp [h]

@[simp] theorem storeFault_missed (s : State) (p : Port) :
    (s.storeFault.ports.get p).missed = (s.ports.get p).missed := by
  rw [storeFault_eq]
  simp only [noticeAll_port_untouched]
  exact raise_missed_untriggered s.faultEntered rfl p

theorem storeFault_storeTold (s : State) : s.StoreTold s.storeFault where
  causes := storeFault_causesTold s
  others c hc := by rw [storeFault_causeActive, decide_eq_false hc, Bool.or_false]
  cut := by simp [State.storeFault]
  within p k := by
    refine ⟨fun h => by simp [h], fun hk => ?_⟩
    obtain ⟨hcut, hk⟩ := not_or.mp (mt List.mem_cons.mpr hk)
    have hfault : k ≠ .storeFault := by simpa using hk
    simp [hcut, hfault]
  port q f hf := by cases f <;> simp [PortField.Same] at hf ⊢
  blocks b hb := by cases b <;> simp [Block.Same] at hb ⊢

theorem setStore_storeTold (s : State) (x : Store) : s.StoreTold (s.setStore x) where
  causes := causesTold_refl s
  others _ _ := rfl
  cut := rfl
  within := noticesWithin_refl s _
  port _ := portChanges_of_ports _ rfl
  blocks b hb := by cases b <;> simp [Block.Same] at hb ⊢

/-- A store set beforehand is no part of what is told. -/
theorem State.StoreTold.of_setStore {x : Store} (h : (s.setStore x).StoreTold t) : s.StoreTold t where
  causes := h.causes
  others := h.others
  cut := h.cut
  within := h.within
  port := h.port
  blocks := changes_trans (setStore_storeTold s x).blocks h.blocks

theorem State.StoreMoved.storeTold (h : s.StoreMoved t) : s.StoreTold t := by
  obtain ⟨x, -, -, rfl | rfl⟩ := h
  · exact setStore_storeTold s x
  · exact (storeFault_storeTold (s.setStore x)).of_setStore

/-- A store that entered fault was told so, one without fault before it (R157). -/
theorem State.StoreMoved.faultTold (h : s.StoreMoved t) (hf : s.store.fault = false) : s.FaultTold t := by
  obtain ⟨x, hx, -, rfl | rfl⟩ := h
  · refine ⟨?_, fun p => ?_⟩
    · simp [hx]
    · simp [hx]
  · refine ⟨?_, fun p => ?_⟩
    · rw [storeFault_causeActive]
      simp [hf]
    · simp [hf]

/-- Without an entry into fault nothing but the store has changed. -/
theorem State.StoreMoved.quiet (h : s.StoreMoved t) (hf : t.store.fault = false) : t = s.setStore t.store := by
  obtain ⟨x, -, -, rfl | rfl⟩ := h
  · rfl
  · simp at hf

theorem faultTold_refl (s : State) : s.FaultTold s := by
  refine ⟨?_, fun p => ?_⟩ <;> cases s.store.fault <;> simp

theorem requestCheckpoint_faultTold (s : State) : s.FaultTold s.requestCheckpoint := by
  cases hf : s.store.fault with
  | true =>
    rw [State.requestCheckpoint, if_pos hf]
    exact faultTold_refl s
  | false => exact (storeMoved_requestCheckpoint s).faultTold hf

theorem requestCheckpoint_storeTold (s : State) : s.StoreTold s.requestCheckpoint :=
  (storeMoved_requestCheckpoint s).storeTold

/-! ### The timers whose end changes little (R52, R105, R151) -/

theorem slipExpiry_of_running {e : Nat} (hr : s.rc.runState ≠ .selfCheck) (h : s.cut.slipTimer = .running e) :
    s.slipExpiry = some e := by
  simp [State.slipExpiry, hr, h]

theorem slipExpiry_none (h : s.rc.runState = .selfCheck ∨ s.cut.slipTimer = .idle ∨ s.cut.slipTimer = .expired) :
    s.slipExpiry = none := by
  obtain h | h | h := h <;> simp [State.slipExpiry, h]

/-- A timer that is stopped brings nothing about. -/
theorem next_timed_none {timer : Option Nat} (h : timer = none) (effect : State → State) :
    Host.Outcome.next (s.timed timer effect) = (Host.Outcome.next s : Host.Outcome State Fault Refusal) := by
  rw [h, timed_of_none]

/-- A timer that is due brings its effect about at its time, or late. -/
theorem next_timed_due {timer : Option Nat} {due : Nat} (hrun : s.running = true) (h : timer = some due)
    (effect : State → State) : Host.Outcome.next (s.timed timer effect) =
      (Host.Outcome.next (effect (s.setNow (max s.now due))) : Host.Outcome State Fault Refusal) :=
  congrArg _ (timed_of_due hrun h effect)

/-- The state that an expiry of the periodic timer requests its checkpoint in. -/
def State.periodicSet (s : State) : State :=
  s.setStore { s.store with timer := some (s.now + s.rc.applied.tCheckpoint * 1000) }

theorem periodicExpiry_eq (s : State) : s.periodicExpiry = s.periodicSet.requestCheckpoint := rfl

/-- Settles O48: each timer by the operation of its end, the periodic one by the request it makes. -/
theorem timersRunOut : Obligations.TimersRunOut := by
  intro s hrun
  refine ⟨fun e hr hslip => ?_, fun h => next_timed_none (slipExpiry_none h) _, fun g e hg => ?_,
    fun g hg => next_timed_none hg _, fun e he => ?_, fun h => next_timed_none h _⟩
  · refine ⟨_, next_timed_due hrun (slipExpiry_of_running hr hslip) _, rfl, rfl, fun b hb => ?_⟩
    cases b <;> simp [Block.Same] at hb ⊢
  · refine ⟨_, next_timed_due hrun hg fun u => u, rfl, fun b hb => ?_⟩
    cases b <;> simp [Block.Same] at hb ⊢
  · refine ⟨_, next_timed_due hrun he State.periodicExpiry, ?_⟩
    generalize hn : max s.now e = n
    have hnow : (s.setNow n).periodicExpiry.now = n := by simp [State.periodicExpiry]
    have htold := requestCheckpoint_storeTold (s.setNow n).periodicSet
    have hrequested := requestCheckpoint_requested (s.setNow n).periodicSet
    have hfault := requestCheckpoint_faultTold (s.setNow n).periodicSet
    rw [hnow]
    refine ⟨rfl, hrequested, hfault, htold.others, htold.cut, htold.causes, htold.within, htold.port, fun b hb => ?_⟩
    have hset : Changes [.clock, .store, .cutback, .ports] s (s.setNow n).periodicSet := by
      intro b hb
      cases b <;> simp [Block.Same, State.periodicSet] at hb ⊢
    exact changes_trans hset (changes_mono htold.blocks (List.subset_cons_self _ _)) b hb

/-! ### SAVE_WEAR (R152) -/

theorem requestSaveWear_fault (p : Port) (h : s.store.fault = true) : s.requestSaveWear p = (s, .state 12) := by
  simp [State.requestSaveWear, h]

theorem requestSaveWear_merged (p : Port) (hf : s.store.fault = false) (hp : s.store.phase ≠ .idle) :
    s.requestSaveWear p =
      (s.setStore { s.store with pendingFlag := true, waiting := s.store.waiting.set p true }, .ok 1#16) := by
  simp [State.requestSaveWear, hf, hp]

/-- The state that a SAVE_WEAR begins its checkpoint in: its port will be told. -/
def State.notifying (s : State) (p : Port) : State :=
  s.setStore { s.store with current := s.store.current.set p true }

theorem requestSaveWear_taken (p : Port) (hf : s.store.fault = false) (hp : s.store.phase = .idle) :
    s.requestSaveWear p = ((s.notifying p).startCheckpoint, .ok 0#16) := by
  simp [State.requestSaveWear, State.notifying, hf, hp]

/-! ### A request whose effect is known -/

/-- A request that is taken: its answer, and the state after its effect with the response made ready. -/
theorem exec_request_taken {p : Port} {effect : State → State × Reply} {v : State} {r : Reply} (hl : s.Listening)
    (he : effect (s.modPort p PortState.shiftOut) = (v, r))
    (hout : (v.ports.get p).dataOut = some (s.ports.get p).response.frame) :
    s.request p effect = .next (v.respond p 4#4 r) ∧ Answered s (v.respond p 4#4 r) p 4#4 r.result r.payload := by
  refine ⟨?_, answered_respond _ _ hout⟩
  rw [request_of_listening s hl, he]

theorem shiftOut_dataOut (s : State) (p : Port) :
    ((s.modPort p PortState.shiftOut).ports.get p).dataOut = some (s.ports.get p).response.frame := by
  simp [PortState.shiftOut]

/-- What an effect leaves of the blocks is left by its request, the ports being among those that change. -/
theorem changes_respond {l : List Block} {p : Port} (c : BitVec 4) (r : Reply) (hports : .ports ∈ l)
    (h : Changes l (s.modPort p PortState.shiftOut) u) : Changes l s (u.respond p c r) := by
  have hout : Changes l s (s.modPort p PortState.shiftOut) := by
    intro b hb
    have hne : b ≠ .ports := fun e => hb (e ▸ hports)
    cases b <;> simp [Block.Same] at hne ⊢
  have hin : Changes l u (u.respond p c r) := by
    intro b hb
    have hne : b ≠ .ports := fun e => hb (e ▸ hports)
    cases b <;> simp [Block.Same] at hne ⊢
  exact changes_trans (changes_trans hout h) hin

/-- An effect without a part at the ports leaves them as they were but for the frame. -/
theorem ports_respond_of_same {p : Port} (c : BitVec 4) (r : Reply)
    (h : u.ports = (s.modPort p PortState.shiftOut).ports) :
    OtherPortsSame s (u.respond p c r) p ∧ PortChanges [.frame] s (u.respond p c r) p := by
  refine ⟨fun q hq => ?_, fun f hf => ?_⟩
  · simp [State.respond, hq, h]
  · cases f <;> simp [PortField.Same, h, PortState.shiftOut] at hf ⊢

theorem faultTold_respond {p : Port} (c : BitVec 4) (r : Reply) (h : (s.modPort p PortState.shiftOut).FaultTold u) :
    s.FaultTold (u.respond p c r) := by
  obtain ⟨hcause, hnotice⟩ := h
  refine ⟨hcause, fun q => ?_⟩
  rw [respond_hasNotice, hnotice q, shiftOut_hasNotice]
  rfl

/-- Settles O37: the three answers of SAVE_WEAR, and the checkpoint begun by the third. -/
theorem saveWearRequestsCheckpoint : Obligations.SaveWearRequestsCheckpoint := by
  intro p s hl
  refine ⟨fun hf => ?fault, fun hf hp => ?merged, fun hf hp => ?taken⟩
  case fault => exact request_noEffect (effect := fun t => t.requestSaveWear p) hl (requestSaveWear_fault p hf)
  case merged =>
    obtain ⟨hexec, hanswer⟩ := exec_request_taken (effect := fun t => t.requestSaveWear p) hl
      (requestSaveWear_merged (s := s.modPort p PortState.shiftOut) p hf hp) (shiftOut_dataOut s p)
    obtain ⟨hothers, hport⟩ := ports_respond_of_same (s := s) 4#4 (.ok 1#16) (u := (s.modPort p PortState.shiftOut).setStore
      { s.store with pendingFlag := true, waiting := s.store.waiting.set p true }) rfl
    refine ⟨_, hexec, hanswer, rfl, fun b hb => ?_, hothers, hport⟩
    cases b <;> simp [Block.Same] at hb ⊢
  case taken =>
    have hmoved := storeMoved_startCheckpoint ((s.modPort p PortState.shiftOut).notifying p)
    have htold := hmoved.storeTold.of_setStore
    obtain ⟨hexec, hanswer⟩ := exec_request_taken (effect := fun t => t.requestSaveWear p) hl
      (requestSaveWear_taken (s := s.modPort p PortState.shiftOut) p hf hp)
      (by simpa [State.notifying] using shiftOut_dataOut s p)
    refine ⟨_, hexec, hanswer, startCheckpoint_started ((s.modPort p PortState.shiftOut).notifying p),
      faultTold_respond _ _ (hmoved.faultTold hf), htold.others, htold.cut,
      causesTold_respond _ _ htold.causes, noticesWithin_respond _ _ htold.within,
      portsChange_respond _ _ htold.port, fun hok => ?_, changes_respond _ _ (by simp) htold.blocks⟩
    have hquiet := hmoved.quiet hok
    have hports : ((s.modPort p PortState.shiftOut).notifying p).startCheckpoint.ports =
        (s.modPort p PortState.shiftOut).ports := by
      rw [hquiet]
      rfl
    obtain ⟨hothers, hport⟩ := ports_respond_of_same (s := s) (p := p) 4#4 (.ok 0#16) hports
    refine ⟨changes_respond _ _ (by simp) ?_, hothers, hport⟩
    rw [hquiet]
    intro b hb
    cases b <;> simp [Block.Same, State.notifying] at hb ⊢

end Sys2Proof.Machine
end

section
/-! PROOFS. The statements about the end of a record write and the end of an erase (R149, R154 to R157). -/

namespace Sys2Proof.Machine

variable {s t u : State} {x : Store}

/-! ### The attempt of a write (R156) -/

theorem writeAttempt_some {n : Nat} (h : (nextSequence s.store.lastUsed s.store.recordTotals).1 = some n) :
    s.writeAttempt = s.setStore { s.store with
      phase := .writing, attempts := s.store.attempts + 1, lastUsed := n, endAt := some (s.now + 20) } := by
  have hpair : nextSequence s.store.lastUsed s.store.recordTotals =
      (some n, (nextSequence s.store.lastUsed s.store.recordTotals).2) := by rw [← h]
  unfold State.writeAttempt
  rw [hpair]
  rfl

theorem writeAttempt_none (h : (nextSequence s.store.lastUsed s.store.recordTotals).1 = none) :
    s.writeAttempt =
      (s.setStore { s.store with lastUsed := (nextSequence s.store.lastUsed s.store.recordTotals).2 }).storeFault := by
  have hpair : nextSequence s.store.lastUsed s.store.recordTotals =
      (none, (nextSequence s.store.lastUsed s.store.recordTotals).2) := by rw [← h]
  unfold State.writeAttempt
  rw [hpair]

/-- An attempt for which no number is left is an entry into fault (R156, R157). -/
theorem writeAttempt_failed (h : (nextSequence s.store.lastUsed s.store.recordTotals).1 = none) :
    s.store.Failed s.writeAttempt (nextSequence s.store.lastUsed s.store.recordTotals).2 := by
  rw [writeAttempt_none h]
  exact storeFault_failed _

@[simp] theorem writeAttempt_journal (s : State) : s.writeAttempt.store.journal = s.store.journal := by
  cases h : (nextSequence s.store.lastUsed s.store.recordTotals).1 with
  | some n => simp [writeAttempt_some h]
  | none => simp [writeAttempt_none h]

@[simp] theorem writeOrErase_journal (s : State) : s.writeOrErase.store.journal = s.store.journal := by
  unfold State.writeOrErase
  split_ifs <;> simp

@[simp] theorem startCheckpoint_journal (s : State) : s.startCheckpoint.store.journal = s.store.journal := by
  simp [State.startCheckpoint]

@[simp] theorem endCheckpoint_journal (s : State) : s.endCheckpoint.store.journal = s.store.journal := by
  unfold State.endCheckpoint
  dsimp only
  split_ifs <;> simp

@[simp] theorem verifyErase_journal (s : State) (f : CellFaults) :
    (s.verifyErase f).store.journal = (s.store.erased f).journal := by
  rw [verifyErase_eq]
  split_ifs <;> simp

@[simp] theorem verifyWrite_journal (s : State) (f : CellFaults) :
    (s.verifyWrite f).store.journal = (s.store.written f).journal := by
  rw [verifyWrite_eq]
  split_ifs <;> simp

/-! ### Words with those of failing cells in their place -/

theorem withFaults_getD (f : CellFaults) (ws : List Word) {k : Nat} (d : Word) (h : ∀ c ∈ f, c.1 ≠ k) :
    (withFaults f ws).getD k d = ws.getD k d := by
  have hnone : f.find? (fun c => c.1 == k) = none := List.find?_eq_none.mpr fun c hc => by simpa using h c hc
  simp only [withFaults, List.getD_eq_getElem?_getD, List.getElem?_map, List.getElem?_zipIdx, Nat.zero_add, Option.map_map]
  cases hw : ws[k]? with
  | none => rfl
  | some w => simp [hnone]

/-! ### The erase of a segment (R155) -/

theorem erased_read_outside (x : Store) (f : CellFaults) {b : Nat}
    (hb : b < x.active.other.base ∨ x.active.other.base + 416 ≤ b) : (x.erased f).journal.read b = x.journal.read b := by
  simp only [Store.erased]
  rw [Memory.read_writeList_outside]
  · exact Memory.read_erase_outside _ hb
  ·   rwa [withFaults_length, List.length_replicate]

theorem erased_read_inside (f : CellFaults) {k : Nat} (hwf : x.journal.wf = true) (hk : k < 416)
    (hf : ∀ c ∈ f, c.1 ≠ k) : (x.erased f).journal.read (x.active.other.base + k) = 0xFFFF#16 := by
  have hlen : k < (withFaults f (List.replicate Config.segmentWords Config.erasedWord)).length := by
    rwa [withFaults_length, List.length_replicate]
  simp only [Store.erased]
  rw [Memory.read_writeList_inside _ _ k 0#16 (Memory.erase_wf _ _ hwf) hlen, withFaults_getD _ _ _ hf,
    List.getD_eq_getElem?_getD, List.getElem?_replicate]
  have hk' : k < Config.segmentWords := hk
  rw [if_pos hk']
  rfl

/-- Of the store an erase reaches the journal and the mark of the segment. -/
theorem erased_eq (x : Store) (f : CellFaults) : x.erased f =
    { x with journal := (x.erased f).journal, cutErase := x.cutErase.set x.active.other false } := by
  simp only [Store.erased]

theorem readList_eq_replicate_iff (m : Memory) (a n : Nat) (w : Word) :
    m.readList a n = List.replicate n w ↔ ∀ k, k < n → m.read (a + k) = w := by
  simp [List.eq_replicate_iff, Memory.readList]

/-- Settles O50: an erase verified goes on with the checkpoint's write, one that failed is an entry into fault. -/
theorem eraseEnded : Obligations.EraseEnded := by
  intro f d s hrun hphase hend
  have hdue : s.eraseEnd = some d := by simp [State.eraseEnd, hphase, hend]
  refine ⟨_, next_timed_due hrun hdue fun t => t.verifyErase f, ?_⟩
  generalize max s.now d = n
  have hmoved := storeMoved_verifyErase (s.setNow n) f
  have htold := hmoved.storeTold
  have hclock : Changes [.clock, .cutback, .store, .ports] s (s.setNow n) := by
    intro b hb
    cases b <;> simp [Block.Same] at hb ⊢
  have hblocks : Changes [.clock, .cutback, .store, .ports] s ((s.setNow n).verifyErase f) :=
    changes_trans hclock (changes_mono htold.blocks (by simp))
  have hmatch : (∀ k, k < 416 → (s.store.erased f).journal.read (s.store.active.other.base + k) = 0xFFFF#16) →
      (s.setNow n).verifyErase f =
        ((s.setNow n).setStore { s.store.erased f with active := s.store.active.other, pos := 0 }).writeAttempt := by
    intro h
    rw [verifyErase_eq]
    exact if_pos ((readList_eq_replicate_iff _ _ _ _).mpr h)
  have hbad : (∃ k, k < 416 ∧ (s.store.erased f).journal.read (s.store.active.other.base + k) ≠ 0xFFFF#16) →
      (s.setNow n).verifyErase f = ((s.setNow n).setStore (s.store.erased f)).storeFault := by
    rintro ⟨k, hk, hne⟩
    rw [verifyErase_eq]
    exact if_neg fun h => hne ((readList_eq_replicate_iff _ _ _ _).mp h k hk)
  have houtside := fun b => erased_read_outside s.store f (b := b)
  have hinside := fun (hwf : s.JournalCanonical) k => erased_read_inside (x := s.store) f (k := k) hwf
  have hjournal : ((s.setNow n).verifyErase f).store.journal = (s.store.erased f).journal := verifyErase_journal _ f
  dsimp only
  rw [hjournal]
  rw [erased_eq] at hmatch hbad
  generalize (s.store.erased f).journal = m at *
  refine ⟨houtside, hinside, ⟨fun hread => ?_, fun hread => ?_⟩, fun hf => hmoved.faultTold hf, htold.others, htold.cut,
    htold.causes, htold.within, htold.port, hblocks .wear (by simp), hblocks⟩
  · rw [hmatch hread]
    refine ⟨fun k hk => ?_, fun hk => writeAttempt_failed (s := (s.setNow n).setStore _) hk⟩
    have hsome := writeAttempt_some (s := (s.setNow n).setStore { s.store with
      journal := m, cutErase := s.store.cutErase.set s.store.active.other false
      active := s.store.active.other, pos := 0 }) hk
    dsimp only at hsome ⊢
    rw [hsome]
    refine ⟨rfl, fun b hb => ?_⟩
    cases b <;> simp [Block.Same] at hb ⊢
  · rw [hbad hread]
    exact storeFault_failed ((s.setNow n).setStore _)

/-! ### A record and its number (R149, R156) -/

theorem twoWords_of_words {a b : Word} {n : Nat} (ha : a = highWord n) (hb : b = lowWord n) (hn : n ≤ 4294967295) :
    TwoWords (some a) (some b) n := by
  subst ha hb
  refine ⟨_, _, rfl, rfl, ?_⟩
  simp only [highWord, lowWord, BitVec.toNat_ofNat]
  omega

theorem journalRecord_totals (n : Nat) (totals : PerItem Nat) {k : Nat} {item : WearItem}
    (h : itemOfNumber k = some item) (hle : totals.get item ≤ 4294967295) :
    TwoWords (journalRecord n totals)[2 + 2 * k]? (journalRecord n totals)[3 + 2 * k]? (totals.get item) := by
  match k, h with
  | 0, h => cases h; exact twoWords_of_words rfl rfl hle
  | 1, h => cases h; exact twoWords_of_words rfl rfl hle
  | 2, h => cases h; exact twoWords_of_words rfl rfl hle
  | 3, h => cases h; exact twoWords_of_words rfl rfl hle
  | 4, h => cases h; exact twoWords_of_words rfl rfl hle
  | k + 5, h => cases h

theorem journalRecord_crc (n : Nat) (totals : PerItem Nat) :
    (journalRecord n totals)[12]? = some (crc (recordBody n totals)) := rfl

theorem journalRecord_body (n : Nat) (totals : PerItem Nat) : (journalRecord n totals).take 12 = recordBody n totals := rfl

/-- The number of an attempt: the next one, but for one whose CRC would read as erased (R156; entry 32). -/
theorem nextSequence_cases (used : Nat) (totals : PerItem Nat) :
    let bad := (journalRecord (used + 1) totals)[12]? = some 0xFFFF#16
    (4294967294 ≤ used → nextSequence used totals = (none, used)) ∧
    (used < 4294967294 → ¬ bad → nextSequence used totals = (some (used + 1), used + 1)) ∧
    (used < 4294967293 → bad → nextSequence used totals = (some (used + 2), used + 2)) ∧
    (used = 4294967293 → bad → nextSequence used totals = (none, 4294967294)) := by
  have hbad : (journalRecord (used + 1) totals)[12]? = some 0xFFFF#16 ↔
      crc (recordBody (used + 1) totals) = Config.erasedWord := by
    rw [journalRecord_crc, Option.some.injEq]
    rfl
  dsimp only
  rw [hbad]
  unfold nextSequence
  have hleft : ∀ k, k < 4294967294 → ¬ Config.lastSequence ≤ k := fun k hk => Nat.not_le.mpr hk
  refine ⟨fun h => if_pos h, fun h hb => ?_, fun h hb => ?_, fun h hb => ?_⟩
  · rw [if_neg (hleft used h), if_neg hb]
  · have hnext : used + 1 < 4294967294 := by omega
    rw [if_neg (hleft used (by omega)), if_pos hb, if_neg (hleft (used + 1) hnext)]
  · subst h
    have hlast : Config.lastSequence ≤ 4294967293 + 1 := Nat.le_refl 4294967294
    rw [if_neg (hleft _ (by omega)), if_pos hb, if_pos hlast]

/-! ### The end of a record write (R156) -/

@[simp] theorem noticeTo_hasNotice (s : State) (k j : NoticeKind) (ports : PerPort Bool) (p : Port) :
    ((s.noticeTo k ports).ports.get p).hasNotice j = ((s.ports.get p).hasNotice j || (ports.get p && decide (j = k))) := by
  simp only [State.noticeTo, setPorts_ports, get_mapWith]
  cases ports.get p with
  | false => simp
  | true => simp [PortState.hasNotice, PortState.addNotice, BitVec.getLsbD_or, noticeBit_has]

/-- Of the store a record write reaches the journal and the write position. -/
theorem written_eq (x : Store) (f : CellFaults) : x.written f =
    { x with journal := (x.written f).journal, pos := x.pos + 1 } := by
  simp only [Store.written]

/-- A checkpoint that has nothing pending ends with an idle store; a pending one begins (R154). -/
theorem endCheckpoint_done (h : s.store.pendingFlag = false) : s.endCheckpoint =
    s.setStore { s.store with phase := .idle, record := none, attempts := 0, endAt := none, current := noPorts } := by
  simp [State.endCheckpoint, h]

theorem endCheckpoint_pending (h : s.store.pendingFlag = true) : s.endCheckpoint =
    (s.setStore { s.store with
      phase := .idle, record := none, attempts := 0, endAt := none, pendingFlag := false, current := s.store.waiting
      waiting := noPorts }).startCheckpoint := by
  simp [State.endCheckpoint, h, setStore_setStore]

theorem writeOrErase_write (h : s.store.pos < 32) : s.writeOrErase = s.writeAttempt := if_pos h

theorem writeOrErase_erase (h : 32 ≤ s.store.pos) : s.writeOrErase =
    s.setStore { s.store with phase := .erasing, endAt := some (s.now + 150) } := if_neg (Nat.not_lt.mpr h)

/-- What is told where CHECKPOINT_DONE goes to some ports first. -/
structure State.WriteTold (s t : State) : Prop where
  fault : s.store.fault = false → s.FaultTold t
  causes : s.CausesTold t
  others : ∀ c, c ≠ .wearStoreFault → t.causeActive c = s.causeActive c
  cut : t.cut = { s.cut with live := t.cut.live }
  within : State.NoticesWithin [.checkpointDone, .cutbackChange, .storeFault] s t
  port : ∀ q, PortChanges [.notices, .latch] s t q
  blocks : Changes [.store, .cutback, .ports] s t

theorem State.StoreMoved.writeTold (h : s.StoreMoved t) : s.WriteTold t where
  fault hf := h.faultTold hf
  causes := h.storeTold.causes
  others := h.storeTold.others
  cut := h.storeTold.cut
  within := noticesWithin_mono h.storeTold.within (List.subset_cons_self _ _)
  port := h.storeTold.port
  blocks := h.storeTold.blocks

/-- A store that has moved after CHECKPOINT_DONE went to some ports. -/
theorem State.StoreMoved.writeTold_of_noticed {ports : PerPort Bool}
    (h : (s.noticeTo .checkpointDone ports).StoreMoved t) : s.WriteTold t := by
  have hwithin : State.NoticesWithin [.checkpointDone, .cutbackChange, .storeFault] s (s.noticeTo .checkpointDone ports) :=
    noticesWithin_of_added (by simp) fun p j => noticeTo_hasNotice s .checkpointDone j ports p
  have hport : ∀ q, PortChanges [.notices, .latch] s (s.noticeTo .checkpointDone ports) q := by
    intro q f hf
    cases f <;> simp [PortField.Same] at hf ⊢
  have hblocks : Changes [.store, .cutback, .ports] s (s.noticeTo .checkpointDone ports) := by
    intro b hb
    cases b <;> simp [Block.Same] at hb ⊢
  have hsame : s.SameCauses (s.noticeTo .checkpointDone ports) := ⟨by simp, fun p => ⟨by simp, by simp⟩⟩
  have htold := h.writeTold
  refine ⟨fun hf => ?_, hsame.trans_told htold.causes, fun c hc => ?_, ?_, noticesWithin_trans hwithin htold.within,
    fun q => portChanges_trans (hport q) (htold.port q), changes_trans hblocks htold.blocks⟩
  · obtain ⟨hcause, hnotice⟩ := htold.fault (by simpa using hf)
    exact ⟨by simpa using hcause, fun p => by simpa using hnotice p⟩
  · simpa using htold.others c hc
  · simpa using htold.cut

/-- What is told does not depend on the store's fields but its fault. -/
theorem State.WriteTold.of_setStore {x : Store} (h : (s.setStore x).WriteTold t) (hx : x.fault = s.store.fault) :
    s.WriteTold t where
  fault hf := by
    obtain ⟨hcause, hnotice⟩ := h.fault (hx.trans hf)
    simp only [setStore_store, hx] at hcause hnotice
    exact ⟨hcause, hnotice⟩
  causes := h.causes
  others := h.others
  cut := h.cut
  within := h.within
  port := h.port
  blocks := changes_trans (setStore_storeTold s x).blocks h.blocks

theorem verifyWrite_writeTold (s : State) (f : CellFaults) : s.WriteTold (s.verifyWrite f) := by
  obtain ⟨x, ports, hx, -, h | h⟩ := storeMoved_verifyWrite s f
  · exact State.WriteTold.of_setStore h.writeTold_of_noticed hx
  · exact State.WriteTold.of_setStore h.writeTold hx

/-- CHECKPOINT_DONE is no notice of a store that moves. -/
theorem State.StoreMoved.checkpointDone (h : s.StoreMoved t) (q : Port) :
    (t.ports.get q).hasNotice .checkpointDone = (s.ports.get q).hasNotice .checkpointDone :=
  (h.storeTold.within q .checkpointDone).2 (by simp)

/-- The state in which a record that was read back right ends its checkpoint. -/
def State.recordVerified (s : State) (m : Memory) : State :=
  (s.setStore { s.store with journal := m, pos := s.store.pos + 1, lastVerified := s.store.lastUsed }).noticeTo
    .checkpointDone s.store.current

/-- The state in which a record that was read back wrong is tried again, or given up. -/
def State.recordSpent (s : State) (m : Memory) : State :=
  s.setStore { s.store with journal := m, pos := s.store.pos + 1 }

/-- The end of a record write, by what was read back. -/
theorem verifyWrite_cases (s : State) (f : CellFaults) :
    let m := (s.store.written f).journal
    let read := m.readList (slotAddress s.store.active s.store.pos) 13
    (read = s.store.intended → s.verifyWrite f = (s.recordVerified m).endCheckpoint) ∧
    (read ≠ s.store.intended → s.store.attempts < 3 → s.verifyWrite f = (s.recordSpent m).writeOrErase) ∧
    (read ≠ s.store.intended → 3 ≤ s.store.attempts → s.verifyWrite f = (s.recordSpent m).storeFault) := by
  dsimp only
  rw [verifyWrite_eq, written_eq]
  refine ⟨fun h => if_pos h, fun h ha => ?_, fun h ha => ?_⟩
  · rw [if_neg (by exact h), if_pos ha]
    rfl
  · rw [if_neg (by exact h), if_neg (Nat.not_lt.mpr ha)]
    rfl

/-- Settles O49: a record read back right ends its checkpoint; one read back wrong is tried again, after an erase where the
segment is full, and given up after the third attempt. -/
theorem writeVerified : Obligations.WriteVerified := by
  refine ⟨fun n totals => ⟨rfl, fun hn => twoWords_of_words rfl rfl hn, fun k item => journalRecord_totals n totals,
    ?_⟩, fun x totals h => ⟨by simp [Store.recordTotals, h], by simp [Store.intended, Store.recordTotals, h]⟩,
    nextSequence_cases, fun f d s hrun hphase hend => ?_⟩
  · rw [journalRecord_crc, journalRecord_body, crc_eq_serialCrc]
  have hdue : s.writeEnd = some d := by simp [State.writeEnd, hphase, hend]
  refine ⟨_, next_timed_due hrun hdue fun t => t.verifyWrite f, ?_⟩
  generalize max s.now d = n
  have htold := verifyWrite_writeTold (s.setNow n) f
  have hclock : Changes [.clock, .cutback, .store, .ports] s (s.setNow n) := by
    intro b hb
    cases b <;> simp [Block.Same] at hb ⊢
  have hblocks : Changes [.clock, .cutback, .store, .ports] s ((s.setNow n).verifyWrite f) :=
    changes_trans hclock (changes_mono htold.blocks (by simp))
  obtain ⟨hverified, hspent, hgiven⟩ := verifyWrite_cases (s.setNow n) f
  have houtside : ∀ b, b < slotAddress s.store.active s.store.pos ∨ slotAddress s.store.active s.store.pos + 13 ≤ b →
      (s.store.written f).journal.read b = s.store.journal.read b :=
    fun b hb => Store.journalWritten_outside s.store f (Nat.le_refl 13) hb
  have hinside : f = [] → s.JournalCanonical → ∀ k, k < 13 →
      (s.store.written f).journal.read (slotAddress s.store.active s.store.pos + k) =
        s.store.intended.getD k 0#16 &&& s.store.journal.read (slotAddress s.store.active s.store.pos + k) := by
    intro hf hwf k hk
    subst hf
    exact Store.journalWritten_inside (Nat.le_refl 13) hk hwf
  have hjournal : ((s.setNow n).verifyWrite f).store.journal = (s.store.written f).journal := verifyWrite_journal _ f
  dsimp only [setNow_store] at hverified hspent hgiven ⊢
  rw [hjournal]
  generalize (s.store.written f).journal = m at *
  refine ⟨houtside, hinside, fun hread => ?_, fun hread => ?_, htold.fault, htold.others, htold.cut, htold.causes,
    htold.within, htold.port, hblocks .wear (by simp), hblocks⟩
  · rw [hverified hread]
    have hmoved := storeMoved_endCheckpoint ((s.setNow n).recordVerified m)
    refine ⟨fun q hq => ?_, fun q hq => ?_, fun hpending => ?_, fun hpending => ?_⟩
    · rw [hmoved.checkpointDone]
      simp [State.recordVerified, hq]
    · rw [hmoved.checkpointDone]
      simp [State.recordVerified, hq]
    · rw [endCheckpoint_done (s := (s.setNow n).recordVerified m) hpending]
      refine ⟨rfl, fun b hb => ?_⟩
      cases b <;> simp [Block.Same, State.recordVerified] at hb ⊢
    · have hstarted := startCheckpoint_started (((s.setNow n).recordVerified m).setStore
        { ((s.setNow n).recordVerified m).store with
          phase := .idle, record := none, attempts := 0, endAt := none, pendingFlag := false
          current := ((s.setNow n).recordVerified m).store.waiting, waiting := noPorts })
      rw [endCheckpoint_pending (s := (s.setNow n).recordVerified m) hpending]
      have hnow : ∀ x : Store, (((s.setNow n).recordVerified m).setStore x).startCheckpoint.now = n := by
        intro x
        simp [State.recordVerified]
      rw [hnow]
      exact hstarted
  · refine ⟨fun q => ?_, fun ha hpos k hk => ?_, fun ha hpos hk => ?_, fun ha hpos => ?_, fun ha => ?_⟩
    · by_cases ha : s.store.attempts < 3
      · rw [hspent hread ha]
        exact (storeMoved_writeOrErase ((s.setNow n).recordSpent m)).checkpointDone q
      · rw [hgiven hread (Nat.le_of_not_lt ha)]
        exact (storeMoved_storeFault ((s.setNow n).recordSpent m)).checkpointDone q
    · rw [hspent hread ha, writeOrErase_write (s := (s.setNow n).recordSpent m) hpos]
      have hsome := writeAttempt_some (s := (s.setNow n).recordSpent m) hk
      rw [hsome]
      simp [State.recordSpent, hphase]
    · rw [hspent hread ha, writeOrErase_write (s := (s.setNow n).recordSpent m) hpos]
      exact writeAttempt_failed (s := (s.setNow n).recordSpent m) hk
    · rw [hspent hread ha, writeOrErase_erase (s := (s.setNow n).recordSpent m) hpos]
      rfl
    · rw [hgiven hread ha]
      exact storeFault_failed ((s.setNow n).recordSpent m)

end Sys2Proof.Machine
end

section
/-! PROOFS. The statement about totals that outlive a power failure (R148, R149, R156, R158, R159). -/

namespace Sys2Proof.Machine

variable {m m' : Memory} {c : SegmentFlags} {g : Segment} {j n : Nat} {totals : PerItem Nat}

/-! ### The slot that holds a record -/

theorem slotView_words_eq (m : Memory) (c : SegmentFlags) (g : Segment) (j : Nat) :
    (slotView m c g j).words = m.readList (slotAddress g j) 13 := rfl

theorem twoWords_halves (h : n ≤ 4294967295) : twoWords (highWord n) (lowWord n) = n := by
  simp only [twoWords, highWord, lowWord, BitVec.toNat_ofNat]
  omega

theorem slotView_sequence (hw : m.readList (slotAddress g j) 13 = journalRecord n totals) (hn : n ≤ 4294967295) :
    (slotView m c g j).sequence = n := by
  have hwords : (slotView m c g j).words = journalRecord n totals := hw
  rw [SlotView.sequence, hwords]
  exact twoWords_halves hn

theorem slotView_totals_eq (hw : m.readList (slotAddress g j) 13 = journalRecord n totals)
    (ht : ∀ item, totals.get item ≤ 4294967295) : (slotView m c g j).totals = totals := by
  have hwords : (slotView m c g j).words = journalRecord n totals := hw
  obtain ⟨x0, x1, x2, x3, x4⟩ := totals
  rw [SlotView.totals, hwords]
  show PerItem.mk (twoWords (highWord x0) (lowWord x0)) (twoWords (highWord x1) (lowWord x1))
    (twoWords (highWord x2) (lowWord x2)) (twoWords (highWord x3) (lowWord x3)) (twoWords (highWord x4) (lowWord x4)) = _
  have h0 : twoWords (highWord x0) (lowWord x0) = x0 := twoWords_halves (ht .liningFront)
  have h1 : twoWords (highWord x1) (lowWord x1) = x1 := twoWords_halves (ht .liningMid)
  have h2 : twoWords (highWord x2) (lowWord x2) = x2 := twoWords_halves (ht .liningRear)
  have h3 : twoWords (highWord x3) (lowWord x3) = x3 := twoWords_halves (ht .battery)
  have h4 : twoWords (highWord x4) (lowWord x4) = x4 := twoWords_halves (ht .gensetStarts)
  rw [h0, h1, h2, h3, h4]

/-- A slot that holds a whole record is neither free nor without a right CRC. -/
theorem slotView_record_valid (hw : m.readList (slotAddress g j) 13 = journalRecord n totals) (hcut : c.get g = false)
    (hcrc : crc (recordBody n totals) ≠ 0xFFFF#16) : (slotView m c g j).valid = true := by
  have hwords : (slotView m c g j).words = journalRecord n totals := hw
  have hlast : (slotView m c g j).words[12]? = some (crc (recordBody n totals)) := by
    rw [hwords]
    exact journalRecord_crc n totals
  have hfree : (slotView m c g j).free = false := by
    rw [Bool.eq_false_iff, ne_eq, slotView_free]
    rintro ⟨-, hall⟩
    exact hcrc (hall _ (List.mem_of_getElem? hlast))
  refine (slotView_valid m c g j).mpr ⟨hcut, hfree, ?_, ?_⟩
  · rw [hlast, ne_eq, Option.some.injEq]
    exact hcrc
  · rw [hlast, hwords, journalRecord_body, crc_eq_serialCrc]

/-- A write into one slot leaves what the scan sees of every other one. -/
theorem slotView_congr {g' : Segment} {j' : Nat} (hj : j < 32) (hj' : j' < 32) (hne : ¬ (g' = g ∧ j' = j))
    (hout : ∀ b, b < slotAddress g j ∨ slotAddress g j + 13 ≤ b → m'.read b = m.read b) :
    slotView m' c g' j' = slotView m c g' j' := by
  have hwords : m'.readList (slotAddress g' j') 13 = m.readList (slotAddress g' j') 13 := by
    refine Memory.readList_congr fun k hk => hout _ ?_
    simp only [slotAddress, Segment.base, Config.segmentWords, Config.slotWords]
    cases g <;> cases g' <;> simp only [Segment.number, reduceCtorEq, true_and, false_and, not_false_eq_true] at hne ⊢
    all_goals omega
  have hwords' : m'.readList (slotAddress g' j') Config.slotWords = m.readList (slotAddress g' j') Config.slotWords := hwords
  unfold slotView
  rw [hwords']

/-- A record written with the highest number is the newest. -/
theorem newestRecord_written (hj : j < 32) (hcut : c.get g = false)
    (hw : m'.readList (slotAddress g j) 13 = journalRecord n totals)
    (hout : ∀ b, b < slotAddress g j ∨ slotAddress g j + 13 ≤ b → m'.read b = m.read b)
    (hcrc : crc (recordBody n totals) ≠ 0xFFFF#16) (hn : n ≤ 4294967294)
    (hold : ∀ v ∈ scanSlots m c, v.valid = true → v.sequence < n) :
    newestRecord (scanSlots m' c) = some (slotView m' c g j) := by
  have hmem : slotView m' c g j ∈ scanSlots m' c := mem_scanSlots.mpr ⟨g, j, hj, rfl⟩
  have hvalid : (slotView m' c g j).valid = true := slotView_record_valid hw hcut hcrc
  have hseq : (slotView m' c g j).sequence = n := slotView_sequence hw (by omega)
  cases hnew : newestRecord (scanSlots m' c) with
  | none =>
    obtain h | h := newestRecord_none hnew _ hmem
    · exact absurd (h.symm.trans hvalid) Bool.false_ne_true
    · omega
  | some v =>
    obtain ⟨hv, hvv, -, hmax⟩ := newestRecord_some hnew
    have hle : n ≤ v.sequence := hseq ▸ hmax _ hmem hvalid (by omega)
    obtain ⟨g', j', hj', rfl⟩ := mem_scanSlots.mp hv
    by_cases hsame : g' = g ∧ j' = j
    · rw [hsame.1, hsame.2]
    · rw [slotView_congr hj hj' hsame hout] at hvv hle
      have hlt := hold _ (mem_scanSlots.mpr ⟨g', j', hj', rfl⟩) hvv
      omega

/-! ### The write, the failure and the power-on -/

variable {s : State}

/-- Words written where the slot was erased are the words meant. -/
theorem written_intended (hwf : s.JournalCanonical)
    (herased : ∀ k, k < 13 → s.store.journal.read (slotAddress s.store.active s.store.pos + k) = 0xFFFF#16) :
    (s.store.written []).journal.readList (slotAddress s.store.active s.store.pos) 13 = s.store.intended := by
  refine List.ext_getElem? fun k => ?_
  by_cases hk : k < 13
  · have hread := Store.journalWritten_inside (x := s.store) (Nat.le_refl 13) hk hwf
    rw [herased k hk, show (0xFFFF#16 : Word) = BitVec.allOnes 16 from rfl, BitVec.and_allOnes] at hread
    have hintended : k < s.store.intended.length := hk
    rw [Memory.readList, List.getElem?_map, List.getElem?_range hk, Option.map_some]
    refine (congrArg some hread).trans ?_
    rw [List.getD_eq_getElem?_getD, List.getElem?_eq_getElem hintended]
    rfl
  · rw [List.getElem?_eq_none (by rw [Memory.readList_length]; omega),
      List.getElem?_eq_none (by rw [Store.intended_length]; omega)]

/-- An idle store loses nothing with the supply but what is kept in RAM (R159). -/
theorem loseSupply_store_of_idle (cut : WriteCut) (h : s.store.phase = .idle) : (s.loseSupply cut).store =
    { Store.atPowerOn with journal := s.store.journal, cutErase := s.store.cutErase } := by
  simp [State.loseSupply, State.cutStoreOff, h]

/-- The end of the write of a record into an erased slot, nothing else pending. -/
theorem verifyWrite_done (hwf : s.JournalCanonical) (hpending : s.store.pendingFlag = false)
    (herased : ∀ k, k < 13 → s.store.journal.read (slotAddress s.store.active s.store.pos + k) = 0xFFFF#16) :
    (s.verifyWrite []).store = { s.store with
      journal := (s.store.written []).journal, pos := s.store.pos + 1, lastVerified := s.store.lastUsed, phase := .idle
      record := none, attempts := 0, endAt := none, current := noPorts } := by
  obtain ⟨hverified, -, -⟩ := verifyWrite_cases s []
  rw [hverified (written_intended hwf herased),
    endCheckpoint_done (s := s.recordVerified (s.store.written []).journal) hpending]
  simp [State.recordVerified]

/-- Settles O51: the slot written is the newest record of the journal that the failure leaves. -/
theorem savedTotalsOutlivePowerFailure : Obligations.SavedTotalsOutlivePowerFailure := by
  intro straps cut d totals s hrun hphase hend hrecord hwf hpending hpos hcut htotals _ hle hcrc herased hold
  have hdue : s.writeEnd = some d := by simp [State.writeEnd, hphase, hend]
  have hexec : exec (.writeVerify []) s = .next ((s.setNow (max s.now d)).verifyWrite []) :=
    next_timed_due hrun hdue fun t => t.verifyWrite []
  have hdone := verifyWrite_done (s := s.setNow (max s.now d)) hwf hpending herased
  have hpowered : ((s.setNow (max s.now d)).verifyWrite []).powered = true := by
    simpa using (powered_of_running hrun).1
  generalize (s.setNow (max s.now d)).verifyWrite [] = t at hexec hdone hpowered
  have hlost := loseSupply_store_of_idle (s := t) cut (by rw [hdone])
  have hjournal : t.store.journal = (s.store.written []).journal := by
    rw [hdone]
    rfl
  have herase : t.store.cutErase = s.store.cutErase := by rw [hdone]; rfl
  have hintended : s.store.intended = journalRecord s.store.lastUsed totals := by
    simp [Store.intended, Store.recordTotals, hrecord]
  have hwords : (s.store.written []).journal.readList (slotAddress s.store.active s.store.pos) 13 =
      journalRecord s.store.lastUsed totals := (written_intended hwf herased).trans hintended
  have hnew := newestRecord_written hpos hcut hwords
    (fun b hb => Store.journalWritten_outside s.store [] (Nat.le_refl 13) hb) hcrc hle hold
  have hscan : newestRecord (scanSlots (t.loseSupply cut).store.journal (t.loseSupply cut).store.cutErase) =
      some (slotView (s.store.written []).journal s.store.cutErase s.store.active s.store.pos) := by
    rw [hlost, ← hnew]
    dsimp only
    rw [hjournal, herase]
  refine ⟨t, t.loseSupply cut, (t.loseSupply cut).powerUp straps, hexec, by simp [exec, execPowerFailure, hpowered],
    exec_powerOn_of_off straps rfl, by rw [hdone]; rfl, ?_, ?_, fun item => ?_⟩
  · show ((newestRecord (scanSlots _ _)).map SlotView.sequence).getD 0 = _
    rw [hscan]
    exact slotView_sequence hwords (by omega)
  · show ((newestRecord (scanSlots _ _)).map SlotView.segment).getD .seg0 = _
    rw [hscan]
    rfl
  · rw [powerUp_items, Store.restored, hscan]
    show (slotView _ _ _ _).totals.get item = _
    rw [slotView_totals_eq hwords htotals]

end Sys2Proof.Machine
end

section
/-! PROOFS. The statements about POLL, HOLD and BADFRAME, about CURSOR frames and about the advance of the cursors (R180 to
R185). -/

namespace Sys2Proof.Machine

variable {s : State}

/-! ### What a request does to the cursors, and that it is not answered HOLD outside a self-check -/

/-- The effect of a frame leaves the cursors, and outside a self-check it is not answered HOLD. -/
def State.Steady (s : State) (x : State × Reply) : Prop :=
  (∀ q, (x.1.ports.get q).cursors = (s.ports.get q).cursors) ∧ (s.rc.runState ≠ .selfCheck → x.2.result ≠ .hold)

/-- A reply that is no HOLD, the state being one with the same cursors. -/
theorem steady_of_reply {t : State} {r : Reply} (h : ∀ q, (t.ports.get q).cursors = (s.ports.get q).cursors)
    (hr : r.result ≠ .hold) : s.Steady (t, r) := ⟨h, fun _ => hr⟩

/-- A reply to a frame without effect. -/
theorem steady_same {r : Reply} (hr : r.result ≠ .hold) : s.Steady (s, r) := steady_of_reply (fun _ => rfl) hr

theorem steady_held (h : s.rc.runState = .selfCheck) (r : Reply) : s.Steady (s, r) :=
  ⟨fun _ => rfl, fun hne => absurd h hne⟩

theorem steady_requestStandby (p : Port) : s.Steady (s.requestStandby p) := by
  unfold State.requestStandby
  split
  · exact steady_same (by decide)
  · cases hr : s.rc.runState with
    | selfCheck => exact steady_held hr _
    | standby => exact steady_same (by decide)
    | halted =>
      dsimp only
      split_ifs
      · exact steady_of_reply (by simp) (by decide)
      · exact steady_same nofun
    | active =>
      dsimp only
      split_ifs
      · exact steady_same nofun
      · exact steady_of_reply (by simp) (by decide)

theorem steady_requestActive (p : Port) : s.Steady (s.requestActive p) := by
  unfold State.requestActive
  split
  · exact steady_same (by decide)
  · cases hr : s.rc.runState with
    | selfCheck => exact steady_held hr _
    | halted => exact steady_same (by decide)
    | active => exact steady_same (by decide)
    | standby =>
      cases s.activeBlocker with
      | some k => exact steady_same nofun
      | none => exact steady_of_reply (by simp) (by decide)

theorem steady_requestHalt (p : Port) : s.Steady (s.requestHalt p) := by
  unfold State.requestHalt
  split
  · exact steady_same (by decide)
  · cases hr : s.rc.runState with
    | selfCheck => exact steady_held hr _
    | halted => exact steady_same (by decide)
    | standby => exact steady_of_reply (by simp) (by decide)
    | active =>
      dsimp only
      split_ifs
      · exact steady_same nofun
      · exact steady_of_reply (by simp) (by decide)

theorem steady_requestSelfCheck (p : Port) : s.Steady (s.requestSelfCheck p) := by
  unfold State.requestSelfCheck
  split
  · exact steady_same (by decide)
  · cases hr : s.rc.runState with
    | selfCheck => exact steady_held hr _
    | halted => exact steady_of_reply (by simp [State.takeSelfCheck, PortState.forSelfCheck]) (by decide)
    | standby => exact steady_same (by decide)
    | active => exact steady_same (by decide)

/-- A refusal of APPLY and DISCARD is no HOLD. -/
theorem claimRefusal_result {p : Port} {r : Reply} (h : s.claimRefusal p = some r) : r.result ≠ .hold := by
  unfold State.claimRefusal at h
  split at h
  · cases h
    decide
  · split_ifs at h
    cases h
    decide

theorem steady_requestApply (p : Port) : s.Steady (s.requestApply p) := by
  unfold State.requestApply
  cases hc : s.claimRefusal p with
  | some r => exact steady_same (claimRefusal_result hc)
  | none =>
    dsimp only
    split_ifs
    · exact steady_same (by decide)
    · cases s.rc.staged.firstFailing with
      | some k => exact steady_same nofun
      | none => exact steady_of_reply (by simp [State.applyStaged]) (by decide)

theorem steady_requestDiscard (p : Port) : s.Steady (s.requestDiscard p) := by
  unfold State.requestDiscard
  cases hc : s.claimRefusal p with
  | some r => exact steady_same (claimRefusal_result hc)
  | none => exact steady_of_reply (by simp) (by decide)

theorem steady_requestSaveWear (p : Port) : s.Steady (s.requestSaveWear p) := by
  unfold State.requestSaveWear
  split_ifs
  · exact steady_same (by decide)
  · exact steady_of_reply (by simp) (by decide)
  · exact steady_of_reply (by simp) (by decide)

theorem steady_requestWearReset (p : Port) (o : BitVec 5) : s.Steady (s.requestWearReset p o) := by
  unfold State.requestWearReset
  split
  · exact steady_same (by decide)
  · cases hr : s.rc.runState with
    | selfCheck => exact steady_held hr _
    | standby => exact steady_same (by decide)
    | active => exact steady_same (by decide)
    | halted =>
      cases itemOfNumber o.toNat with
      | none => exact steady_same (by decide)
      | some i =>
        dsimp only
        split_ifs
        · exact steady_same (by decide)
        · exact steady_of_reply (by simp) (by decide)

theorem steady_requestTrigger : s.Steady s.requestTrigger := steady_of_reply (by simp) nofun

theorem steady_requestRelease (o : BitVec 5) : s.Steady (s.requestRelease o) := by
  unfold State.requestRelease
  cases descriptorOf o with
  | none => exact steady_same (by decide)
  | some id => exact steady_of_reply (by simp [State.releaseDescriptor]) (by decide)

theorem startDump_cursors (p : Port) (x : DumpSource) (first last : Nat) (q : Port) :
    ((s.startDump p x first last).ports.get q).cursors = (s.ports.get q).cursors := by
  rw [State.startDump, modPort_get]
  split_ifs <;> rfl

theorem steady_requestDumpSnapshot (p : Port) (o : BitVec 5) : s.Steady (s.requestDumpSnapshot p o) := by
  unfold State.requestDumpSnapshot
  cases descriptorOf o with
  | none => exact steady_same (by decide)
  | some id =>
    cases h : (s.rcd.table.get id).state with
    | free => simpa [h] using steady_same (by decide)
    | overwritten => simpa [h] using steady_same (by decide)
    | collecting => simpa [h] using steady_of_reply (startDump_cursors p _ _ _) (by decide)
    | complete => simpa [h] using steady_of_reply (startDump_cursors p _ _ _) (by decide)

theorem steady_requestDumpRange (p : Port) : s.Steady (s.requestDumpRange p) := by
  unfold State.requestDumpRange
  dsimp only
  split_ifs
  · exact steady_same (by decide)
  · exact steady_same (by decide)
  · exact steady_of_reply (startDump_cursors p _ _ _) (by decide)

theorem steady_requestDumpCancel (p : Port) : s.Steady (s.requestDumpCancel p) := by
  have hcancel : ∀ q, ((s.modPort p fun x => { x with dump := (s.ports.get p).dump.cancelled }).ports.get q).cursors =
      (s.ports.get q).cursors := by
    intro q
    rw [modPort_get]
    split_ifs <;> rfl
  unfold State.requestDumpCancel
  dsimp only
  split
  · exact steady_same (by decide)
  · exact steady_of_reply hcancel (by decide)
  · split_ifs
    · exact steady_of_reply hcancel (by decide)
    · exact steady_same (by decide)

/-! ### READs and WRITEs -/

theorem completeReport_result (p : Port) (r : Role) (ws : List Word) : (s.completeReport p r ws).2.result ≠ .hold := by
  unfold State.completeReport
  dsimp only
  split <;> exact nofun

theorem writeReportWord_result (p : Port) (r : Role) (k : Nat) (w : Word) :
    (s.writeReportWord p r k w).2.result ≠ .hold := by
  unfold State.writeReportWord
  split
  · exact nofun
  · dsimp only
    split
    · exact nofun
    · split
      · exact completeReport_result _ _ _
      · exact nofun

theorem writeStaged_result (p : Port) (k : Nat) (w : Word) : (s.writeStaged p k w).2.result ≠ .hold := by
  unfold State.writeStaged
  split
  · exact nofun
  · split_ifs
    · exact nofun
    · exact nofun
    · unfold State.storeSettingWord
      split
      · exact nofun
      · exact nofun
      · split <;> exact nofun

theorem writeDumpRange_result (p : Port) (k : Nat) (w : Word) : (s.writeDumpRange p k w).2.result ≠ .hold := by
  unfold State.writeDumpRange
  dsimp only
  split
  · exact nofun
  · split_ifs <;> exact nofun

/-- A WRITE is never answered HOLD outside a self-check. -/
theorem writeAt_result (p : Port) (a : Nat) (w : Word) : (s.writeAt p a w).2.result ≠ .hold := by
  unfold State.writeAt
  split
  · exact writeReportWord_result _ _ _ _
  · split_ifs
    · exact writeStaged_result _ _ _
    · exact writeDumpRange_result _ _ _
    · exact nofun

theorem writeFrame_reply (p : Port) (b : Bool) (w : Word) :
    (s.writeFrame p b w).2 = (s.writeAt p (s.ports.get p).cursors.writeAddress.toNat w).2 := by
  unfold State.writeFrame
  dsimp only
  split_ifs <;> rfl

theorem readFrame_reply (p : Port) (b : Bool) :
    (s.readFrame p b).2 = (s.readAt p (s.ports.get p).cursors.readAddress.toNat).2 := by
  unfold State.readFrame
  dsimp only
  split_ifs <;> rfl

theorem writeFrame_cursors (p : Port) (b : Bool) (w : Word) : ((s.writeFrame p b w).1.ports.get p).cursors =
    if b = true ∧ (s.writeFrame p b w).2.result = .ok then (s.ports.get p).cursors.advancedWrite
    else (s.ports.get p).cursors := by
  rw [writeFrame_reply]
  unfold State.writeFrame
  dsimp only
  split_ifs <;> simp

theorem readFrame_cursors (p : Port) (b : Bool) : ((s.readFrame p b).1.ports.get p).cursors =
    if b = true ∧ (s.readFrame p b).2.result = .ok then (s.ports.get p).cursors.advancedRead
    else (s.ports.get p).cursors := by
  rw [readFrame_reply]
  unfold State.readFrame
  dsimp only
  split_ifs <;> simp

/-- Outside a self-check a READ is answered HOLD by the dump stream alone (R177). -/
theorem readAt_hold {p : Port} {a : Nat} (h : (s.readAt p a).2.result = .hold) : a = 0x140 := by
  unfold State.readAt at h
  split at h
  · cases h
  · split_ifs at h with ha
    · exact ha
    · split at h <;> cases h

/-! ### Frames that a self-check holds (R13, R183) -/

theorem exec_of_heldFrame {i : Instr} {p : Port} {c : BitVec 4} (h : heldFrame i = some (p, c)) :
    ∃ effect, exec i s = .next (s.heldExchange p c effect) := by
  cases i <;> cases h <;> exact ⟨_, rfl⟩

/-- A frame that is neither held by a self-check nor without a port is POLL or a bad one. -/
theorem unheld_cases {i : Instr} {p : Port} (hp : i.port = some p) (h : heldFrame i = none) :
    i = .poll p ∨ i = .brokenExchange p ∨ ∃ echoed, i = .badframe p echoed := by
  cases i
  case poll => cases hp; exact .inl rfl
  case brokenExchange => cases hp; exact .inr (.inl rfl)
  case badframe q e => cases hp; exact .inr (.inr ⟨e, rfl⟩)
  all_goals cases h
  all_goals cases hp

theorem heldFrame_port {i : Instr} {p q : Port} {c : BitVec 4} (h : heldFrame i = some (q, c)) (hp : i.port = some p) :
    q = p := by
  cases i <;> cases h <;> exact Option.some.inj hp

/-- An exchange without effect, answered whatever the run state. -/
theorem exchange_answered (hrun : s.running = true) (p : Port) (c : BitVec 4) (r : Reply) :
    s.exchange p c (fun t => (t, r)) = (s.modPort p PortState.shiftOut).respond p c r := by
  simp [State.exchange, hrun]

theorem exchange_same (hrun : s.running = true) (p : Port) (c : BitVec 4) (r : Reply) :
    Answered s (s.exchange p c fun t => (t, r)) p c r.result r.payload ∧
      NoEffect s (s.exchange p c fun t => (t, r)) p := by
  rw [exchange_answered hrun]
  exact ⟨answered_shiftOut_respond s p c r, noEffect_respond s p c r⟩

/-! ### POLL, HOLD and BADFRAME (R180, R181, R183) -/

theorem respond_result {p : Port} (c : BitVec 4) (r : Reply) : ((s.respond p c r).ports.get p).response.result = r.result := by
  simp [State.respond]

/-- An effect that is steady leaves the cursors of its port, and with HOLD it is a self-check's answer. -/
theorem steady_heldExchange (hrun : s.running = true) (p : Port) (c : BitVec 4) {effect : State → State × Reply}
    (h : ∀ u : State, u.Steady (effect u)) :
    ((s.heldExchange p c effect).ports.get p).cursors = (s.ports.get p).cursors ∧
      (((s.heldExchange p c effect).ports.get p).response.result = .hold → s.rc.runState = .selfCheck) := by
  by_cases hstate : s.rc.runState = .selfCheck
  · rw [heldExchange_of_selfCheck p c hrun hstate]
    exact ⟨by simp [PortState.shiftOut], fun _ => hstate⟩
  · rw [heldExchange_of_listening p c ⟨hrun, hstate⟩]
    obtain ⟨hcursors, hhold⟩ := h (s.modPort p PortState.shiftOut)
    refine ⟨?_, fun hr => ?_⟩
    · simp [hcursors, PortState.shiftOut]
    · rw [respond_result] at hr
      exact absurd hr (hhold hstate)

/-- The requests but CURSOR_MODE are steady. -/
theorem exec_steady {i : Instr} {p : Port} (hrun : s.running = true) (hp : i.port = some p) (hi : leavesCursors i = true) :
    ∃ t, exec i s = .next t ∧ (t.ports.get p).cursors = (s.ports.get p).cursors ∧
      ((t.ports.get p).response.result = .hold → s.rc.runState = .selfCheck) := by
  have hbad : ∀ c r, r.result ≠ .hold →
      ((s.exchange p c fun t => (t, r)).ports.get p).cursors = (s.ports.get p).cursors ∧
        (((s.exchange p c fun t => (t, r)).ports.get p).response.result = .hold → s.rc.runState = .selfCheck) := by
    intro c r hr
    rw [exchange_answered hrun]
    refine ⟨by simp [PortState.shiftOut], fun h => ?_⟩
    rw [respond_result] at h
    exact absurd h hr
  cases i
  case brokenExchange => cases hp; exact ⟨_, rfl, hbad _ _ nofun⟩
  case badframe => cases hp; exact ⟨_, rfl, hbad _ _ nofun⟩
  case poll => cases hp; exact ⟨_, rfl, hbad _ _ nofun⟩
  case runStandby => cases hp; exact ⟨_, rfl, steady_heldExchange hrun p _ fun u => steady_requestStandby p⟩
  case runActive => cases hp; exact ⟨_, rfl, steady_heldExchange hrun p _ fun u => steady_requestActive p⟩
  case runHalt => cases hp; exact ⟨_, rfl, steady_heldExchange hrun p _ fun u => steady_requestHalt p⟩
  case selfCheck => cases hp; exact ⟨_, rfl, steady_heldExchange hrun p _ fun u => steady_requestSelfCheck p⟩
  case apply => cases hp; exact ⟨_, rfl, steady_heldExchange hrun p _ fun u => steady_requestApply p⟩
  case discard => cases hp; exact ⟨_, rfl, steady_heldExchange hrun p _ fun u => steady_requestDiscard p⟩
  case saveWear => cases hp; exact ⟨_, rfl, steady_heldExchange hrun p _ fun u => steady_requestSaveWear p⟩
  case wearReset q o => cases hp; exact ⟨_, rfl, steady_heldExchange hrun p _ fun u => steady_requestWearReset p o⟩
  case trigger => cases hp; exact ⟨_, rfl, steady_heldExchange hrun p _ fun u => steady_requestTrigger⟩
  case release q o => cases hp; exact ⟨_, rfl, steady_heldExchange hrun p _ fun u => steady_requestRelease o⟩
  case dumpSnapshot q o => cases hp; exact ⟨_, rfl, steady_heldExchange hrun p _ fun u => steady_requestDumpSnapshot p o⟩
  case dumpRange => cases hp; exact ⟨_, rfl, steady_heldExchange hrun p _ fun u => steady_requestDumpRange p⟩
  case dumpCancel => cases hp; exact ⟨_, rfl, steady_heldExchange hrun p _ fun u => steady_requestDumpCancel p⟩
  all_goals cases hi

/-- A READ of a listening part: its answer is that of the address under the read cursor, which an OK advances. -/
theorem exec_read {i : Instr} {p : Port} {advance : Bool} (hi : IsRead i p advance) (hl : s.Listening) :
    ∃ t, exec i s = .next t ∧
      (t.ports.get p).response.result =
        ((s.modPort p PortState.shiftOut).readAt p (s.ports.get p).cursors.readAddress.toNat).2.result ∧
      (t.ports.get p).cursors =
        if advance = true ∧ (t.ports.get p).response.result = .ok then (s.ports.get p).cursors.advancedRead
        else (s.ports.get p).cursors := by
  have hout : ((s.modPort p PortState.shiftOut).ports.get p).cursors = (s.ports.get p).cursors := by
    simp [PortState.shiftOut]
  refine ⟨_, exec_of_isRead s hi, ?_⟩
  rw [heldExchange_of_listening p _ hl, respond_result]
  refine ⟨by rw [readFrame_reply, hout], ?_⟩
  have hcursors := readFrame_cursors (s := s.modPort p PortState.shiftOut) p advance
  rw [hout] at hcursors
  simp only [respond_port_untouched]
  exact hcursors

theorem exec_write {i : Instr} {p : Port} {advance : Bool} {w : Word} (hi : IsWrite i p advance w) (hl : s.Listening) :
    ∃ t, exec i s = .next t ∧ (t.ports.get p).response.result ≠ .hold ∧
      (t.ports.get p).cursors =
        if advance = true ∧ (t.ports.get p).response.result = .ok then (s.ports.get p).cursors.advancedWrite
        else (s.ports.get p).cursors := by
  have hout : ((s.modPort p PortState.shiftOut).ports.get p).cursors = (s.ports.get p).cursors := by
    simp [PortState.shiftOut]
  refine ⟨_, exec_of_isWrite s hi, ?_⟩
  rw [heldExchange_of_listening p _ hl, respond_result]
  refine ⟨by rw [writeFrame_reply]; exact writeAt_result _ _ _, ?_⟩
  have hcursors := writeFrame_cursors (s := s.modPort p PortState.shiftOut) p advance w
  rw [hout] at hcursors
  simp only [respond_port_untouched]
  exact hcursors

theorem exec_cursor (hl : s.Listening) (p : Port) (a : Address) (w : Word) : exec (.cursor p a w) s =
    .next (((s.modPort p PortState.shiftOut).moveCursor p a w).1.respond p 1#4 (.ok (a.setWidth 16))) :=
  congrArg _ (heldExchange_of_listening p 1#4 hl fun t => t.moveCursor p a w)

/-- A frame at a port is one that leaves the cursors, a READ, a WRITE, a CURSOR or a CURSOR_MODE. -/
theorem frame_cases {i : Instr} {p : Port} (hp : i.port = some p) : leavesCursors i = true ∨
    (∃ advance, IsRead i p advance) ∨ (∃ advance w, IsWrite i p advance w) ∨ (∃ a w, i = .cursor p a w) ∨
      ∃ o, i = .cursorMode p o := by
  cases i
  case cursor q a w => cases hp; exact .inr (.inr (.inr (.inl ⟨a, w, rfl⟩)))
  case cursorMode q o => cases hp; exact .inr (.inr (.inr (.inr ⟨o, rfl⟩)))
  case write q b w => cases hp; exact .inr (.inr (.inl ⟨b, w, .inl rfl⟩))
  case reportWordWrite q b w => cases hp; exact .inr (.inr (.inl ⟨b, w, .inr (.inl rfl)⟩))
  case stagedSettingWrite q b w => cases hp; exact .inr (.inr (.inl ⟨b, w, .inr (.inr (.inl rfl))⟩))
  case dumpRangeRecordWrite q b w => cases hp; exact .inr (.inr (.inl ⟨b, w, .inr (.inr (.inr rfl))⟩))
  case capture q b => cases hp; exact .inr (.inl ⟨b, .inl rfl⟩)
  case counterCapture q b => cases hp; exact .inr (.inl ⟨b, .inr (.inl rfl)⟩)
  case latchCapture q b => cases hp; exact .inr (.inl ⟨b, .inr (.inr (.inl rfl))⟩)
  case noticeCapture q b => cases hp; exact .inr (.inl ⟨b, .inr (.inr (.inr (.inl rfl)))⟩)
  case wearStatusCapture q b => cases hp; exact .inr (.inl ⟨b, .inr (.inr (.inr (.inr (.inl rfl))))⟩)
  case dumpStreamRead q b => cases hp; exact .inr (.inl ⟨b, .inr (.inr (.inr (.inr (.inr rfl))))⟩)
  all_goals first | exact .inl rfl | cases hp

/-- A frame that a self-check holds is answered HOLD without effect. -/
theorem exec_held {i : Instr} {p : Port} {c : BitVec 4} (h : heldFrame i = some (p, c)) (hrun : s.running = true)
    (hstate : s.rc.runState = .selfCheck) :
    ∃ t, exec i s = .next t ∧ Answered s t p c .hold 0#16 ∧ NoEffect s t p := by
  obtain ⟨effect, hexec⟩ := exec_of_heldFrame (s := s) h
  refine ⟨_, hexec, ?_⟩
  rw [heldExchange_of_selfCheck p c hrun hstate]
  exact ⟨answered_shiftOut_respond s p c .hold, noEffect_respond s p c .hold⟩

theorem cursors_of_noEffect {t : State} {p : Port} (h : NoEffect s t p) : (t.ports.get p).cursors = (s.ports.get p).cursors := by
  obtain ⟨-, -, hframe⟩ := h
  rw [hframe]

/-- HOLD answers a frame in a self-check, or a READ of an empty dump stream; the cursors stand either way. -/
theorem hold_cases {i : Instr} {p : Port} (hp : i.port = some p) (hrun : s.running = true) :
    ∃ t, exec i s = .next t ∧ ((t.ports.get p).response.result = .hold →
      (t.ports.get p).cursors = (s.ports.get p).cursors ∧ (s.rc.runState = .selfCheck ∨
        (∃ advance, IsRead i p advance) ∧ (s.ports.get p).cursors.readAddress = 0x140#10)) := by
  by_cases hstate : s.rc.runState = .selfCheck
  · cases hheld : heldFrame i with
    | some x =>
      obtain ⟨q, c⟩ := x
      obtain rfl := heldFrame_port hheld hp
      obtain ⟨t, hexec, -, hno⟩ := exec_held hheld hrun hstate
      exact ⟨t, hexec, fun _ => ⟨cursors_of_noEffect hno, .inl hstate⟩⟩
    | none =>
      have hleaves : leavesCursors i = true := by
        obtain rfl | rfl | ⟨e, rfl⟩ := unheld_cases hp hheld <;> rfl
      obtain ⟨t, hexec, hcursors, -⟩ := exec_steady hrun hp hleaves
      exact ⟨t, hexec, fun _ => ⟨hcursors, .inl hstate⟩⟩
  · have hl : s.Listening := ⟨hrun, hstate⟩
    obtain hi | ⟨b, hi⟩ | ⟨b, w, hi⟩ | ⟨a, w, rfl⟩ | ⟨o, rfl⟩ := frame_cases hp
    · obtain ⟨t, hexec, hcursors, hhold⟩ := exec_steady hrun hp hi
      exact ⟨t, hexec, fun h => ⟨hcursors, .inl (hhold h)⟩⟩
    · obtain ⟨t, hexec, hresult, hcursors⟩ := exec_read hi hl
      refine ⟨t, hexec, fun h => ⟨?_, .inr ⟨⟨b, hi⟩, ?_⟩⟩⟩
      · rw [hcursors, if_neg]
        rintro ⟨-, hok⟩
        rw [h] at hok
        cases hok
      · have haddr : (s.ports.get p).cursors.readAddress.toNat = 0x140 := readAt_hold (hresult.symm.trans h)
        exact BitVec.eq_of_toNat_eq haddr
    · obtain ⟨t, hexec, hresult, -⟩ := exec_write hi hl
      exact ⟨t, hexec, fun h => absurd h hresult⟩
    · refine ⟨_, exec_cursor hl p a w, fun h => ?_⟩
      rw [respond_result] at h
      cases h
    · by_cases ho : 1 < o.toNat
      · obtain ⟨t, hexec, hanswer, -⟩ := exec_cursorMode_refused (p := p) hl ho
        refine ⟨t, hexec, fun h => ?_⟩
        rw [hanswer.1] at h
        cases h
      · obtain ⟨t, hexec, hanswer, -⟩ := exec_cursorMode_taken (p := p) hl (Nat.le_of_not_lt ho)
        refine ⟨t, hexec, fun h => ?_⟩
        rw [hanswer.1] at h
        cases h

/-- Settles O13: what each kind of frame is answered with, a self-check asked first. -/
theorem pollHoldAndBadFrame : Obligations.PollHoldAndBadFrame :=
  ⟨fun p _ hrun => ⟨_, rfl, exchange_same hrun p _ (.ok 0#16)⟩, fun _ _ _ _ h hrun hstate => exec_held h hrun hstate,
    fun p _ _ hrun => ⟨⟨_, rfl, exchange_same hrun p _ ⟨.badframe, 0#16⟩⟩,
      ⟨_, rfl, exchange_same hrun p _ ⟨.badframe, 0#16⟩⟩⟩, fun _ _ _ hp hrun => hold_cases hp hrun⟩

/-- Settles O16: a READ and a WRITE advance their own cursor with an OK; the other frames are steady. -/
theorem cursorAdvancesAfterOk : Obligations.CursorAdvancesAfterOk := by
  have hkept : ∀ {b : Bool} {r : Result} {x y : Cursors}, b = false ∨ r ≠ .ok → (if b = true ∧ r = .ok then x else y) = y := by
    rintro b r x y (h | h) <;> simp [h]
  refine ⟨fun i p advance s hi hl => ?_, fun i p advance word s hi hl => ?_, rfl, fun i p s hp hi hrun => ?_⟩
  · obtain ⟨t, hexec, -, hcursors⟩ := exec_read hi hl
    refine ⟨t, hexec, fun ha hok => ?_, fun h => hcursors.trans (hkept h)⟩
    rw [hcursors, if_pos ⟨ha, hok⟩]
    exact ⟨fun a h => by rw [h]; rfl, fun r w h => by rw [h]; rfl⟩
  · obtain ⟨t, hexec, -, hcursors⟩ := exec_write hi hl
    refine ⟨t, hexec, fun ha hok => ?_, fun h => hcursors.trans (hkept h)⟩
    rw [hcursors, if_pos ⟨ha, hok⟩]
    exact ⟨fun a h => by rw [h]; rfl, fun r w h => by rw [h]; rfl⟩
  · obtain ⟨t, hexec, hcursors, -⟩ := exec_steady hrun hp hi
    exact ⟨t, hexec, hcursors⟩

/-! ### CURSOR frames (R184) -/

/-- A port after a CURSOR frame. -/
def PortState.cursorMoved (x : PortState) (a : Address) (w : Word) : PortState :=
  match x.cursors with
  | .joined _ => { x with cursors := .joined a, assembly := none }
  | .split r c =>
    if w.getLsbD 0 then { x with cursors := .split r a, assembly := none } else { x with cursors := .split a c }

theorem moveCursor_eq (p : Port) (a : Address) (w : Word) :
    (s.moveCursor p a w).1 = s.modPort p fun x => x.cursorMoved a w := by
  have hports : ∀ {f g : PortState → PortState}, f (s.ports.get p) = g (s.ports.get p) → s.modPort p f = s.modPort p g := by
    intro f g h
    cases p <;> simp only [PerPort.get] at h <;> simp only [State.modPort, PerPort.set, PerPort.get, h]
  unfold State.moveCursor
  dsimp only
  split
  next b hb => exact hports (by simp [PortState.cursorMoved, hb])
  next r c hc =>
    split_ifs with hw
    · exact hports (by simp only [PortState.cursorMoved, hc, hw, if_true])
    · exact hports (by simp only [PortState.cursorMoved, hc, hw, if_false, Bool.false_eq_true])

/-- Settles O14: a port after a CURSOR frame, by the mode and the payload's bit 0. -/
theorem cursorFrameMovesCursor : Obligations.CursorFrameMovesCursor := by
  intro p a w s hl
  refine ⟨_, exec_cursor hl p a w, answered_respond _ _ (by simp [PortState.shiftOut]), ?_⟩
  rw [moveCursor_eq]
  have hport : ∀ r, ((((s.modPort p PortState.shiftOut).modPort p fun x => x.cursorMoved a w).respond p 1#4 r).ports.get
      p).cursors = ((s.ports.get p).shiftOut.cursorMoved a w).cursors := by
    intro r
    simp
  have hassembly : ∀ r, ((((s.modPort p PortState.shiftOut).modPort p fun x => x.cursorMoved a w).respond p 1#4 r
      ).ports.get p).assembly = ((s.ports.get p).shiftOut.cursorMoved a w).assembly := by
    intro r
    simp
  rw [hport, hassembly]
  refine ⟨fun b hb => by simp [PortState.cursorMoved, PortState.shiftOut, hb],
    fun b c hc hw => by simp only [PortState.cursorMoved, PortState.shiftOut, hc, hw, if_true, and_self],
    fun b c hc hw => by
      simp only [PortState.cursorMoved, PortState.shiftOut, hc, hw, if_false, Bool.false_eq_true, and_self],
    onlyPort_modPort_respond s p _ _ _ (by simp) fun g hg => ?_⟩
  unfold PortState.cursorMoved
  split
  · cases g <;> simp [PortField.Same] at hg ⊢
  · split_ifs <;> cases g <;> simp [PortField.Same] at hg ⊢

end Sys2Proof.Machine
end

section
/-! PROOFS. The statements about READs that capture a record and READs that capture nothing (R58, R127, R143, R187, R188,
R191). -/

namespace Sys2Proof.Machine

variable {s : State}

/-! ### A READ frame answered OK (R184, R185) -/

/-- A port after an OK to a READ: with the advance bit set its read cursor has moved. -/
def PortState.readAdvanced (advance : Bool) (x : PortState) : PortState :=
  { x with cursors := if advance then x.cursors.advancedRead else x.cursors }

theorem readFrame_of_ok {p : Port} (advance : Bool) {f : PortState → PortState} {w : Word}
    (h : s.readAt p (s.ports.get p).cursors.readAddress.toNat = (s.modPort p f, .ok w)) :
    s.readFrame p advance = (s.modPort p fun x => (f x).readAdvanced advance, .ok w) := by
  rw [State.readFrame, h]
  cases advance
  · rfl
  · cases p <;> rfl

theorem modPort_id (p : Port) : (s.modPort p fun x => x) = s := by cases p <;> rfl

/-- A READ frame answered OK with an effect on its port alone. -/
theorem exec_read_ok {i : Instr} {p : Port} {advance : Bool} {f : PortState → PortState} {w : Word}
    (hi : IsRead i p advance) (hl : s.Listening)
    (h : (s.modPort p PortState.shiftOut).readAt p (s.ports.get p).cursors.readAddress.toNat =
      ((s.modPort p PortState.shiftOut).modPort p f, .ok w)) :
    exec i s = .next (((s.modPort p PortState.shiftOut).modPort p fun x => (f x).readAdvanced advance).respond p 2#4
      (.ok w)) := by
  have hframe := readFrame_of_ok (s := s.modPort p PortState.shiftOut) (p := p) (f := f) (w := w) advance
    (by simpa [PortState.shiftOut] using h)
  rw [exec_of_isRead s hi, heldExchange_of_listening p _ hl, hframe]

/-- A READ frame refused, the state as it was. -/
theorem exec_read_refused {i : Instr} {p : Port} {advance : Bool} (hi : IsRead i p advance) (hl : s.Listening)
    (h : (s.modPort p PortState.shiftOut).readAt p (s.ports.get p).cursors.readAddress.toNat =
      (s.modPort p PortState.shiftOut, .access)) :
    ∃ t, exec i s = .next t ∧ Answered s t p 2#4 .access 0#16 ∧ NoEffect s t p := by
  have hframe : (s.modPort p PortState.shiftOut).readFrame p advance = (s.modPort p PortState.shiftOut, .access) := by
    rw [State.readFrame, show ((s.modPort p PortState.shiftOut).ports.get p).cursors = (s.ports.get p).cursors by
      simp [PortState.shiftOut], h]
    exact if_neg fun h => nomatch h.2
  refine ⟨_, exec_of_isRead s hi, ?_⟩
  rw [heldExchange_of_listening p _ hl, hframe]
  exact ⟨answered_shiftOut_respond s p 2#4 .access, noEffect_respond s p 2#4 .access⟩

/-! ### The capture of a record (R188) -/

/-- A port after the capture of a record of these words. -/
def State.capturedPort (s : State) (r : RecordId) (words : List Word) (x : PortState) : PortState :=
  { s.captureEffect r x with holding := some ⟨r, words⟩ }

theorem recordWords_length (s : State) (p : Port) (r : RecordId) : (s.recordWords p r).length = r.length := by
  cases r <;> rfl

/-- The words of a record show nothing of the frames of its port. -/
theorem recordWords_shiftOut (p : Port) (r : RecordId) :
    (s.modPort p PortState.shiftOut).recordWords p r = s.recordWords p r := by
  have hport : (s.modPort p PortState.shiftOut).ports.get p = (s.ports.get p).shiftOut := modPort_get_same _ _ _
  unfold State.recordWords
  rw [hport]
  cases r <;> rfl

theorem readRecord_captured {p : Port} {r : RecordId} {k : Nat} (h : k = 0 ∨ (s.ports.get p).holds r = false) :
    s.readRecord p r k =
      (s.modPort p (s.capturedPort r (s.recordWords p r)), .ok ((s.recordWords p r).getD k 0#16)) := by
  have hnot : ¬ (k ≠ 0 ∧ (s.ports.get p).holds r = true) := by
    rintro ⟨hk, hh⟩
    obtain h | h := h
    · exact hk h
    · exact absurd (h.symm.trans hh) Bool.false_ne_true
  unfold State.readRecord
  rw [if_neg hnot]
  refine Prod.ext rfl ?_
  simp [State.captureRecord, PortState.heldWord]

theorem readRecord_held {p : Port} {r : RecordId} {ws : List Word} {k : Nat} (hk : k ≠ 0)
    (h : (s.ports.get p).holding = some ⟨r, ws⟩) : s.readRecord p r k = (s, .ok (ws.getD k 0#16)) := by
  have hholds : (s.ports.get p).holds r = true := by simp [PortState.holds, h]
  unfold State.readRecord
  rw [if_pos ⟨hk, hholds⟩]
  simp [PortState.heldWord, h]

theorem readAt_of_record {p : Port} {a : Nat} {r : RecordId} (h : recordAt a = some r) :
    s.readAt p a = s.readRecord p r (a - r.base) := by
  rw [State.readAt, h]

theorem holds_eq_false {x : PortState} {r : RecordId} (h : ∀ ws, x.holding ≠ some ⟨r, ws⟩) : x.holds r = false := by
  unfold PortState.holds
  cases hx : x.holding with
  | none => rfl
  | some y =>
    obtain ⟨q, ws⟩ := y
    have hne : q ≠ r := fun e => h ws (by rw [hx, e])
    simpa using hne

theorem recordAt_base {a : Nat} {r : RecordId} (h : recordAt a = some r) : r.base ≤ a ∧ a < r.base + r.length := by
  have hfound := List.find?_some h
  simpa using hfound

/-- Settles O17: the capture by its port alone, and the side effect of each record by the record. -/
theorem captureTakesRecord : Obligations.CaptureTakesRecord := by
  intro i p advance r s hi hl hrecord hfresh
  have hfresh' : (s.ports.get p).cursors.readAddress.toNat - r.base = 0 ∨
      ((s.modPort p PortState.shiftOut).ports.get p).holds r = false := by
    obtain h | h := hfresh
    · exact .inl (by omega)
    · exact .inr (holds_eq_false (by simpa [PortState.shiftOut] using h))
  have hread := (readAt_of_record (s := s.modPort p PortState.shiftOut) (p := p) hrecord).trans
    (readRecord_captured hfresh')
  rw [recordWords_shiftOut] at hread
  refine ⟨_, exec_read_ok hi hl hread, answered_respond _ _ ?_, recordWords_length s p r, ?_, ?_, ?_, ?_, ?_, ?_, ?_, ?_⟩
  case refine_9 =>
    refine onlyPort_modPort_respond s p _ _ _ (by simp) fun g hg => ?_
    cases r <;> cases g <;> simp [PortField.Same, PortState.readAdvanced, State.capturedPort, State.captureEffect] at hg ⊢
  case refine_7 =>
    rintro rfl
    simp [State.attention, PortState.readAdvanced, State.capturedPort, State.captureEffect]
  case refine_8 =>
    intro item
    cases r <;> simp [PortState.readAdvanced, State.capturedPort, State.captureEffect, PortState.shiftOut]
    exact wearStatus_congr rfl fun _ => rfl
  all_goals
    cases r <;> simp [PortState.readAdvanced, State.capturedPort, State.captureEffect, PortState.shiftOut]

/-! ### A READ that captures nothing (R187, R188) -/

/-- A plain word shows nothing of the frames of its port. -/
theorem plainWord_shiftOut (p : Port) (a : Nat) : (s.modPort p PortState.shiftOut).plainWord p a = s.plainWord p a := by
  have hport : ((s.modPort p PortState.shiftOut).ports.get p).dumpRange = (s.ports.get p).dumpRange := by
    simp [PortState.shiftOut]
  unfold State.plainWord
  rw [hport]
  rfl

theorem readAt_plain {p : Port} {a : Nat} (hr : recordAt a = none) (hs : a ≠ 0x140) :
    s.readAt p a = (s, ((s.plainWord p a).map Reply.ok).getD .access) := by
  rw [State.readAt, hr]
  dsimp only
  rw [if_neg (show a ≠ streamAddress from hs)]
  cases s.plainWord p a <;> rfl

/-- Outside the records no descriptor of R195 holds an address. -/
theorem recordAt_none {a : Nat} (h : ∀ r : RecordId, ¬ (r.base ≤ a ∧ a < r.base + r.length)) : recordAt a = none := by
  rw [recordAt, List.find?_eq_none]
  intro r _
  simpa using h r

/-- The addresses that hold no word at all (R187). -/
def holdsNoWord (a : Nat) : Prop :=
  (0x0B ≤ a ∧ a < 0x10) ∨ (0x38 ≤ a ∧ a < 0x40) ∨ (0xAB ≤ a ∧ a < 0xC0) ∨ (0xD4 ≤ a ∧ a < 0x100) ∨
    (0x110 ≤ a ∧ a < 0x140) ∨ (0x141 ≤ a ∧ a < 0x200)

theorem recordAt_of_holdsNoWord {a : Nat} (h : holdsNoWord a) : recordAt a = none := by
  refine recordAt_none fun r => ?_
  unfold holdsNoWord at h
  cases r <;> simp only [RecordId.base, RecordId.length] <;> omega

theorem reportWordAt_none {a : Nat} (h : a < 0x10 ∨ 0x38 ≤ a) : reportWordAt a = none := by
  unfold reportWordAt
  rw [if_neg (by omega), if_neg (by omega), if_neg (by omega), if_neg (by omega), if_neg (by omega)]

theorem identWord_none {a : Nat} (h : 0x0B ≤ a) : s.identWord a = none := by
  unfold State.identWord
  split
  all_goals first | omega | rfl

theorem plainWord_of_holdsNoWord {p : Port} {a : Nat} (h : holdsNoWord a) : s.plainWord p a = none := by
  unfold holdsNoWord at h
  unfold State.plainWord
  by_cases hlow : a < 0x10
  · rw [if_pos hlow]
    exact identWord_none (by omega)
  · rw [if_neg hlow]
    by_cases hreport : a < 0x40
    · rw [if_pos hreport, reportWordAt_none (by omega)]
      rfl
    · have hrange : ¬ (dumpRangeBase ≤ a ∧ a < dumpRangeBase + 3) := by
        simp only [dumpRangeBase]
        omega
      rw [if_neg hreport, if_neg hrange, if_neg (by omega), if_neg (by omega), if_neg (by omega)]

/-- A word read as it stands: the cursors of the port apart, nothing has changed. -/
theorem exec_read_word {i : Instr} {p : Port} {advance : Bool} {w : Word} (hi : IsRead i p advance) (hl : s.Listening)
    (h : (s.modPort p PortState.shiftOut).readAt p (s.ports.get p).cursors.readAddress.toNat =
      (s.modPort p PortState.shiftOut, .ok w)) :
    ∃ t, exec i s = .next t ∧ Answered s t p 2#4 .ok w ∧ OnlyPort [.cursors, .frame] s t p := by
  have hread : (s.modPort p PortState.shiftOut).readAt p (s.ports.get p).cursors.readAddress.toNat =
      ((s.modPort p PortState.shiftOut).modPort p fun x => x, .ok w) := by rw [h, modPort_id]
  refine ⟨_, exec_read_ok hi hl hread, answered_respond _ _ ?_, onlyPort_modPort_respond s p _ _ _ (by simp) fun g hg => ?_⟩
  · simp [PortState.readAdvanced, PortState.shiftOut]
  · cases g <;> simp [PortField.Same, PortState.readAdvanced] at hg ⊢

/-- Settles O18: the address and the holding buffer say which word is read, and that none is captured. -/
theorem readWithoutCapture : Obligations.ReadWithoutCapture := by
  intro i p advance s hi hl
  dsimp only
  refine ⟨fun r ws hrecord hbase hholding => ?held, fun w hrecord hstream hw => ?plain, fun hrecord hstream hnone => ?none,
    fun hregion => ?region⟩
  case held =>
    have hk : (s.ports.get p).cursors.readAddress.toNat - r.base ≠ 0 := by
      have := (recordAt_base hrecord).1
      omega
    exact exec_read_word hi hl ((readAt_of_record hrecord).trans
      (readRecord_held hk (by simpa [PortState.shiftOut] using hholding)))
  case plain =>
    refine exec_read_word hi hl ?_
    rw [readAt_plain hrecord hstream, plainWord_shiftOut, hw]
    rfl
  case none =>
    refine exec_read_refused hi hl ?_
    rw [readAt_plain hrecord hstream, plainWord_shiftOut, hnone]
    rfl
  case region =>
    have hstream : (s.ports.get p).cursors.readAddress.toNat ≠ 0x140 := by omega
    refine exec_read_refused hi hl ?_
    rw [readAt_plain (recordAt_of_holdsNoWord hregion) hstream, plainWord_of_holdsNoWord hregion]
    rfl

end Sys2Proof.Machine
end

section
/-! PROOFS. What a request tells after what its effect tells, causes that change one after another, the end of a claim; and
the statements about the refusals of the run-state requests and about RUN_STANDBY (R6, R8, R10, R19). -/

namespace Sys2Proof.Machine

variable {s t u : State}

/-! ### Causes that change one after another (R45, R46, R57) -/

/-- The cause set is the causes that are active. -/
theorem live_eq_iff : t.cut.live = s.cut.live ↔ ∀ c, t.causeActive c = s.causeActive c := by
  refine ⟨fun h c => causeActive_of_cut h c, fun h => BitVec.eq_of_getLsbD_eq fun k hk => ?_⟩
  obtain ⟨c, rfl⟩ := exists_cause_of_code hk
  exact h c

/-- Two events that change no cause both: what they tell, told one after the other, is what both together tell. -/
theorem State.CutbackTold.trans (h : s.CutbackTold t) (g : t.CutbackTold u)
    (hapart : ∀ c, t.causeActive c = s.causeActive c ∨ u.causeActive c = t.causeActive c) : s.CutbackTold u := by
  have hlive : u.cut.live = s.cut.live ↔ t.cut.live = s.cut.live ∧ u.cut.live = t.cut.live := by
    refine ⟨fun hus => ?_, fun ⟨hts, hut⟩ => hut.trans hts⟩
    have hcauses := live_eq_iff.mp hus
    have hts : t.cut.live = s.cut.live := live_eq_iff.mpr fun c => by
      obtain h | h := hapart c
      · exact h
      · exact h.symm.trans (hcauses c)
    exact ⟨hts, hus.trans hts.symm⟩
  intro p
  rw [g p, h p, Bool.or_assoc]
  refine congrArg _ (Bool.eq_iff_iff.mpr ?_)
  simp only [Bool.or_eq_true, decide_eq_true_eq, ne_eq, hlive]
  exact Decidable.not_and_iff_or_not.symm

theorem State.CausesTold.trans (h : s.CausesTold t) (g : t.CausesTold u)
    (hapart : ∀ c, t.causeActive c = s.causeActive c ∨ u.causeActive c = t.causeActive c) : s.CausesTold u := by
  obtain ⟨hcut, hlatch⟩ := h
  obtain ⟨hcut', hlatch'⟩ := g
  refine ⟨hcut.trans hcut' hapart, fun p c => ?_⟩
  rw [hlatch' p c, hlatch p c]
  obtain h | h := hapart c
  · rw [h]
    cases s.causeActive c <;> simp
  · rw [h]
    cases t.causeActive c <;> simp

theorem changeRunState_sameCauses (s : State) (x : RunState) : s.SameCauses (s.changeRunState x) :=
  ⟨by simp, fun p => ⟨by simp [State.changeRunState], by simp⟩⟩

theorem noticeAll_sameCauses (s : State) {k : NoticeKind} (hk : k ≠ .cutbackChange) : s.SameCauses (s.noticeAll k) :=
  ⟨by simp, fun p => ⟨by simp, by simp [hk.symm]⟩⟩

/-! ### The end of a claim (R17, R19) -/

theorem settingWordDropped_drop (x : PortState) : x.SettingWordDropped x.dropSettingWord := by
  refine ⟨fun k ws h => by simp [PortState.dropSettingWord, h], fun h => ?_⟩
  unfold PortState.dropSettingWord
  split
  next k ws hk => exact absurd hk (h k ws)
  all_goals rfl

theorem discardStaged_claimDropped {drops : Port → Prop} {q : Port} (hc : s.rc.claim = some q) (hq : drops q) :
    s.ClaimDropped drops s.discardStaged := by
  have hstate : s.discardStaged =
      (s.setRc { s.rc with staged := s.rc.applied, claim := none }).modPort q PortState.dropSettingWord := by
    simp [State.discardStaged, State.releaseClaim, hc]
    rfl
  rw [hstate]
  refine ⟨fun r hr _ => ?_, fun h => absurd hq (h q hc), fun r hr => ?_⟩
  · obtain rfl : q = r := Option.some.inj (hc.symm.trans hr)
    refine ⟨rfl, rfl, ?_⟩
    rw [modPort_get_same]
    exact settingWordDropped_drop _
  · have hne : r ≠ q := by
      rintro rfl
      exact hr.elim (fun h => h hc) fun h => h hq
    rw [modPort_get_other _ _ _ _ hne]
    rfl

theorem claimDropped_refl {drops : Port → Prop} (h : ∀ q, s.rc.claim = some q → ¬ drops q) : s.ClaimDropped drops s :=
  ⟨fun q hc hq => absurd hq (h q hc), fun _ => ⟨rfl, rfl⟩, fun _ _ => rfl⟩

theorem discardUnbound_claimDropped (s : State) : s.ClaimDropped (fun q => s.roleOf q = none) s.discardUnbound := by
  unfold State.discardUnbound
  cases hc : s.rc.claim with
  | none => exact claimDropped_refl fun q hq => by simp [hc] at hq
  | some p =>
    dsimp only
    split_ifs with hp
    · exact discardStaged_claimDropped hc hp
    · refine claimDropped_refl fun q hq => ?_
      obtain rfl : p = q := Option.some.inj (hc.symm.trans hq)
      exact hp

theorem discardStale_claimDropped (s : State) (r : Role) : s.ClaimDropped (fun q => s.roleOf q = some r) (s.discardStale r) := by
  unfold State.discardStale
  cases hc : s.rc.claim with
  | none => exact claimDropped_refl fun q hq => by simp [hc] at hq
  | some p =>
    dsimp only
    split_ifs with hp
    · exact discardStaged_claimDropped hc hp
    · refine claimDropped_refl fun q hq => ?_
      obtain rfl : p = q := Option.some.inj (hc.symm.trans hq)
      exact hp

/-- What the end of a claim speaks of is the same in both. -/
def State.SameClaim (s t : State) : Prop :=
  t.rc.claim = s.rc.claim ∧ t.rc.staged = s.rc.staged ∧ t.rc.applied = s.rc.applied ∧ t.rc.straps = s.rc.straps ∧
    ∀ p, (t.ports.get p).assembly = (s.ports.get p).assembly

theorem State.SameClaim.trans_dropped {drops : Port → Prop} (h : s.SameClaim t) (g : t.ClaimDropped drops u) :
    s.ClaimDropped drops u := by
  obtain ⟨hclaim, hstaged, happlied, -, hassembly⟩ := h
  obtain ⟨hdrop, hkeep, hothers⟩ := g
  rw [hclaim] at hdrop hkeep hothers
  rw [happlied] at hdrop
  rw [hstaged] at hkeep
  refine ⟨fun q hq hd => ?_, hkeep, fun q hq => (hothers q hq).trans (hassembly q)⟩
  obtain ⟨h1, h2, h3⟩ := hdrop q hq hd
  refine ⟨h1, h2, ?_⟩
  rw [PortState.SettingWordDropped, hassembly] at h3
  exact h3

theorem State.ClaimDropped.trans_same {drops : Port → Prop} (h : s.ClaimDropped drops t) (g : t.SameClaim u) :
    s.ClaimDropped drops u := by
  obtain ⟨hclaim, hstaged, -, -, hassembly⟩ := g
  obtain ⟨hdrop, hkeep, hothers⟩ := h
  refine ⟨fun q hq hd => ?_, fun hq => ?_, fun q hq => (hassembly q).trans (hothers q hq)⟩
  · obtain ⟨h1, h2, h3⟩ := hdrop q hq hd
    refine ⟨hclaim.trans h1, hstaged.trans h2, ?_⟩
    rw [PortState.SettingWordDropped, hassembly]
    exact h3
  · obtain ⟨h1, h2⟩ := hkeep hq
    exact ⟨hclaim.trans h1, hstaged.trans h2⟩

theorem State.SameClaim.roleOf (h : s.SameClaim t) (q : Port) : t.roleOf q = s.roleOf q := by
  obtain ⟨-, -, -, hstraps, -⟩ := h
  rw [State.roleOf, hstraps]
  rfl

/-- Of run control the end of an unbound claim reaches the claim and the staged copy alone. -/
theorem discardUnbound_rc_eq (s : State) : s.discardUnbound.rc =
    { s.rc with claim := s.discardUnbound.rc.claim, staged := s.discardUnbound.rc.staged } := by
  obtain h | h := discardUnbound_rc s <;> rw [h]
  simp

theorem discardStale_rc_eq (s : State) (r : Role) : (s.discardStale r).rc =
    { s.rc with claim := (s.discardStale r).rc.claim, staged := (s.discardStale r).rc.staged } := by
  obtain h | h := discardStale_rc s r <;> rw [h]
  simp

@[simp] theorem discardUnbound_hasNotice (s : State) (k : NoticeKind) (p : Port) :
    (s.discardUnbound.ports.get p).hasNotice k = (s.ports.get p).hasNotice k := by simp [PortState.hasNotice]

@[simp] theorem discardStale_hasNotice (s : State) (r : Role) (k : NoticeKind) (p : Port) :
    ((s.discardStale r).ports.get p).hasNotice k = (s.ports.get p).hasNotice k := by simp [PortState.hasNotice]

theorem discardUnbound_sameCauses (s : State) : s.SameCauses s.discardUnbound :=
  ⟨by simp, fun p => ⟨by simp, by simp⟩⟩

/-! ### What a request tells after what its effect tells -/

section
variable {p : Port} (c : BitVec 4) (r : Reply)

theorem allNoticed_respond {k : NoticeKind} (h : u.AllNoticed k) : (u.respond p c r).AllNoticed k := fun q => by
  rw [respond_hasNotice]
  exact h q

theorem shiftOut_sameClaim (s : State) (p : Port) : s.SameClaim (s.modPort p PortState.shiftOut) := by
  refine ⟨rfl, rfl, rfl, rfl, fun q => ?_⟩
  rw [modPort_get]
  split_ifs <;> rfl

theorem respond_sameClaim (u : State) (p : Port) : u.SameClaim (u.respond p c r) :=
  ⟨rfl, rfl, rfl, rfl, fun q => by simp⟩

theorem claimDropped_respond {drops : Port → Prop} (h : (s.modPort p PortState.shiftOut).ClaimDropped drops u) :
    s.ClaimDropped drops (u.respond p c r) :=
  ((shiftOut_sameClaim s p).trans_dropped h).trans_same (respond_sameClaim c r u p)

end

/-! ### The refusals of the run-state requests (R6, R8, R10) -/

theorem isVehicle_eq_false {p : Port} (h : s.roleOf p ≠ some .vehicle) : s.isVehicle p = false := by
  simpa [State.isVehicle] using h

theorem isVehicle_eq_true {p : Port} (h : s.roleOf p = some .vehicle) : s.isVehicle p = true := by
  simp [State.isVehicle, h]

theorem moving_of_fast (hs : s.stale .brake = false) (hv : 10 ≤ s.env.brake.v) : s.moving = true := by
  simp [State.moving, hs, hv]

theorem moving_eq_false (h : s.stale .brake = true ∨ s.env.brake.v < 10) : s.moving = false := by
  obtain h | h := h
  · simp [State.moving, h]
  · simp only [State.moving, Bool.and_eq_false_iff, decide_eq_false_iff_not]
    exact .inr (by omega)

theorem requestStandby_moving {p : Port} (hv : s.roleOf p = some .vehicle) (hr : s.rc.runState = .active)
    (hm : s.moving = true) : s.requestStandby p = (s, s.movingReply) := by
  simp [State.requestStandby, isVehicle_eq_true hv, hr, hm]

theorem requestHalt_moving {p : Port} (hv : s.roleOf p = some .vehicle) (hr : s.rc.runState = .active)
    (hm : s.moving = true) : s.requestHalt p = (s, s.movingReply) := by
  simp [State.requestHalt, isVehicle_eq_true hv, hr, hm]

/-- The roles below a role in the order of R8 come before it. -/
theorem firstUnbound_eq {r : Role} (hv : r ≠ .vehicle) (hr : ∀ q, s.roleOf q ≠ some r)
    (hbelow : ∀ r' : Role, r'.index < r.index → ∃ q, s.roleOf q = some r') : s.firstUnbound = r.strap.toNat := by
  have hno : roleHasPort s.rc.straps r = false := by
    rw [Bool.eq_false_iff, ne_eq, roleHasPort_iff]
    rintro ⟨q, hq⟩
    exact hr q hq
  have hyes : ∀ r' : Role, r'.index < r.index → roleHasPort s.rc.straps r' = true := fun r' h =>
    (roleHasPort_iff _ _).mpr (hbelow r' h)
  unfold State.firstUnbound
  cases r with
  | vehicle => exact absurd rfl hv
  | genset => simp [hno]
  | storage => simp [hno, hyes .genset (by decide)]
  | traction => simp [hno, hyes .genset (by decide), hyes .storage (by decide)]
  | brake => simp [hno, hyes .genset (by decide), hyes .storage (by decide), hyes .traction (by decide)]

theorem requestStandby_unbound {p : Port} {r : Role} (hv : s.roleOf p = some .vehicle) (hs : s.rc.runState = .halted)
    (hr : ∀ q, s.roleOf q ≠ some r) (hbelow : ∀ r' : Role, r'.index < r.index → ∃ q, s.roleOf q = some r') :
    s.requestStandby p = (s, .state r.strap.toNat) := by
  have hne : r ≠ .vehicle := by
    rintro rfl
    exact hr p hv
  have hincomplete : bindingComplete s.rc.straps = false := by
    rw [Bool.eq_false_iff, ne_eq, bindingComplete_iff]
    intro h
    obtain ⟨q, hq⟩ := h r
    exact hr q hq
  simp [State.requestStandby, isVehicle_eq_true hv, hs, hincomplete, firstUnbound_eq hne hr hbelow]

theorem wordOfNat_toNat (x : BitVec 3) : wordOfNat x.toNat = x.setWidth 16 := by
  revert x
  decide

/-- Settles O33: each refusal by the branch of its request that it is taken in. -/
theorem runRequestsRefused : Obligations.RunRequestsRefused := by
  intro p s hl
  refine ⟨fun i hi hrole => ?access, fun i hi hv hr hs hfast => ?moving, fun r hv hr hunbound hbelow => ?unbound,
    fun hv hr => ?selfCheck⟩
  case access =>
    have hout : (s.modPort p PortState.shiftOut).isVehicle p = false := isVehicle_eq_false hrole
    obtain rfl | rfl | rfl | rfl := hi
    · exact request_noEffect (effect := fun t => t.requestStandby p) (r := .access) hl (by simp [State.requestStandby, hout])
    · exact request_noEffect (effect := fun t => t.requestActive p) (r := .access) hl (by simp [State.requestActive, hout])
    · exact request_noEffect (effect := fun t => t.requestHalt p) (r := .access) hl (by simp [State.requestHalt, hout])
    · exact request_noEffect (effect := fun t => t.requestSelfCheck p) (r := .access) hl
        (by simp [State.requestSelfCheck, hout])
  case moving =>
    have hout : (s.modPort p PortState.shiftOut).moving = true := moving_of_fast hs hfast
    obtain rfl | rfl := hi
    · exact request_noEffect (effect := fun t => t.requestStandby p) hl (requestStandby_moving hv hr hout)
    · exact request_noEffect (effect := fun t => t.requestHalt p) hl (requestHalt_moving hv hr hout)
  case unbound =>
    rw [← wordOfNat_toNat]
    exact request_noEffect (effect := fun t => t.requestStandby p) hl
      (requestStandby_unbound (s := s.modPort p PortState.shiftOut) hv hr hunbound hbelow)
  case selfCheck =>
    have hout : (s.modPort p PortState.shiftOut).isVehicle p = true := isVehicle_eq_true hv
    obtain hr | hr := hr
    · exact request_noEffect (effect := fun t => t.requestSelfCheck p) (r := wrongState) hl
        (by simp [State.requestSelfCheck, hout, hr])
    · exact request_noEffect (effect := fun t => t.requestSelfCheck p) (r := wrongState) hl
        (by simp [State.requestSelfCheck, hout, hr])

/-! ### RUN_STANDBY (R8, R10) -/

/-- The recorder that a change of the run state leaves (R162, R163). -/
theorem changeRunState_rcd (s : State) (x : RunState) : (s.changeRunState x).rcd = s.rcd.settled x s.now := by
  simp [State.changeRunState, settleRecorder_rcd]

theorem settled_of_same {r : Recorder} {x : RunState} (n : Nat) (h : r.state = recorderState r.table x) :
    r.settled x n = r := if_pos h.symm

/-- A recorder that begins to record does so afresh at RUN. -/
theorem settled_recording {r : Recorder} {x : RunState} (n : Nat) (hx : recorderState r.table x = .recording)
    (h : r.state ≠ .recording) :
    r.settled x n = { r with state := .recording, level := .run, still := none, due := some (n + 20) } := by
  unfold Recorder.settled
  rw [hx, if_neg h.symm, if_pos rfl]

theorem recorderState_frozen {x : SnapshotTable} (h : x.frozen = true) (r : RunState) : recorderState x r = .frozen :=
  if_pos h

theorem recorderState_driving {x : SnapshotTable} (h : x.frozen = false) {r : RunState} (hr : r = .standby ∨ r = .active) :
    recorderState x r = .recording := by
  obtain rfl | rfl := hr <;> simp [recorderState, h]

/-- STANDBY and ACTIVE ask for the same recorder state, and so do SELF_CHECK and HALTED (R162). -/
theorem recorderState_driving_congr (x : SnapshotTable) : recorderState x .active = recorderState x .standby := rfl

theorem exec_runStandby_taken {p : Port} (hl : s.Listening) {v : State}
    (he : (s.modPort p PortState.shiftOut).requestStandby p = (v, .ok 0#16))
    (hout : (v.ports.get p).dataOut = some (s.ports.get p).response.frame) :
    exec (.runStandby p) s = .next (v.respond p 4#4 (.ok 0#16)) ∧
      Answered s (v.respond p 4#4 (.ok 0#16)) p 4#4 .ok 0#16 :=
  exec_request_taken (effect := fun t => t.requestStandby p) hl he hout

@[simp] theorem enterStandby_hasNotice (s : State) (k : NoticeKind) (p : Port) :
    (s.enterStandby.ports.get p).hasNotice k = ((s.ports.get p).hasNotice k || decide (k = .runStateChange) ||
      (s.causeActive .gensetStartFail && decide (k = .cutbackChange))) := by
  simp [State.enterStandby, State.startDeadlines]

theorem enterStandby_causesTold (s : State) : s.CausesTold s.enterStandby := by
  have hchanged : s.SameCauses ((s.startDeadlines.changeRunState .standby).setSplit
      { (s.startDeadlines.changeRunState .standby).split with
        evalDue := some ((s.startDeadlines.changeRunState .standby).now + Config.evaluationPeriod) }) :=
    ⟨by simp, fun p => ⟨by simp [State.changeRunState], by simp [State.startDeadlines]⟩⟩
  exact (hchanged.trans_told (clear_causesTold _ .gensetStartFail)).trans_same (discardUnbound_sameCauses _)

@[simp] theorem dropToStandby_hasNotice (s : State) (k : NoticeKind) (p : Port) :
    (s.dropToStandby.ports.get p).hasNotice k = ((s.ports.get p).hasNotice k || decide (k = .runStateChange) ||
      (s.causeActive .gensetStartFail && decide (k = .cutbackChange))) := by
  simp [State.dropToStandby, causeActive_of_cut (s := s) (t := s.leaveActive) (by simp)]

theorem dropToStandby_causesTold (s : State) : s.CausesTold s.dropToStandby := by
  have hchanged : s.SameCauses (s.leaveActive.changeRunState .standby) :=
    ⟨by simp, fun p => ⟨by simp [State.changeRunState], by simp⟩⟩
  exact hchanged.trans_told (clear_causesTold _ .gensetStartFail)

/-- The notices of an entry to STANDBY. -/
theorem noticesWithin_standby (h : ∀ p k, (t.ports.get p).hasNotice k = ((s.ports.get p).hasNotice k ||
    decide (k = .runStateChange) || (s.causeActive .gensetStartFail && decide (k = .cutbackChange)))) :
    State.NoticesWithin [.runStateChange, .cutbackChange] s t := by
  intro p k
  rw [h]
  refine ⟨fun hk => by simp [hk], fun hk => ?_⟩
  simp only [List.mem_cons, List.not_mem_nil, or_false, not_or] at hk
  simp [hk]

theorem enterStandby_claimDropped (s : State) : s.ClaimDropped (fun q => s.roleOf q = none) s.enterStandby := by
  have hsame : s.SameClaim (((s.startDeadlines.changeRunState .standby).setSplit
      { (s.startDeadlines.changeRunState .standby).split with
        evalDue := some ((s.startDeadlines.changeRunState .standby).now + Config.evaluationPeriod) }).clear
        .gensetStartFail) :=
    ⟨by simp, by simp, by simp, by simp, fun p => by simp⟩
  have hdropped := discardUnbound_claimDropped (((s.startDeadlines.changeRunState .standby).setSplit
      { (s.startDeadlines.changeRunState .standby).split with
        evalDue := some ((s.startDeadlines.changeRunState .standby).now + Config.evaluationPeriod) }).clear
        .gensetStartFail)
  simp only [hsame.roleOf] at hdropped
  exact hsame.trans_dropped hdropped

end Sys2Proof.Machine
end

section
/-! PROOFS. The entries to STANDBY and to HALTED as a request takes them, and the end of a self-check (R8, R10, R11, R13). -/

namespace Sys2Proof.Machine

variable {s t u : State}

/-! ### RUN_STANDBY (R8, R10) -/

theorem enterStandby_rc (s : State) : s.enterStandby.rc =
    { s.rc with runState := .standby, claim := s.enterStandby.rc.claim, staged := s.enterStandby.rc.staged } := by
  unfold State.enterStandby
  rw [discardUnbound_rc_eq]
  simp

theorem enterStandby_deadline (s : State) (r : Role) : s.enterStandby.env.book.get r =
    { s.env.book.get r with deadline := some (s.now + 4 * s.rc.applied.deadline.get r) } := by
  simp [State.enterStandby, State.startDeadlines]

theorem enterStandby_split (s : State) : s.enterStandby.split = { s.split with evalDue := some (s.now + 10) } := by
  simp [State.enterStandby]
  rfl

@[simp] theorem enterStandby_causeActive (s : State) (c : Cause) : s.enterStandby.causeActive c =
    (s.causeActive c && decide (c ≠ .gensetStartFail)) := by
  simp [State.enterStandby]

theorem enterStandby_cut (s : State) : s.enterStandby.cut = { s.cut with live := s.enterStandby.cut.live } := by
  simp [State.enterStandby, clear_cut]

theorem enterStandby_rcd (s : State) : s.enterStandby.rcd = s.rcd.settled .standby s.now := by
  simp [State.enterStandby, changeRunState_rcd]

theorem enterStandby_env (s : State) : { s.enterStandby.env with book := s.env.book } = s.env := by
  simp [State.enterStandby, State.startDeadlines]

theorem enterStandby_portChanges (s : State) (q : Port) : PortChanges [.assembly, .notices] s s.enterStandby q := by
  intro f hf
  cases f <;> simp [PortField.Same, State.enterStandby] at hf ⊢

theorem enterStandby_changes (s : State) :
    Changes [.runControl, .envelope, .cutback, .split, .recorder, .ports] s s.enterStandby := by
  intro b hb
  cases b <;> simp [Block.Same, State.enterStandby] at hb ⊢

@[simp] theorem dropToStandby_rc (s : State) : s.dropToStandby.rc = { s.rc with runState := .standby } := by
  simp [State.dropToStandby]

theorem dropToStandby_split (s : State) : s.dropToStandby.split = { s.split with
    tMc := 0, lDrive := 0, lRegen := 0, grant := 0, friction := s.takenTRr, source := .notActive } := by
  simp [State.dropToStandby, State.leaveActive, State.zeroCommand]

theorem dropToStandby_gen (s : State) : s.dropToStandby.gen = { s.gen with setpoint := 0 } := by
  simp [State.dropToStandby, State.leaveActive, State.zeroCommand]

theorem dropToStandby_store (s : State) : s.dropToStandby.store = { s.store with timer := none } := by
  simp [State.dropToStandby, State.leaveActive, State.zeroCommand]

@[simp] theorem dropToStandby_causeActive (s : State) (c : Cause) : s.dropToStandby.causeActive c =
    (s.causeActive c && decide (c ≠ .gensetStartFail)) := by
  simp [State.dropToStandby]

theorem dropToStandby_cut (s : State) : s.dropToStandby.cut = { s.cut with live := s.dropToStandby.cut.live } := by
  simp [State.dropToStandby, clear_cut]

theorem dropToStandby_rcd (s : State) : s.dropToStandby.rcd = s.rcd.settled .standby s.now := by
  simp [State.dropToStandby, changeRunState_rcd]

theorem dropToStandby_portChanges (s : State) (q : Port) : PortChanges [.notices] s s.dropToStandby q := by
  intro f hf
  cases f <;> simp [PortField.Same, State.dropToStandby] at hf ⊢

theorem dropToStandby_changes (s : State) :
    Changes [.runControl, .cutback, .split, .genset, .store, .recorder, .ports] s s.dropToStandby := by
  intro b hb
  cases b <;> simp [Block.Same, State.dropToStandby] at hb ⊢

theorem requestStandby_halted {p : Port} (hv : s.roleOf p = some .vehicle) (hr : s.rc.runState = .halted)
    (hb : bindingComplete s.rc.straps = true) : s.requestStandby p = (s.enterStandby, .ok 0#16) := by
  simp [State.requestStandby, isVehicle_eq_true hv, hr, hb]

theorem requestStandby_active {p : Port} (hv : s.roleOf p = some .vehicle) (hr : s.rc.runState = .active)
    (hm : s.moving = false) : s.requestStandby p = (s.dropToStandby, .ok 0#16) := by
  simp [State.requestStandby, isVehicle_eq_true hv, hr, hm]

theorem requestStandby_standby {p : Port} (hv : s.roleOf p = some .vehicle) (hr : s.rc.runState = .standby) :
    s.requestStandby p = (s, .ok 0#16) := by
  simp [State.requestStandby, isVehicle_eq_true hv, hr]

/-- Settles O30: the entry to STANDBY from HALTED, the drop to it from ACTIVE, and the state that is there already. -/
theorem runStandbyTaken : Obligations.RunStandbyTaken := by
  intro p s hrun hv
  refine ⟨fun hr hb => ?halted, fun hr hslow => ?active, fun hr => ?standby⟩
  case halted =>
    let u := s.modPort p PortState.shiftOut
    obtain ⟨hexec, hanswer⟩ := exec_request_taken (effect := fun t => t.requestStandby p) ⟨hrun, by simp [hr]⟩
      (requestStandby_halted (s := u) hv hr hb) (by simpa [u, State.enterStandby] using shiftOut_dataOut s p)
    have hrcd : (u.enterStandby.respond p 4#4 (.ok 0#16)).rcd = s.rcd.settled .standby s.now := by
      simp [u, enterStandby_rcd]
    refine ⟨_, hexec, hanswer, ?_, enterStandby_deadline u, enterStandby_env u, enterStandby_split u,
      enterStandby_cut u, enterStandby_causeActive u, allNoticed_respond _ _ fun q => by simp,
      causesTold_respond _ _ (enterStandby_causesTold u),
      noticesWithin_respond _ _ (noticesWithin_standby fun q k => enterStandby_hasNotice u k q),
      portsChange_respond _ _ (enterStandby_portChanges u), fun hfree hs => ?_, fun hfrozen hs => ?_,
      claimDropped_respond _ _ (enterStandby_claimDropped u), enterStandby_rc u,
      changes_respond _ _ (by simp) (enterStandby_changes u)⟩
    · exact congrArg RunControl.runState (enterStandby_rc u)
    · exact hrcd.trans (settled_recording _ (recorderState_driving hfree (.inl rfl)) hs)
    · rw [State.RecorderSettled, recorderState_frozen hfrozen] at hs
      exact hrcd.trans (settled_of_same _ (hs.trans (recorderState_frozen hfrozen _).symm))
  case active =>
    let u := s.modPort p PortState.shiftOut
    have hm : u.moving = false := moving_eq_false hslow
    obtain ⟨hexec, hanswer⟩ := exec_request_taken (effect := fun t => t.requestStandby p) ⟨hrun, by simp [hr]⟩
      (requestStandby_active (s := u) hv hr hm) (by simpa [u, State.dropToStandby] using shiftOut_dataOut s p)
    have hrcd : (u.dropToStandby.respond p 4#4 (.ok 0#16)).rcd = s.rcd.settled .standby s.now := by
      simp [u, dropToStandby_rcd]
    refine ⟨_, hexec, hanswer, dropToStandby_rc u, dropToStandby_split u, dropToStandby_gen u, dropToStandby_store u,
      dropToStandby_causeActive u, dropToStandby_cut u, allNoticed_respond _ _ fun q => by simp,
      causesTold_respond _ _ (dropToStandby_causesTold u),
      noticesWithin_respond _ _ (noticesWithin_standby fun q k => dropToStandby_hasNotice u k q),
      portsChange_respond _ _ (dropToStandby_portChanges u), fun hs => ?_,
      changes_respond _ _ (by simp) (dropToStandby_changes u)⟩
    rw [State.RecorderSettled, hr, recorderState_driving_congr] at hs
    exact hrcd.trans (settled_of_same _ hs)
  case standby =>
    exact request_noEffect (effect := fun t => t.requestStandby p) ⟨hrun, by simp [hr]⟩
      (requestStandby_standby (s := s.modPort p PortState.shiftOut) hv hr)

/-! ### The entry to HALTED (R11) -/

/-- The state that an entry to HALTED works on: from ACTIVE the commands are zeroed first. -/
def State.unactivated (s : State) : State := if s.rc.runState = .active then s.leaveActive else s

/-- The state that an entry to HALTED requests its checkpoint in. -/
def State.halting (s : State) : State :=
  (s.unactivated.stopDeadlines.stopSplit.sendOff).changeRunState .halted

theorem enterHalted_eq (s : State) : s.enterHalted = s.halting.requestCheckpoint.discardUnbound := rfl

@[simp] theorem unactivated_untouched (s : State) :
    s.unactivated.powered = s.powered ∧ s.unactivated.resetAsserted = s.resetAsserted ∧ s.unactivated.now = s.now ∧
    s.unactivated.freeCount = s.freeCount ∧ s.unactivated.rc = s.rc ∧ s.unactivated.env = s.env ∧
    s.unactivated.cut = s.cut ∧ s.unactivated.wear = s.wear ∧ s.unactivated.rcd = s.rcd ∧
    s.unactivated.ports = s.ports ∧ s.unactivated.pending = s.pending := by
  unfold State.unactivated
  split_ifs <;> simp

theorem unactivated_gen (s : State) : s.unactivated.gen = s.gen ∨ s.unactivated.gen = { s.gen with setpoint := 0 } := by
  unfold State.unactivated
  split_ifs <;> simp [State.leaveActive, State.zeroCommand]

theorem unactivated_store (s : State) : s.unactivated.store =
    { s.store with timer := if s.rc.runState = .active then none else s.store.timer } := by
  unfold State.unactivated
  split_ifs <;> simp [State.leaveActive, State.zeroCommand]

theorem unactivated_stopped (s : State) (n : Int) : s.unactivated.split.stopped n = s.split.stopped n := by
  unfold State.unactivated
  split_ifs <;> simp [State.leaveActive, State.zeroCommand, Split.stopped]

theorem unactivated_takenTRr (s : State) : s.unactivated.stopDeadlines.takenTRr = s.takenTRr := by
  have hstale : s.unactivated.stopDeadlines.stale .brake = s.stale .brake := by
    rw [stopDeadlines_stale]
    simp [State.stale]
  have henv : s.unactivated.stopDeadlines.env.brake = s.env.brake := by simp [State.stopDeadlines]
  rw [State.takenTRr, State.takenTRr, hstale, henv]

@[simp] theorem halting_rc (s : State) : s.halting.rc = { s.rc with runState := .halted } := by
  simp [State.halting]

theorem halting_split (s : State) : s.halting.split = s.split.stopped s.takenTRr := by
  simpa [State.halting, State.stopSplit, unactivated_takenTRr] using unactivated_stopped s s.takenTRr

theorem halting_gen (s : State) : s.halting.gen = { s.gen with
    mgr := .off, setpoint := 0, minRun := none, start := none, absExit := none
    minOff := if s.gen.mgr = .off then s.gen.minOff else some (s.now + s.rc.applied.tMinOff * 1000) } := by
  obtain h | h := unactivated_gen s <;> simp [State.halting, h]

@[simp] theorem halting_causeActive (s : State) (c : Cause) : s.halting.causeActive c =
    (s.causeActive c && (decide (c ≠ .zoneBreach) || decide (s.gen.mgr = .off))) := by
  have hbase : s.unactivated.causeActive c = s.causeActive c := by simp [State.causeActive]
  obtain h | h := unactivated_gen s <;> simp [State.halting, h, hbase]

theorem halting_cut (s : State) : s.halting.cut = { s.cut with live := s.halting.cut.live } := by
  have h := sendOff_cut_eq s.unactivated.stopDeadlines.stopSplit
  simpa [State.halting] using h

theorem halting_store (s : State) : s.halting.store =
    { s.store with timer := if s.rc.runState = .active then none else s.store.timer } := by
  simp [State.halting, unactivated_store]

@[simp] theorem halting_rcd (s : State) : s.halting.rcd = s.rcd.settled .halted s.now := by
  simp [State.halting, changeRunState_rcd]

theorem halting_causesTold (s : State) : s.CausesTold s.halting := by
  have hbase : s.SameCauses s.unactivated.stopDeadlines.stopSplit := ⟨by simp, fun p => by simp⟩
  exact (hbase.trans_told (sendOff_causesTold _)).trans_same (changeRunState_sameCauses _ _)

theorem halting_noticesWithin (s : State) : State.NoticesWithin [.runStateChange, .cutbackChange] s s.halting := by
  intro p k
  obtain ⟨hkept, hwithin⟩ := sendOff_noticesWithin s.unactivated.stopDeadlines.stopSplit p k
  simp only [stopSplit_untouched, stopDeadlines_untouched, unactivated_untouched] at hkept hwithin
  refine ⟨fun h => by simp [State.halting, hkept h], fun hk => ?_⟩
  obtain ⟨hrun, hcut⟩ := not_or.mp (mt List.mem_cons.mpr hk)
  simp [State.halting, hrun, hwithin hcut]

theorem halting_sameClaim (s : State) : s.SameClaim s.halting :=
  ⟨by simp, by simp, by simp, by simp, fun p => by simp [State.halting]⟩

@[simp] theorem halting_now (s : State) : s.halting.now = s.now := by simp [State.halting]

@[simp] theorem halting_totals (s : State) : s.halting.totals = s.totals := by simp [State.halting, State.totals]

theorem halting_env (s : State) : { s.halting.env with book := s.env.book } = s.env := by
  simp [State.halting, State.stopDeadlines]

theorem halting_deadline (s : State) (r : Role) :
    s.halting.env.book.get r = { s.env.book.get r with deadline := none } := by
  simp [State.halting, State.stopDeadlines]

theorem enterHalted_rc (s : State) : s.enterHalted.rc =
    { s.rc with runState := .halted, claim := s.enterHalted.rc.claim, staged := s.enterHalted.rc.staged } := by
  rw [enterHalted_eq, discardUnbound_rc_eq]
  simp

theorem enterHalted_claimDropped (s : State) : s.ClaimDropped (fun q => s.roleOf q = none) s.enterHalted := by
  have hsame : s.SameClaim s.halting.requestCheckpoint := by
    obtain ⟨-, -, -, -, h5⟩ := halting_sameClaim s
    exact ⟨by simp, by simp, by simp, by simp, by simpa using h5⟩
  have hdropped := discardUnbound_claimDropped s.halting.requestCheckpoint
  simp only [hsame.roleOf] at hdropped
  exact hsame.trans_dropped hdropped

theorem enterHalted_deadline (s : State) (r : Role) :
    s.enterHalted.env.book.get r = { s.env.book.get r with deadline := none } := by
  simp [enterHalted_eq, halting_deadline]

theorem enterHalted_env (s : State) : { s.enterHalted.env with book := s.env.book } = s.env := by
  simp [enterHalted_eq, halting_env]

theorem enterHalted_split (s : State) : s.enterHalted.split = s.split.stopped s.takenTRr := by
  simp [enterHalted_eq, halting_split]

theorem enterHalted_gen (s : State) : s.enterHalted.gen = { s.gen with
    mgr := .off, setpoint := 0, minRun := none, start := none, absExit := none
    minOff := if s.gen.mgr = .off then s.gen.minOff else some (s.now + s.rc.applied.tMinOff * 1000) } := by
  rw [enterHalted_eq, ← halting_gen]
  simp

theorem enterHalted_requested (s : State) : Store.Requested
    { s.store with timer := if s.rc.runState = .active then none else s.store.timer } s.enterHalted.store s.totals
    s.now := by
  have h := requestCheckpoint_requested s.halting
  rw [halting_store, halting_totals, halting_now] at h
  simpa [enterHalted_eq] using h

theorem enterHalted_zoneBreach (s : State) :
    s.enterHalted.causeActive .zoneBreach = (s.causeActive .zoneBreach && decide (s.gen.mgr = .off)) := by
  have h := (requestCheckpoint_storeTold s.halting).others .zoneBreach (by decide)
  rw [enterHalted_eq, discardUnbound_causeActive, h]
  simp

theorem enterHalted_others (s : State) {c : Cause} (hz : c ≠ .zoneBreach) (hw : c ≠ .wearStoreFault) :
    s.enterHalted.causeActive c = s.causeActive c := by
  have h := (requestCheckpoint_storeTold s.halting).others c hw
  rw [enterHalted_eq, discardUnbound_causeActive, h]
  simp [hz]

theorem enterHalted_faultTold (s : State) : s.FaultTold s.enterHalted := by
  obtain ⟨hcause, hnotice⟩ := requestCheckpoint_faultTold s.halting
  have hfault : s.halting.store.fault = s.store.fault := by rw [halting_store]
  have hkept (p : Port) : (s.halting.ports.get p).hasNotice .storeFault = (s.ports.get p).hasNotice .storeFault :=
    (halting_noticesWithin s p .storeFault).2 (by decide)
  rw [hfault] at hcause
  refine ⟨?_, fun p => ?_⟩
  · rw [enterHalted_eq, discardUnbound_causeActive, hcause]
    simp
  · rw [enterHalted_eq, discardUnbound_hasNotice, hnotice p, hfault, hkept]
    simp

theorem enterHalted_cut (s : State) : s.enterHalted.cut = { s.cut with live := s.enterHalted.cut.live } := by
  have h := (requestCheckpoint_storeTold s.halting).cut
  rw [halting_cut] at h
  simpa [enterHalted_eq] using h

theorem enterHalted_causesTold (s : State) : s.CausesTold s.enterHalted := by
  have htold := requestCheckpoint_storeTold s.halting
  refine ((halting_causesTold s).trans htold.causes fun c => ?_).trans_same (discardUnbound_sameCauses _)
  by_cases hc : c = .wearStoreFault
  · exact .inl (by simp [hc])
  · exact .inr (htold.others c hc)

theorem enterHalted_noticesWithin (s : State) :
    State.NoticesWithin [.runStateChange, .cutbackChange, .storeFault] s s.enterHalted := by
  have htold := (requestCheckpoint_storeTold s.halting).within
  have hwithin := noticesWithin_trans (kinds := [.runStateChange, .cutbackChange, .storeFault])
    (noticesWithin_mono (halting_noticesWithin s) (by simp)) (noticesWithin_mono htold (by simp))
  exact fun p k => by simpa [enterHalted_eq] using hwithin p k

theorem enterHalted_allNoticed (s : State) : s.enterHalted.AllNoticed .runStateChange := fun p => by
  have hbefore : (s.halting.ports.get p).hasNotice .runStateChange = true := by simp [State.halting]
  have hkept := ((requestCheckpoint_storeTold s.halting).within p .runStateChange).1 hbefore
  simpa [enterHalted_eq] using hkept

theorem enterHalted_portChanges (s : State) (q : Port) : PortChanges [.assembly, .notices, .latch] s s.enterHalted q := by
  have hbefore : PortChanges [.notices] s s.halting q := fun f hf => by
    cases f <;> simp [PortField.Same, State.halting] at hf ⊢
  have hafter : PortChanges [.assembly] s.halting.requestCheckpoint s.enterHalted q := fun f hf => by
    cases f <;> simp [PortField.Same, enterHalted_eq] at hf ⊢
  exact portChanges_trans (portChanges_trans (portChanges_mono hbefore (by simp))
    (portChanges_mono ((requestCheckpoint_storeTold s.halting).port q) (by simp))) (portChanges_mono hafter (by simp))

theorem enterHalted_rcd (s : State) : s.enterHalted.rcd = s.rcd.settled .halted s.now := by
  simp [enterHalted_eq]

theorem enterHalted_changes (s : State) :
    Changes [.runControl, .envelope, .cutback, .split, .genset, .store, .recorder, .ports] s s.enterHalted := by
  intro b hb
  cases b <;> simp [Block.Same, enterHalted_eq, State.halting] at hb ⊢

/-! ### RUN_HALT (R10, R11) -/

theorem requestHalt_standby {p : Port} (hv : s.roleOf p = some .vehicle) (hr : s.rc.runState = .standby) :
    s.requestHalt p = (s.enterHalted, .ok 0#16) := by
  simp [State.requestHalt, isVehicle_eq_true hv, hr]

theorem requestHalt_active {p : Port} (hv : s.roleOf p = some .vehicle) (hr : s.rc.runState = .active)
    (hm : s.moving = false) : s.requestHalt p = (s.enterHalted, .ok 0#16) := by
  simp [State.requestHalt, isVehicle_eq_true hv, hr, hm]

theorem requestHalt_halted {p : Port} (hv : s.roleOf p = some .vehicle) (hr : s.rc.runState = .halted) :
    s.requestHalt p = (s, .ok 0#16) := by
  simp [State.requestHalt, isVehicle_eq_true hv, hr]

/-- A recorder that comes to HALTED stops, and does so for good when a snapshot holds it frozen. -/
theorem settled_stopping {r : Recorder} {x : RunState} (n : Nat) (hx : recorderState r.table x = .stopped)
    (h : r.state ≠ .stopped) : r.settled x n = { r with state := .stopped, due := none } := by
  unfold Recorder.settled
  rw [hx, if_neg h.symm, if_neg (by simp)]

/-- Settles O32: the entry to HALTED block by block, from STANDBY and from a standing ACTIVE. -/
theorem runHaltTaken : Obligations.RunHaltTaken := by
  intro p s hrun hv
  refine ⟨fun hfrom => ?taken, fun hr => ?halted⟩
  case taken =>
    let u := s.modPort p PortState.shiftOut
    have hdriving : s.rc.runState = .standby ∨ s.rc.runState = .active := hfrom.imp id And.left
    have heffect : u.requestHalt p = (u.enterHalted, .ok 0#16) := by
      obtain hr | ⟨hr, hslow⟩ := hfrom
      · exact requestHalt_standby hv hr
      · exact requestHalt_active hv hr (moving_eq_false hslow)
    have hl : s.Listening := ⟨hrun, by obtain hr | hr := hdriving <;> simp [hr]⟩
    obtain ⟨hexec, hanswer⟩ := exec_request_taken (effect := fun t => t.requestHalt p) hl heffect
      (by simpa [u, enterHalted_eq, State.halting] using shiftOut_dataOut s p)
    have hrcd : (u.enterHalted.respond p 4#4 (.ok 0#16)).rcd = s.rcd.settled .halted s.now := by
      simp [u, enterHalted_rcd]
    have hgen := enterHalted_gen u
    have hcauses (c : Cause) : (u.enterHalted.respond p 4#4 (.ok 0#16)).causeActive c = u.enterHalted.causeActive c := by
      simp
    have hminOff : (u.enterHalted.respond p 4#4 (.ok 0#16)).gen.minOff =
        if u.gen.mgr = .off then u.gen.minOff else some (u.now + u.rc.applied.tMinOff * 1000) := by
      simp [hgen]
    have hrequested : Store.Requested
        { u.store with timer := if u.rc.runState = .active then none else u.store.timer }
        (u.enterHalted.respond p 4#4 (.ok 0#16)).store u.totals u.now := by
      simpa using enterHalted_requested u
    refine ⟨_, hexec, hanswer, enterHalted_rc u, claimDropped_respond _ _ (enterHalted_claimDropped u),
      enterHalted_deadline u, enterHalted_env u, enterHalted_split u, by simp [hgen],
      by simp [hgen], by simp [hgen, u], by simp [hgen, u], by simp [hgen, u], by simp [hgen], by simp [hgen],
      by simp [hgen], hminOff, hrequested, (hcauses _).trans (enterHalted_zoneBreach u),
      faultTold_respond _ _ (enterHalted_faultTold u), fun c hz hw => (hcauses c).trans (enterHalted_others u hz hw), by simpa [u] using enterHalted_cut u,
      allNoticed_respond _ _ (enterHalted_allNoticed u), causesTold_respond _ _ (enterHalted_causesTold u),
      noticesWithin_respond _ _ (enterHalted_noticesWithin u), portsChange_respond _ _ (enterHalted_portChanges u),
      fun hs => ⟨fun hfrozen => ?_, fun hfree => ?_⟩, changes_respond _ _ (by simp) (enterHalted_changes u)⟩
    · rw [State.RecorderSettled, recorderState_frozen hfrozen] at hs
      exact hrcd.trans (settled_of_same _ (hs.trans (recorderState_frozen hfrozen _).symm))
    · rw [State.RecorderSettled, recorderState_driving hfree hdriving] at hs
      exact hrcd.trans (settled_stopping _ (by simp [recorderState, hfree]) (by simp [hs]))
  case halted =>
    exact request_noEffect (effect := fun t => t.requestHalt p) ⟨hrun, by simp [hr]⟩
      (requestHalt_halted (s := s.modPort p PortState.shiftOut) hv hr)

end Sys2Proof.Machine
end

section
/-! PROOFS. The end of a self-check (R13, R14, R53, R55, R57). -/

namespace Sys2Proof.Machine

variable {s t u : State}

/-- The result of a self-check on record, the slip hold timer and the hold line sampler as its end leaves them. -/
def State.checkRecorded (s : State) (f : StepFailures) : State :=
  (s.setRc { s.rc with
    checkDone := true, checkFail := (firstFailure f).isSome, checkStep := (firstFailure f).getD 0#2
    checkEnd := none }).setCut
    { s.cut with slipTimer := s.cut.slipTimer.afterSelfCheck, holdFrom := s.now, holdLevel := none }

/-- The cause SELF_CHECK_FAIL as the self-check found it. -/
def State.judged (s : State) (f : StepFailures) : State :=
  (s.checkRecorded f).setCause .selfCheckFail (firstFailure f).isSome

/-- The latch sets begun afresh at the end of a self-check that no request began. -/
def State.latchedAfresh (s : State) : State :=
  if s.rc.checkRequested then s else s.mapPorts fun x => { x with latch := s.cut.live }

theorem endSelfCheck_eq (s : State) (f : StepFailures) : s.endSelfCheck f = (s.judged f).latchedAfresh.enterHalted := rfl

@[simp] theorem latchedAfresh_untouched (s : State) :
    s.latchedAfresh.powered = s.powered ∧ s.latchedAfresh.resetAsserted = s.resetAsserted ∧
    s.latchedAfresh.now = s.now ∧ s.latchedAfresh.freeCount = s.freeCount ∧ s.latchedAfresh.rc = s.rc ∧
    s.latchedAfresh.env = s.env ∧ s.latchedAfresh.cut = s.cut ∧ s.latchedAfresh.split = s.split ∧
    s.latchedAfresh.gen = s.gen ∧ s.latchedAfresh.wear = s.wear ∧ s.latchedAfresh.store = s.store ∧
    s.latchedAfresh.rcd = s.rcd ∧ s.latchedAfresh.pending = s.pending := by
  unfold State.latchedAfresh
  split_ifs <;> simp

@[simp] theorem latchedAfresh_hasNotice (s : State) (k : NoticeKind) (p : Port) :
    (s.latchedAfresh.ports.get p).hasNotice k = (s.ports.get p).hasNotice k := by
  unfold State.latchedAfresh
  split_ifs <;> simp [PortState.hasNotice]

theorem latchedAfresh_portChanges (s : State) (q : Port) : PortChanges [.latch] s s.latchedAfresh q := by
  intro f hf
  unfold State.latchedAfresh
  split_ifs <;> cases f <;> simp [PortField.Same] at hf ⊢

@[simp] theorem judged_rc (s : State) (f : StepFailures) : (s.judged f).rc = { s.rc with
    checkDone := true, checkFail := (firstFailure f).isSome, checkStep := (firstFailure f).getD 0#2
    checkEnd := none } := by
  simp [State.judged, State.checkRecorded]

@[simp] theorem judged_untouched (s : State) (f : StepFailures) :
    (s.judged f).powered = s.powered ∧ (s.judged f).resetAsserted = s.resetAsserted ∧ (s.judged f).now = s.now ∧
    (s.judged f).freeCount = s.freeCount ∧ (s.judged f).env = s.env ∧ (s.judged f).wear = s.wear ∧
    (s.judged f).store = s.store ∧ (s.judged f).rcd = s.rcd ∧ (s.judged f).pending = s.pending := by
  have hrcd : (s.judged f).rcd = s.rcd := by
    simp only [State.judged, State.setCause]
    split_ifs
    · exact raise_untriggered _ _ rfl
    · simp [State.checkRecorded]
  refine ⟨?_, ?_, ?_, ?_, ?_, ?_, ?_, hrcd, ?_⟩ <;> simp [State.judged, State.checkRecorded]

@[simp] theorem judged_causeActive (s : State) (f : StepFailures) (c : Cause) : (s.judged f).causeActive c =
    if c = .selfCheckFail then (firstFailure f).isSome else s.causeActive c := by
  rw [State.judged, setCause_causeActive]
  rfl

theorem judged_cut (s : State) (f : StepFailures) : (s.judged f).cut = { s.cut with
    live := (s.judged f).cut.live, slipTimer := s.cut.slipTimer.afterSelfCheck, holdFrom := s.now
    holdLevel := none } := by
  exact setCause_cut_eq (s.checkRecorded f) _ _

theorem judged_causesTold (s : State) (f : StepFailures) : s.CausesTold (s.judged f) := by
  have hsame : s.SameCauses (s.checkRecorded f) := ⟨rfl, fun p => ⟨rfl, rfl⟩⟩
  exact hsame.trans_told (setCause_causesTold _ _ _)

/-- What the verdict does to the command is done again, or undone, by the entry to HALTED. -/
theorem judged_stopped (s : State) (f : StepFailures) (n : Int) :
    (s.judged f).split.stopped n = s.split.stopped n := by
  unfold State.judged State.setCause
  split_ifs
  · cases h : (s.checkRecorded f).causeActive .selfCheckFail with
    | true =>
      rw [raise_of_active _ h]
      rfl
    | false =>
      obtain ⟨-, hsplit⟩ := raise_hard _ h rfl
      rw [hsplit]
      simp [Split.stopped, State.checkRecorded]
  · simp [State.checkRecorded]

theorem judged_gen (s : State) (f : StepFailures) :
    (s.judged f).gen = s.gen ∨ (s.judged f).gen = { s.gen with setpoint := 0 } := by
  unfold State.judged State.setCause
  split_ifs
  · cases h : (s.checkRecorded f).causeActive .selfCheckFail with
    | true =>
      rw [raise_of_active _ h]
      exact .inl rfl
    | false =>
      obtain ⟨hgen, -⟩ := raise_hard _ h rfl
      exact .inr hgen
  · exact .inl (by simp [State.checkRecorded])

/-- A cause that triggers no snapshot tells of the cutback alone (R42, R45). -/
theorem raise_noticesWithin_untriggered (s : State) {c : Cause} (h : c.historyTrigger = none) :
    State.NoticesWithin [.cutbackChange] s (s.raise c) := by
  cases ha : s.causeActive c with
  | true =>
    rw [raise_of_active s ha]
    exact noticesWithin_refl s _
  | false =>
    intro p k
    rw [raise_hasNotice s ha]
    refine ⟨fun hs => by simp [hs], fun hk => ?_⟩
    have hne : k ≠ .cutbackChange := by simpa using hk
    simp [State.raiseTells, h, hne]

theorem judged_noticesWithin (s : State) (f : StepFailures) : State.NoticesWithin [.cutbackChange] s (s.judged f) := by
  unfold State.judged State.setCause
  split_ifs
  · exact raise_noticesWithin_untriggered (s.checkRecorded f) rfl
  · exact clear_noticesWithin (s := s) (u := s.checkRecorded f) rfl .selfCheckFail

theorem judged_portChanges (s : State) (f : StepFailures) (q : Port) : PortChanges [.notices, .latch] s (s.judged f) q := by
  have hmissed : ((s.judged f).ports.get q).missed = (s.ports.get q).missed := by
    unfold State.judged State.setCause
    split_ifs
    · exact raise_missed_untriggered _ rfl q
    · simp [State.checkRecorded]
  intro g hg
  cases g <;> simp [PortField.Same, hmissed] at hg ⊢ <;> simp [State.judged, State.checkRecorded]

theorem firstFailure_isSome (f : StepFailures) :
    (firstFailure f).isSome = (f.step0 || f.step1 || f.step2 || f.step3) := by
  unfold firstFailure
  split_ifs <;> simp_all

theorem firstFailure_getD (f : StepFailures) : (firstFailure f).getD 0#2 =
    if f.step0 then 0#2 else if f.step1 then 1#2 else if f.step2 then 2#2 else if f.step3 then 3#2 else 0#2 := by
  unfold firstFailure
  split_ifs <;> rfl

theorem afterSelfCheck_eq (x : SlipTimer) : x.afterSelfCheck = if x = .idle then .idle else .expired := by
  cases x <;> simp [SlipTimer.afterSelfCheck]

theorem checkTimer_of_running {d : Nat} (hr : s.rc.runState = .selfCheck) (h : s.rc.checkEnd = some d) :
    s.checkTimer = some d := by
  simp [State.checkTimer, hr, h]

/-- The latch sets that were begun afresh hold the active causes after the entry to HALTED too, unless it ended one. -/
theorem enterHalted_latch (h : ∀ p, (s.ports.get p).latch = s.cut.live) (hoff : s.gen.mgr = .off) (p : Port) :
    (s.enterHalted.ports.get p).latch = s.enterHalted.cut.live := by
  obtain ⟨-, hlatch⟩ := enterHalted_causesTold s
  refine BitVec.eq_of_getLsbD_eq fun k hk => ?_
  obtain ⟨c, rfl⟩ := exists_cause_of_code hk
  have hkept : s.causeActive c = true → s.enterHalted.causeActive c = true := fun hc => by
    by_cases hz : c = .zoneBreach
    · rw [hz, enterHalted_zoneBreach, ← hz, hc, hoff]
      rfl
    · by_cases hw : c = .wearStoreFault
      · rw [hw, (enterHalted_faultTold s).1, ← hw, hc, Bool.true_or]
      · rw [enterHalted_others s hz hw, hc]
  have hlatched : CauseSet.has (s.ports.get p).latch c = s.causeActive c := by rw [h p, State.causeActive]
  have hbit := hlatch p c
  rw [hlatched] at hbit
  refine hbit.trans ?_
  change _ = s.enterHalted.causeActive c
  cases hc : s.causeActive c with
  | true => rw [hkept hc]; rfl
  | false => simp

theorem latchedAfresh_requested (h : s.rc.checkRequested = true) : s.latchedAfresh = s := if_pos h

theorem latchedAfresh_latch (h : s.rc.checkRequested = false) (p : Port) :
    (s.latchedAfresh.ports.get p).latch = s.cut.live := by
  simp [State.latchedAfresh, h]

/-- Settles O9: the verdict, the latch sets begun afresh, and the entry to HALTED after them. -/
theorem selfCheckEndEntersHalted : Obligations.SelfCheckEndEntersHalted := by
  intro f d s hrun hr hd
  refine ⟨_, next_timed_due hrun (checkTimer_of_running hr hd) fun t => t.endSelfCheck f, ?_⟩
  rw [endSelfCheck_eq]
  generalize max s.now d = n
  let u := s.setNow n
  let v := (u.judged f).latchedAfresh
  change v.enterHalted.now = n ∧ _
  have hvrc : v.rc = { s.rc with
      checkDone := true, checkFail := (firstFailure f).isSome, checkStep := (firstFailure f).getD 0#2
      checkEnd := none } := by simp [v, u]
  have hvcauses (c : Cause) : v.causeActive c =
      if c = .selfCheckFail then (firstFailure f).isSome else s.causeActive c := by
    rw [causeActive_of_cut (s := u.judged f) (by simp [v]), judged_causeActive]
    rfl
  have hnow : v.enterHalted.now = n := by simp [v, u, enterHalted_eq]
  have hrc : v.enterHalted.rc = { s.rc with
      runState := .halted, checkDone := true, checkEnd := none
      checkFail := f.step0 || f.step1 || f.step2 || f.step3
      checkStep := if f.step0 then 0#2 else if f.step1 then 1#2 else if f.step2 then 2#2 else if f.step3 then 3#2 else 0#2
      claim := v.enterHalted.rc.claim, staged := v.enterHalted.rc.staged } := by
    refine (enterHalted_rc v).trans ?_
    rw [hvrc, firstFailure_isSome, firstFailure_getD]
  have hfail : v.enterHalted.causeActive .selfCheckFail = v.enterHalted.rc.checkFail := by
    rw [enterHalted_others v (by decide) (by decide), hvcauses, hrc, if_pos rfl, firstFailure_isSome]
  have hsame : s.SameClaim v := ⟨by simp [hvrc], by simp [hvrc], by simp [hvrc], by simp [hvrc], fun q => by
    rw [(latchedAfresh_portChanges (u.judged f) q) .assembly (by simp)]
    exact (judged_portChanges u f q) .assembly (by simp)⟩
  have hdropped := enterHalted_claimDropped v
  simp only [hsame.roleOf] at hdropped
  have hmgr : v.gen.mgr = s.gen.mgr := by
    obtain h | h := judged_gen u f <;> simp [v, h, u]
  have hzone : v.enterHalted.causeActive .zoneBreach = (s.causeActive .zoneBreach && decide (s.gen.mgr = .off)) := by
    rw [enterHalted_zoneBreach, hvcauses, if_neg (by decide), hmgr]
  have hapart (c : Cause) : v.causeActive c = s.causeActive c ∨ v.enterHalted.causeActive c = v.causeActive c := by
    by_cases hc : c = .selfCheckFail
    · exact .inr (enterHalted_others v (by simp [hc]) (by simp [hc]))
    · exact .inl ((hvcauses c).trans (if_neg hc))
  have hjudged : s.CausesTold (u.judged f) := judged_causesTold u f
  have hnotices (k : NoticeKind) (p : Port) : (v.ports.get p).hasNotice k = ((u.judged f).ports.get p).hasNotice k := by
    simp [v]
  have hwithin : State.NoticesWithin [.runStateChange, .cutbackChange, .storeFault] s v := fun p k => by
    rw [hnotices]
    exact noticesWithin_mono (judged_noticesWithin u f) (by simp) p k
  have hcutback : s.CutbackTold v := fun p => by
    rw [hnotices, show v.cut.live = (u.judged f).cut.live by simp [v]]
    exact hjudged.1 p
  refine ⟨hnow, hrc, hsame.trans_dropped hdropped, hfail, ?drives, hzone, ?fault, fun c hc hw hz => ?others, ?cut, ?latch,
    fun hreq => ?told, hcutback.trans (enterHalted_causesTold v).1 hapart, enterHalted_allNoticed v,
    noticesWithin_trans hwithin (enterHalted_noticesWithin v), ?requested, ?deadlines, ?env, ?split, ?gen, ?rcd,
    ?ports, ?blocks⟩
  case drives =>
    rw [← hfail]
    have hrunning : v.enterHalted.running = true := by
      simpa [State.running, enterHalted_eq, State.halting, v, u] using hrun
    have hstate : v.enterHalted.rc.runState = .halted := by rw [hrc]
    exact Bool.eq_iff_iff.mpr ((drivesHold_iff hrunning).trans (by simp only [hstate, reduceCtorEq, false_or]))
  case fault =>
    obtain ⟨hcause, hnotice⟩ := enterHalted_faultTold v
    have hfault : v.store.fault = s.store.fault := by simp [v, u]
    rw [hfault, hvcauses, if_neg (by decide)] at hcause
    refine ⟨hcause, fun p => ?_⟩
    have hkept : (v.ports.get p).hasNotice .storeFault = (s.ports.get p).hasNotice .storeFault := by
      rw [hnotices]
      exact (judged_noticesWithin u f p .storeFault).2 (by decide)
    rw [hnotice p, hfault, hkept]
  case others => rw [enterHalted_others v hz hw, hvcauses, if_neg hc]
  case cut =>
    have hvcut : v.cut = (u.judged f).cut := by simp [v]
    rw [hnow, ← afterSelfCheck_eq]
    refine (enterHalted_cut v).trans ?_
    rw [hvcut, judged_cut]
    rfl
  case latch =>
    intro hreq hoff
    refine enterHalted_latch (fun p => ?_) (hmgr.trans hoff)
    have hvcut : v.cut = (u.judged f).cut := by simp [v]
    rw [hvcut]
    exact latchedAfresh_latch (by simpa using hreq) p
  case told =>
    have hv : v = u.judged f := latchedAfresh_requested (by simpa [u] using hreq)
    exact (hv ▸ hjudged).trans (enterHalted_causesTold v) hapart
  case requested =>
    have h := enterHalted_requested v
    have hstate : v.rc.runState ≠ .active := by simp [hvrc, hr]
    have hstore : v.store = s.store := by simp [v, u]
    have htotals : v.totals = s.totals := by simp [v, u, State.totals]
    have hvnow : v.now = n := by simp [v, u]
    rw [if_neg hstate, hstore, htotals, hvnow] at h
    rw [hnow]
    exact h
  case deadlines =>
    intro r
    rw [enterHalted_deadline]
    simp
  case env =>
    have h := enterHalted_env v
    have henv : v.env = s.env := by simp [v, u]
    rw [henv] at h
    exact h
  case split =>
    have hstopped : v.split.stopped v.takenTRr = s.split.stopped s.takenTRr := by
      rw [takenTRr_of_env (s := s) (t := v) (by simp [v, u])]
      simpa [v, u] using judged_stopped u f s.takenTRr
    exact (enterHalted_split v).trans hstopped
  case gen =>
    rw [hnow]
    refine (enterHalted_gen v).trans ?_
    have happlied : v.rc.applied = s.rc.applied := by rw [hvrc]
    have hvnow : v.now = n := by simp [v, u]
    have hgen : v.gen = s.gen ∨ v.gen = { s.gen with setpoint := 0 } := by
      simpa [v, u] using judged_gen u f
    rw [happlied, hvnow]
    obtain h | h := hgen <;> rw [h]
  case rcd =>
    intro hs
    rw [State.RecorderSettled, hr] at hs
    have hvrcd : v.rcd = s.rcd := by simp [v, u]
    rw [enterHalted_rcd, hvrcd]
    exact settled_of_same _ hs
  case ports =>
    intro q
    exact portChanges_trans (portChanges_trans (portChanges_mono (judged_portChanges u f q) (by simp))
      (portChanges_mono (latchedAfresh_portChanges (u.judged f) q) (by simp))) (enterHalted_portChanges v q)
  case blocks =>
    have hbefore : Changes [.clock, .runControl, .cutback, .split, .genset, .ports] s v := fun b hb => by
      cases b <;> simp [Block.Same, v, u] at hb ⊢
    exact changes_trans (changes_mono hbefore (by simp)) (changes_mono (enterHalted_changes v) (by simp))

end Sys2Proof.Machine
end

section
/-! PROOFS. What a change of levels brings: the notice, the checkpoint, the trigger, the stored codes (R138, R139, R141,
R142). -/

namespace Sys2Proof.Machine

variable {s t u : State}

/-! ### Levels that rise and fall (R138, R139) -/

/-- The levels formed and the stored codes worsened, with nothing told yet. -/
def State.relevelled (s : State) : State :=
  (s.setWear { s.wear with items := leveled s.wear.items s.rc.applied.thresholds }).worsenCodes

theorem anyRise_iff (x y : PerItem ItemState) : anyRise x y = true ↔ ∃ i, (x.get i).level < (y.get i).level := by
  simp only [anyRise, PerItem.toList, PerItem.mapWith, List.any_cons, List.any_nil, id, Bool.or_eq_true,
    decide_eq_true_eq, Bool.or_false]
  constructor
  · rintro (h | h | h | h | h)
    exacts [⟨.liningFront, h⟩, ⟨.liningMid, h⟩, ⟨.liningRear, h⟩, ⟨.battery, h⟩, ⟨.gensetStarts, h⟩]
  · rintro ⟨i, h⟩
    cases i
    exacts [.inl h, .inr (.inl h), .inr (.inr (.inl h)), .inr (.inr (.inr (.inl h))), .inr (.inr (.inr (.inr h)))]

theorem levelRises_congr {s' t' : State} (hs : ∀ i, (s'.wear.items.get i).level = (s.wear.items.get i).level)
    (ht : ∀ i, (t'.wear.items.get i).level = (t.wear.items.get i).level) : s'.LevelRises t' ↔ s.LevelRises t :=
  exists_congr fun i => by rw [hs, ht]

@[simp] theorem relevelled_untouched (s : State) :
    s.relevelled.powered = s.powered ∧ s.relevelled.resetAsserted = s.resetAsserted ∧ s.relevelled.now = s.now ∧
    s.relevelled.freeCount = s.freeCount ∧ s.relevelled.rc = s.rc ∧ s.relevelled.env = s.env ∧
    s.relevelled.cut = s.cut ∧ s.relevelled.split = s.split ∧ s.relevelled.gen = s.gen ∧
    s.relevelled.store = s.store ∧ s.relevelled.rcd = s.rcd ∧ s.relevelled.pending = s.pending ∧
    s.relevelled.wear.lining = s.wear.lining := by
  simp [State.relevelled]

@[simp] theorem relevelled_items (s : State) :
    s.relevelled.wear.items = leveled s.wear.items s.rc.applied.thresholds := by
  simp [State.relevelled]

@[simp] theorem relevelled_hasNotice (s : State) (k : NoticeKind) (p : Port) :
    (s.relevelled.ports.get p).hasNotice k = (s.ports.get p).hasNotice k := by
  simp [State.relevelled, PortState.hasNotice]

theorem relevelled_totals (s : State) : s.relevelled.totals = s.recomputeLevels.totals := by
  rw [State.totals, State.totals, recomputeLevels_items, relevelled_items]

theorem relevelled_portChanges (s : State) (q : Port) : PortChanges [.codes] s s.relevelled q := by
  intro f hf
  cases f <;> simp [PortField.Same, State.relevelled] at hf ⊢

theorem relevelled_sameCauses (s : State) : s.SameCauses s.relevelled :=
  ⟨by simp, fun p => ⟨relevelled_portChanges s p .latch (by simp), by simp⟩⟩

theorem levelRises_relevelled (s : State) :
    s.LevelRises s.recomputeLevels ↔ anyRise s.wear.items (leveled s.wear.items s.rc.applied.thresholds) = true := by
  rw [anyRise_iff, State.LevelRises, recomputeLevels_items]

theorem levelFalls_relevelled (s : State) :
    s.recomputeLevels.LevelRises s ↔ anyRise (leveled s.wear.items s.rc.applied.thresholds) s.wear.items = true := by
  rw [anyRise_iff, State.LevelRises, recomputeLevels_items]

theorem recomputeLevels_of_rise (h : s.LevelRises s.recomputeLevels) :
    s.recomputeLevels = ((s.relevelled.noticeAll .wearLevel).requestCheckpoint).trigger .wearLevel :=
  if_pos ((levelRises_relevelled s).mp h)

theorem recomputeLevels_of_fall (hr : ¬ s.LevelRises s.recomputeLevels) (hf : s.recomputeLevels.LevelRises s) :
    s.recomputeLevels = s.relevelled.noticeAll .wearLevel :=
  (if_neg (mt (levelRises_relevelled s).mpr hr)).trans (if_pos ((levelFalls_relevelled s).mp hf))

theorem recomputeLevels_of_level (hr : ¬ s.LevelRises s.recomputeLevels) (hf : ¬ s.recomputeLevels.LevelRises s) :
    s.recomputeLevels = s.relevelled :=
  (if_neg (mt (levelRises_relevelled s).mpr hr)).trans (if_neg (mt (levelFalls_relevelled s).mpr hf))

/-! ### What forming the levels brings (R139, R142) -/

/-- What levels formed anew bring besides the levels themselves. -/
structure State.LevelsFormed (s t : State) : Prop where
  told : s.LevelsTold t
  risen : s.LevelRises t → (s.trigger .wearLevel).RecordedAs t
  unrisen : ¬ s.LevelRises t → s.RecordedAs t ∧ t.cut = s.cut
  silent : ¬ s.LevelRises t → ¬ t.LevelRises s → ∀ q, (t.ports.get q).notices = (s.ports.get q).notices
  cut : t.cut = { s.cut with live := t.cut.live }
  others : ∀ c, c ≠ .wearStoreFault → t.causeActive c = s.causeActive c
  causes : s.CausesTold t
  codes : s.CodesWorsened t
  within : State.NoticesWithin [.wearLevel, .cutbackChange, .storeFault, .snapshotComplete, .triggerMissed] s t
  port : ∀ q, PortChanges [.notices, .missed, .latch, .codes] s t q
  lining : t.wear.lining = s.wear.lining
  blocks : Changes [.wear, .store, .recorder, .cutback, .ports] s t

/-- The codes are worsened whatever is told after the levels are formed. -/
theorem codesWorsened_of_relevelled (hi : t.wear.items = s.relevelled.wear.items) (he : t.env = s.env)
    (hc : ∀ q, (t.ports.get q).codes = (s.relevelled.ports.get q).codes) : s.CodesWorsened t := by
  intro q i
  have hstatus : t.wearStatus i =
      (s.setWear { s.wear with items := leveled s.wear.items s.rc.applied.thresholds }).wearStatus i :=
    wearStatus_congr (by simp [hi]) fun r => by simp [State.stale, he]
  rw [hc, hstatus]
  exact worsenCodes_codes (s.setWear { s.wear with items := leveled s.wear.items s.rc.applied.thresholds }) q i

theorem relevelled_recordedAs (s : State) : s.RecordedAs s.relevelled :=
  ⟨by simp, fun p => ⟨relevelled_portChanges s p .missed (by simp), by simp, by simp⟩⟩

theorem noticeAll_recordedAs (s : State) {k : NoticeKind} (hc : k ≠ .snapshotComplete) (hm : k ≠ .triggerMissed) :
    s.RecordedAs (s.noticeAll k) :=
  ⟨by simp, fun p => ⟨by simp, by simp [hc.symm], by simp [hm.symm]⟩⟩

theorem requestCheckpoint_recordedAs (s : State) : s.RecordedAs s.requestCheckpoint := by
  have htold := requestCheckpoint_storeTold s
  refine ⟨by simp, fun p => ⟨htold.port p .missed (by simp), ?_, ?_⟩⟩
  · exact (htold.within p _).2 (by decide)
  · exact (htold.within p _).2 (by decide)

/-- The state that a rise of a level requests its checkpoint in. -/
def State.levelRaised (s : State) : State := s.relevelled.noticeAll .wearLevel

theorem levelRaised_recordedAs (s : State) : s.RecordedAs s.levelRaised :=
  recordedAs_trans (relevelled_recordedAs s) (noticeAll_recordedAs _ (by decide) (by decide))

theorem levelRaised_sameCauses (s : State) : s.SameCauses s.levelRaised :=
  ⟨by simp [State.levelRaised], fun p => ⟨by simpa [State.levelRaised] using (relevelled_sameCauses s).2 p |>.1,
    by simp [State.levelRaised]⟩⟩

theorem levelRaised_hasNotice (s : State) (k : NoticeKind) (p : Port) :
    (s.levelRaised.ports.get p).hasNotice k = ((s.ports.get p).hasNotice k || decide (k = .wearLevel)) := by
  simp [State.levelRaised]

theorem levelRaised_portChanges (s : State) (q : Port) : PortChanges [.notices, .codes] s s.levelRaised q := by
  have hnotice : PortChanges [.notices] s.relevelled s.levelRaised q := fun f hf => by
    cases f <;> simp [PortField.Same, State.levelRaised] at hf ⊢
  exact portChanges_trans (portChanges_mono (relevelled_portChanges s q) (by simp)) (portChanges_mono hnotice (by simp))

theorem levelRaised_noticesWithin (s : State) : State.NoticesWithin [.wearLevel] s s.levelRaised :=
  fun p k => by
    rw [levelRaised_hasNotice]
    exact ⟨fun h => by simp [h], fun hk => by simp [List.mem_singleton.not.mp hk]⟩

theorem trigger_sameCauses (s : State) (c : TriggerCause) (hc : s.triggerTells c ≠ some .cutbackChange) :
    s.SameCauses (s.trigger c) :=
  ⟨by simp, fun p => ⟨by simp, by simp [hc]⟩⟩

/-- Levels formed without a rise: the store stands, and the notice comes with a fall alone. -/
theorem levelsFormed_of_unrisen (hr : ¬ s.LevelRises t) (hsame : s.SameCauses t) (hcut : t.cut = s.cut)
    (hstore : t.store = s.store) (hrecorded : s.RecordedAs t) (hsilent : ¬ t.LevelRises s → t.ports = s.relevelled.ports)
    (hfall : t.LevelRises s → t.ports = s.levelRaised.ports) (hcodes : s.CodesWorsened t)
    (hlining : t.wear.lining = s.wear.lining) (hblocks : Changes [.wear, .store, .recorder, .cutback, .ports] s t) :
    s.LevelsFormed t := by
  have hnotice (k : NoticeKind) (p : Port) : (t.ports.get p).hasNotice k = true ↔
      (s.ports.get p).hasNotice k = true ∨ k = .wearLevel ∧ t.LevelRises s := by
    by_cases hf : t.LevelRises s
    · rw [hfall hf, levelRaised_hasNotice]
      simp [hf]
    · rw [hsilent hf, relevelled_hasNotice]
      simp [hf]
  have hother {k : NoticeKind} (hk : k ≠ .wearLevel) (p : Port) :
      (t.ports.get p).hasNotice k = (s.ports.get p).hasNotice k := by
    rw [Bool.eq_iff_iff, hnotice]
    simp [hk]
  have hcause (c : Cause) : t.causeActive c = s.causeActive c := causeActive_of_cut (by rw [hcut]) c
  have hport (q : Port) : PortChanges [.notices, .codes] s t q := by
    by_cases hf : t.LevelRises s
    · intro f hfield
      have h := levelRaised_portChanges s q f hfield
      cases f <;> simp only [PortField.Same, hfall hf] at h ⊢ <;> exact h
    · intro f hfield
      have h := portChanges_mono (relevelled_portChanges s q) (m := [.notices, .codes]) (by simp) f hfield
      cases f <;> simp only [PortField.Same, hsilent hf] at h ⊢ <;> exact h
  refine ⟨⟨fun h => absurd h hr, fun _ => hstore, fun p => ?_, ?_⟩, fun h => absurd h hr, fun _ => ⟨hrecorded, hcut⟩,
    fun _ hf q => ?_, by rw [hcut], fun c _ => hcause c, hsame.told, hcodes, fun p k => ⟨fun h => ?_, fun hk => ?_⟩,
    fun q => portChanges_mono (hport q) (by simp), hlining, hblocks⟩
  · rw [hnotice]
    simp [hr]
  · refine ⟨?_, fun p => ?_⟩
    · rw [hcause, hstore]
      simp
    · rw [hother (by decide), hstore]
      simp
  · rw [hsilent hf]
    exact relevelled_portChanges s q .notices (by simp)
  · exact (hnotice k p).mpr (.inl h)
  · refine hother (fun h => hk ?_) p
    simp [h]

/-- The codes are worsened whether a level rose, fell or stood. -/
theorem recomputeLevels_codesWorsened (s : State) : s.CodesWorsened s.recomputeLevels := by
  refine codesWorsened_of_relevelled (by simp) (by simp) fun q => ?_
  by_cases hr : s.LevelRises s.recomputeLevels
  · simp [recomputeLevels_of_rise hr]
  · by_cases hf : s.recomputeLevels.LevelRises s
    · simp [recomputeLevels_of_fall hr hf]
    · rw [recomputeLevels_of_level hr hf]

theorem recomputeLevels_changes (s : State) : Changes [.wear, .store, .recorder, .cutback, .ports] s s.recomputeLevels := by
  intro b hb
  cases b <;> simp [Block.Same] at hb ⊢

theorem recomputeLevels_lining (s : State) : s.recomputeLevels.wear.lining = s.wear.lining := by
  unfold State.recomputeLevels
  dsimp only
  split_ifs <;> simp

theorem triggerTells_ne (s : State) (c : TriggerCause) {k : NoticeKind} (hc : k ≠ .snapshotComplete)
    (hm : k ≠ .triggerMissed) : s.triggerTells c ≠ some k := fun h => by
  obtain h | h := triggerTells_kind s h
  · exact hc h
  · exact hm h

theorem trigger_noticesWithin (s : State) (c : TriggerCause) :
    State.NoticesWithin [.snapshotComplete, .triggerMissed] s (s.trigger c) := by
  intro p k
  refine ⟨fun h => by simp [h], fun hk => ?_⟩
  simp only [List.mem_cons, List.not_mem_nil, or_false, not_or] at hk
  simp [triggerTells_ne s c hk.1 hk.2]

theorem trigger_portChanges (s : State) (c : TriggerCause) (q : Port) :
    PortChanges [.notices, .missed] s (s.trigger c) q := by
  intro f hf
  cases f <;> simp [PortField.Same] at hf ⊢

/-- A checkpoint request that a rise of a level makes, and the trigger after it. -/
theorem levelsFormed_rise (hr : s.LevelRises s.recomputeLevels) : s.LevelsFormed s.recomputeLevels := by
  have heq : s.recomputeLevels = s.levelRaised.requestCheckpoint.trigger .wearLevel := recomputeLevels_of_rise hr
  have htold := requestCheckpoint_storeTold s.levelRaised
  have hfault := requestCheckpoint_faultTold s.levelRaised
  have hsame := levelRaised_sameCauses s
  have hcause (c : Cause) : s.levelRaised.causeActive c = s.causeActive c := causeActive_of_cut hsame.1 c
  have hcut : s.levelRaised.cut = s.cut := by simp [State.levelRaised]
  have hstore : s.levelRaised.store = s.store := by simp [State.levelRaised]
  have htotals : s.levelRaised.totals = s.recomputeLevels.totals := by
    rw [← relevelled_totals]
    simp [State.levelRaised, State.totals]
  have hkept {k : NoticeKind} (hc : k ≠ .snapshotComplete) (hm : k ≠ .triggerMissed) (p : Port) :
      (s.recomputeLevels.ports.get p).hasNotice k = (s.levelRaised.requestCheckpoint.ports.get p).hasNotice k := by
    rw [heq, trigger_hasNotice, decide_eq_false (triggerTells_ne _ _ hc hm), Bool.or_false]
  have hwithin := noticesWithin_trans
    (kinds := [.wearLevel, .cutbackChange, .storeFault, .snapshotComplete, .triggerMissed])
    (noticesWithin_mono (levelRaised_noticesWithin s) (by simp))
    (noticesWithin_trans (noticesWithin_mono htold.within (by simp))
      (noticesWithin_mono (trigger_noticesWithin s.levelRaised.requestCheckpoint .wearLevel) (by simp)))
  rw [← heq] at hwithin
  refine ⟨⟨fun _ => ?requested, absurd hr, fun p => ?noticed, ?fault, fun p => ?faultNotice⟩, fun _ => ?recorded,
    absurd hr, fun h => absurd hr h, ?cut, fun c hc => ?others, ?causes, recomputeLevels_codesWorsened s, hwithin,
    fun q => ?port, recomputeLevels_lining s, recomputeLevels_changes s⟩
  case requested =>
    have h := requestCheckpoint_requested s.levelRaised
    have hnow : s.levelRaised.now = s.now := by simp [State.levelRaised]
    have hafter : s.recomputeLevels.store = s.levelRaised.requestCheckpoint.store := by
      rw [heq]
      simp
    rw [hstore, htotals, hnow] at h
    rwa [hafter]
  case noticed =>
    have h : (s.levelRaised.ports.get p).hasNotice .wearLevel = true := by simp [levelRaised_hasNotice]
    rw [hkept (by decide) (by decide), (htold.within p .wearLevel).1 h]
    simp [hr]
  case fault =>
    rw [heq, trigger_causeActive, hfault.1, hcause, hstore]
    simp
  case faultNotice =>
    rw [hkept (by decide) (by decide), hfault.2 p, levelRaised_hasNotice, hstore, heq]
    simp
  case recorded =>
    rw [heq]
    exact trigger_recordedAs .wearLevel
      (recordedAs_trans (levelRaised_recordedAs s) (requestCheckpoint_recordedAs _)) (by simp [State.levelRaised])
      (by simp [State.levelRaised])
  case cut =>
    have h := htold.cut
    rw [hcut] at h
    simpa [heq] using h
  case others => rw [heq, trigger_causeActive, htold.others c hc, hcause]
  case causes =>
    rw [heq]
    exact (hsame.trans_told htold.causes).trans_same
      (trigger_sameCauses _ _ (triggerTells_ne _ _ (by decide) (by decide)))
  case port =>
    rw [heq]
    exact portChanges_trans (portChanges_mono (levelRaised_portChanges s q) (by simp))
      (portChanges_trans (portChanges_mono (htold.port q) (by simp))
        (portChanges_mono (trigger_portChanges s.levelRaised.requestCheckpoint .wearLevel q) (by simp)))

/-- Each way the levels can go. -/
theorem recomputeLevels_formed (s : State) : s.LevelsFormed s.recomputeLevels := by
  by_cases hr : s.LevelRises s.recomputeLevels
  · exact levelsFormed_rise hr
  · by_cases hf : s.recomputeLevels.LevelRises s
    · have heq : s.recomputeLevels = s.levelRaised := recomputeLevels_of_fall hr hf
      refine levelsFormed_of_unrisen hr ?_ ?_ ?_ ?_ (absurd hf) (fun _ => by rw [heq]) (recomputeLevels_codesWorsened s)
        (recomputeLevels_lining s) (recomputeLevels_changes s) <;> rw [heq]
      · exact levelRaised_sameCauses s
      · simp [State.levelRaised]
      · simp [State.levelRaised]
      · exact levelRaised_recordedAs s
    · have heq := recomputeLevels_of_level hr hf
      refine levelsFormed_of_unrisen hr ?_ ?_ ?_ ?_ (fun _ => by rw [heq]) (fun h => absurd h hf)
        (recomputeLevels_codesWorsened s) (recomputeLevels_lining s) (recomputeLevels_changes s) <;> rw [heq]
      · exact relevelled_sameCauses s
      · simp
      · simp
      · exact relevelled_recordedAs s

/-! ### Levels, statuses and their change (R138, R139, R141, R142) -/

theorem levelOf_eq_length (x : Thresholds) (n : Nat) :
    levelOf x n = ([x.t1, x.t2, x.t3].filter fun y => decide (y ≤ n)).length := by
  unfold levelOf
  simp only [List.filter_cons, List.filter_nil, decide_eq_true_eq]
  split_ifs <;> rfl

/-- Settles O35: the count of thresholds, the order of statuses, and what forming the levels brings. -/
theorem levelChangeHasConsequences : Obligations.LevelChangeHasConsequences := by
  refine ⟨levelOf_eq_length, fun s item => ?_, fun s => ?_⟩
  · cases item <;> rfl
  · obtain ⟨told, risen, unrisen, silent, cut, others, causes, codes, within, port, lining, blocks⟩ :=
      recomputeLevels_formed s
    exact ⟨fun item => by simp, told, risen, unrisen, silent, cut, others, causes, codes, within, port, lining, blocks⟩

end Sys2Proof.Machine
end

section
/-! PROOFS. The consistency conditions of APPLY, what APPLY and DISCARD do, and WEAR_RESET (R17, R18, R19, R145). -/

namespace Sys2Proof.Machine

variable {s t u : State}

/-! ### What levels bring, seen from a state that agrees (R139, R142) -/

/-- What the change of levels speaks of is the same in both. -/
def State.SameLevels (s t : State) : Prop :=
  (∀ i, (t.wear.items.get i).level = (s.wear.items.get i).level) ∧ t.store = s.store ∧ t.now = s.now ∧
    t.causeActive .wearStoreFault = s.causeActive .wearStoreFault ∧
    ∀ p, (t.ports.get p).hasNotice .wearLevel = (s.ports.get p).hasNotice .wearLevel ∧
      (t.ports.get p).hasNotice .storeFault = (s.ports.get p).hasNotice .storeFault

theorem State.SameLevels.trans (h : s.SameLevels t) (g : t.SameLevels u) : s.SameLevels u := by
  obtain ⟨hl, hs, hn, hc, hp⟩ := h
  obtain ⟨hl', hs', hn', hc', hp'⟩ := g
  exact ⟨fun i => (hl' i).trans (hl i), hs'.trans hs, hn'.trans hn, hc'.trans hc,
    fun p => ⟨(hp' p).1.trans (hp p).1, (hp' p).2.trans (hp p).2⟩⟩

section
variable {s' t' : State}

theorem levelNoticed_congr (h : s'.LevelNoticed t') (hs : s.SameLevels s') (ht : t'.SameLevels t) :
    s.LevelNoticed t := by
  obtain ⟨hsl, -, -, -, hsn⟩ := hs
  obtain ⟨htl, -, -, -, htn⟩ := ht
  intro p
  rw [(htn p).1, h p, (hsn p).1, levelRises_congr hsl (fun i => (htl i).symm),
    levelRises_congr (fun i => (htl i).symm) hsl]

theorem faultTold_congr (h : s'.FaultTold t') (hs : s.SameLevels s') (ht : t'.SameLevels t) : s.FaultTold t := by
  obtain ⟨-, hss, -, hsc, hsn⟩ := hs
  obtain ⟨-, hts, -, htc, htn⟩ := ht
  obtain ⟨hcause, hnotice⟩ := h
  refine ⟨?_, fun p => ?_⟩
  · rw [htc, hcause, hsc, hts, hss]
  · rw [(htn p).2, hnotice p, (hsn p).2, hts, hss]

theorem levelRises_sameLevels (hs : s.SameLevels s') (ht : t'.SameLevels t) : s.LevelRises t ↔ s'.LevelRises t' := by
  obtain ⟨hsl, -⟩ := hs
  obtain ⟨htl, -⟩ := ht
  exact levelRises_congr (fun i => (hsl i).symm) htl

theorem levelsTold_congr (h : s'.LevelsTold t') (hs : s.SameLevels s') (ht : t'.SameLevels t)
    (htotals : t.totals = t'.totals) : s.LevelsTold t := by
  obtain ⟨hrise, hstand, hnoticed, hfault⟩ := h
  have hrises := levelRises_sameLevels hs ht
  have hnoticed' := levelNoticed_congr hnoticed hs ht
  have hfault' := faultTold_congr hfault hs ht
  obtain ⟨-, hss, hsn, -⟩ := hs
  obtain ⟨-, hts, -⟩ := ht
  refine ⟨fun hr => ?_, fun hr => ?_, hnoticed', hfault'⟩
  · have hrequested := hrise (hrises.mp hr)
    rwa [hss, hsn, ← hts, ← htotals] at hrequested
  · rw [hts, hstand (mt hrises.mpr hr), hss]

theorem codesWorsened_congr (h : s'.CodesWorsened t') (hs : ∀ q, (s'.ports.get q).codes = (s.ports.get q).codes)
    (ht : ∀ q, (t.ports.get q).codes = (t'.ports.get q).codes) (hi : t.wear.items = t'.wear.items)
    (hstale : ∀ r, t.stale r = t'.stale r) : s.CodesWorsened t := by
  intro q i
  rw [ht, h q i, hs, wearStatus_congr (s := t') (by rw [hi]) hstale]

theorem recordedAs_congr (h : s'.RecordedAs t') (hs : s.RecordedAs s') (ht : t'.RecordedAs t) : s.RecordedAs t :=
  recordedAs_trans (recordedAs_trans hs h) ht

end

section
variable (s : State) (p : Port) (c : BitVec 4) (r : Reply)

theorem shiftOut_sameLevels : s.SameLevels (s.modPort p PortState.shiftOut) :=
  ⟨fun _ => rfl, rfl, rfl, rfl, fun q => by simp⟩

theorem respond_sameLevels : s.SameLevels (s.respond p c r) := ⟨fun _ => rfl, rfl, rfl, rfl, fun q => by simp⟩

theorem shiftOut_recordedAs : s.RecordedAs (s.modPort p PortState.shiftOut) :=
  ⟨rfl, fun q => ⟨by rw [modPort_get]; split_ifs <;> rfl, by simp, by simp⟩⟩

theorem respond_recordedAs : s.RecordedAs (s.respond p c r) := ⟨by simp, fun q => by simp⟩

theorem shiftOut_codes (q : Port) :
    ((s.modPort p PortState.shiftOut).ports.get q).codes = (s.ports.get q).codes := by
  rw [modPort_get]
  split_ifs <;> rfl

end

/-! ### The conditions of APPLY (R18) -/

theorem perTrigger_forall {α : Type} (x : PerTrigger α) (f : α → Prop) :
    (∀ a ∈ x.toList, f a) ↔ ∀ c, f (x.get c) := by
  constructor
  · intro h c
    refine h _ ?_
    cases c <;> simp [PerTrigger.toList, PerTrigger.get]
  · intro h a ha
    simp only [PerTrigger.toList, List.mem_cons, List.not_mem_nil, or_false] at ha
    obtain h' | h' | h' | h' | h' | h' | h' := ha
    exacts [h' ▸ h .harshBrake, h' ▸ h .slipCut, h' ▸ h .cutback, h' ▸ h .holdLine, h' ▸ h .wearLevel,
      h' ▸ h .gensetFail, h' ▸ h .manual]

theorem conditions_length (a : Settings) : a.conditions.length = 17 := rfl

/-- Each condition stands in the list under its index. -/
theorem conditions_get (a : Settings) {k : Nat} (hk : k ≤ 16) : a.conditions[k]? = some true ↔ a.Condition k := by
  interval_cases k <;>
    simp [Settings.conditions, Settings.Condition, Thresholds.ascend, Thresholds.Ascending, perTrigger_forall]

theorem condition_beyond (a : Settings) {k : Nat} (hk : 16 < k) : a.Condition k := by
  obtain ⟨n, rfl⟩ : ∃ n, k = n + 17 := ⟨k - 17, by omega⟩
  trivial

theorem conditions_getElem (a : Settings) {k : Nat} (hk : k < a.conditions.length) :
    a.conditions[k] = true ↔ a.Condition k := by
  rw [← conditions_get a (by rw [conditions_length] at hk; omega), List.getElem?_eq_getElem hk, Option.some_inj]

theorem firstFailing_some {a : Settings} {k : Nat} (h : ¬ a.Condition k) (hbelow : ∀ j, j < k → a.Condition j) :
    a.firstFailing = some k := by
  have hk : k < a.conditions.length := by
    by_contra hge
    exact h (condition_beyond a (by rw [conditions_length] at hge; omega))
  rw [Settings.firstFailing, List.findIdx?_eq_some_iff_getElem]
  refine ⟨hk, ?_, fun j hj => ?_⟩
  · rw [Bool.not_eq_true', Bool.eq_false_iff, ne_eq, conditions_getElem]
    exact h
  · rw [Bool.not_eq_true', Bool.not_eq_false, conditions_getElem]
    exact hbelow j hj

theorem consistent_iff_condition (a : Settings) : a.consistent = true ↔ ∀ k, a.Condition k := by
  rw [Settings.consistent, List.all_eq_true]
  constructor
  · intro h k
    by_cases hk : k < a.conditions.length
    · exact (conditions_getElem a hk).mp (h _ (List.getElem_mem hk))
    · exact condition_beyond a (by rw [conditions_length] at hk; omega)
  · intro h b hb
    obtain ⟨k, hk, rfl⟩ := List.getElem_of_mem hb
    exact (conditions_getElem a hk).mpr (h k)

theorem firstFailing_none {a : Settings} (h : ∀ k, a.Condition k) : a.firstFailing = none := by
  have hall := (consistent_iff_condition a).mpr h
  rw [Settings.consistent, List.all_eq_true] at hall
  rw [Settings.firstFailing, List.findIdx?_eq_none_iff]
  intro b hb
  simpa using hall b hb

/-! ### APPLY and DISCARD (R17, R18, R19) -/

/-- The staged copy applied, the claim released and told, before the levels are formed anew. -/
def State.settingsTaken (s : State) : State :=
  ((s.setRc { s.rc with applied := s.rc.staged }).releaseClaim).noticeAll .settingsApplied

theorem applyStaged_eq (s : State) : s.applyStaged = s.settingsTaken.recomputeLevels := rfl

@[simp] theorem settingsTaken_rc (s : State) :
    s.settingsTaken.rc = { s.rc with applied := s.rc.staged, claim := none } := by
  simp [State.settingsTaken]

@[simp] theorem settingsTaken_untouched (s : State) :
    s.settingsTaken.powered = s.powered ∧ s.settingsTaken.resetAsserted = s.resetAsserted ∧
    s.settingsTaken.now = s.now ∧ s.settingsTaken.freeCount = s.freeCount ∧ s.settingsTaken.env = s.env ∧
    s.settingsTaken.cut = s.cut ∧ s.settingsTaken.split = s.split ∧ s.settingsTaken.gen = s.gen ∧
    s.settingsTaken.wear = s.wear ∧ s.settingsTaken.store = s.store ∧ s.settingsTaken.rcd = s.rcd ∧
    s.settingsTaken.pending = s.pending := by
  simp [State.settingsTaken]

@[simp] theorem settingsTaken_hasNotice (s : State) (k : NoticeKind) (p : Port) :
    (s.settingsTaken.ports.get p).hasNotice k = ((s.ports.get p).hasNotice k || decide (k = .settingsApplied)) := by
  have h : ∀ q k, (((s.setRc { s.rc with applied := s.rc.staged }).releaseClaim).ports.get q).hasNotice k =
      (s.ports.get q).hasNotice k := fun q k => by simp [PortState.hasNotice]
  rw [State.settingsTaken, noticeAll_hasNotice, h]

theorem settingsTaken_portChanges (s : State) (q : Port) :
    PortChanges [.assembly, .notices] s s.settingsTaken q := by
  intro f hf
  cases f <;> simp [PortField.Same, State.settingsTaken] at hf ⊢

/-- Released with its claim, a first word of a setting that the claimant holds is dropped (R17). -/
theorem releaseClaim_assembly {p : Port} (hc : s.rc.claim = some p) (q : Port) :
    (s.releaseClaim.ports.get q).assembly =
      if q = p then (s.ports.get p).dropSettingWord.assembly else (s.ports.get q).assembly := by
  rw [State.releaseClaim, hc]
  dsimp only
  rw [modPort_get]
  split_ifs with hq
  · rw [hq]
    rfl
  · rfl

theorem settingsTaken_sameLevels (s : State) : s.SameLevels s.settingsTaken :=
  ⟨fun _ => by simp, by simp, by simp, by simp [State.causeActive], fun p => by simp⟩

theorem settingsTaken_sameCauses (s : State) : s.SameCauses s.settingsTaken :=
  ⟨by simp, fun p => ⟨settingsTaken_portChanges s p .latch (by simp), by simp⟩⟩

theorem settingsTaken_recordedAs (s : State) : s.RecordedAs s.settingsTaken :=
  ⟨by simp, fun p => ⟨settingsTaken_portChanges s p .missed (by simp), by simp, by simp⟩⟩

theorem settingsTaken_noticesWithin (s : State) : State.NoticesWithin [.settingsApplied] s s.settingsTaken := by
  intro p k
  rw [settingsTaken_hasNotice]
  exact ⟨fun h => by simp [h], fun hk => by simp [List.mem_singleton.not.mp hk]⟩

theorem claimRefusal_claimant {p : Port} (h : s.rc.claim = some p) : s.claimRefusal p = none := by
  simp [State.claimRefusal, h]

theorem claimRefusal_unclaimed (p : Port) (h : s.rc.claim = none) : s.claimRefusal p = some wrongState := by
  simp [State.claimRefusal, h]

theorem claimRefusal_other {p q : Port} (h : s.rc.claim = some q) (hq : q ≠ p) : s.claimRefusal p = some .claimed := by
  simp [State.claimRefusal, h, hq]

theorem requestApply_taken {p : Port} (hc : s.rc.claim = some p) (hr : s.rc.runState ≠ .active)
    (h : ∀ k, s.rc.staged.Condition k) : s.requestApply p = (s.applyStaged, .ok 0#16) := by
  simp [State.requestApply, claimRefusal_claimant hc, hr, firstFailing_none h]

theorem requestApply_inconsistent {p : Port} {k : Nat} (hc : s.rc.claim = some p) (hr : s.rc.runState ≠ .active)
    (h : ¬ s.rc.staged.Condition k) (hbelow : ∀ j, j < k → s.rc.staged.Condition j) :
    s.requestApply p = (s, .value k) := by
  simp [State.requestApply, claimRefusal_claimant hc, hr, firstFailing_some h hbelow]

theorem requestApply_active {p : Port} (hc : s.rc.claim = some p) (hr : s.rc.runState = .active) :
    s.requestApply p = (s, wrongState) := by
  simp [State.requestApply, claimRefusal_claimant hc, hr]

theorem requestApply_refused {p : Port} {r : Reply} (h : s.claimRefusal p = some r) : s.requestApply p = (s, r) := by
  simp [State.requestApply, h]

theorem requestDiscard_refused {p : Port} {r : Reply} (h : s.claimRefusal p = some r) :
    s.requestDiscard p = (s, r) := by
  simp [State.requestDiscard, h]

theorem requestDiscard_taken {p : Port} (hc : s.rc.claim = some p) :
    s.requestDiscard p = (s.discardStaged, .ok 0#16) := by
  simp [State.requestDiscard, claimRefusal_claimant hc]

theorem settingWordDropped_of_assembly {x x' y : PortState} (hx : x'.assembly = x.assembly)
    (hy : y.assembly = x'.dropSettingWord.assembly) : x.SettingWordDropped y := by
  have h := settingWordDropped_drop x'
  simpa only [PortState.SettingWordDropped, hx, hy] using h

theorem discardStaged_claimed {p : Port} (hc : s.rc.claim = some p) : s.discardStaged =
    (s.setRc { s.rc with staged := s.rc.applied, claim := none }).modPort p PortState.dropSettingWord := by
  simp [State.discardStaged, State.releaseClaim, hc]
  rfl

/-- Settles O36: APPLY forms the levels against the settings taken; DISCARD and the refusals by their branches. -/
theorem applyAndDiscard : Obligations.ApplyAndDiscard := by
  refine ⟨fun p s hrun hc hr hcond => ?apply, fun p s hl hc => ?discard, fun p s hl => ⟨?unclaimed, ?other, ?active,
    ?inconsistent⟩, fun a => ⟨consistent_iff_condition a, conditions_length a, fun k => conditions_get a⟩⟩
  case apply =>
    let u := s.modPort p PortState.shiftOut
    have hactive : s.rc.runState ≠ .active := by obtain h | h := hr <;> simp [h]
    have hl : s.Listening := ⟨hrun, by obtain h | h := hr <;> simp [h]⟩
    obtain ⟨hexec, hanswer⟩ := exec_request_taken (effect := fun t => t.requestApply p) hl
      (requestApply_taken (s := u) hc hactive hcond)
      (by simpa [u, applyStaged_eq, State.settingsTaken] using shiftOut_dataOut s p)
    rw [applyStaged_eq] at hexec hanswer
    let v := u.settingsTaken.recomputeLevels
    have hformed := recomputeLevels_formed u.settingsTaken
    have hrises : s.LevelRises (v.respond p 4#4 (.ok 0#16)) ↔ u.settingsTaken.LevelRises v :=
      levelRises_sameLevels ((shiftOut_sameLevels s p).trans (settingsTaken_sameLevels u)) (respond_sameLevels v p _ _)
    have hassembly (q : Port) : ((v.respond p 4#4 (.ok 0#16)).ports.get q).assembly =
        if q = p then (u.ports.get p).dropSettingWord.assembly else (u.ports.get q).assembly := by
      have h := releaseClaim_assembly (s := u.setRc { u.rc with applied := u.rc.staged }) hc q
      simpa [v, State.settingsTaken] using h
    refine ⟨v.respond p 4#4 (.ok 0#16), hexec, hanswer, ?rc, ?applied, ?level, ?lining, ?told, ?codes, ?risen,
      ?unrisen, ?others, ?cut, ?causes, ?within, ?dropped, ?assembly, ?ports, ?blocks⟩
    case rc => simp [v, u]
    case applied =>
      refine allNoticed_respond _ _ fun q => ?_
      have htold : (u.settingsTaken.ports.get q).hasNotice .settingsApplied = true := by simp
      exact (hformed.within q .settingsApplied).1 htold
    case level =>
      intro item
      simp [v, u]
    case lining => exact hformed.lining.trans (by simp [u])
    case told =>
      exact levelsTold_congr hformed.told ((shiftOut_sameLevels s p).trans (settingsTaken_sameLevels u))
        (respond_sameLevels v p _ _) rfl
    case codes =>
      refine codesWorsened_congr hformed.codes (fun q => ?_) (fun q => by simp [v]) rfl fun _ => rfl
      rw [settingsTaken_portChanges u q .codes (by simp)]
      exact shiftOut_codes s p q
    case risen =>
      intro hrise
      have hrecorded : (s.setRc (v.respond p 4#4 (.ok 0#16)).rc).RecordedAs u.settingsTaken :=
        recordedAs_trans (shiftOut_recordedAs (s.setRc _) p) (settingsTaken_recordedAs u)
      refine recordedAs_trans (recordedAs_trans (trigger_recordedAs .wearLevel hrecorded (by simp [u]) (by simp [v, u]))
        (hformed.risen (hrises.mp hrise))) (respond_recordedAs v p _ _)
    case unrisen =>
      intro hrise
      exact recordedAs_congr (hformed.unrisen (mt hrises.mpr hrise)).1
        (recordedAs_trans (shiftOut_recordedAs s p) (settingsTaken_recordedAs u)) (respond_recordedAs v p _ _)
    case others =>
      intro c hw
      have hbefore : u.settingsTaken.causeActive c = u.causeActive c := by simp [State.causeActive]
      exact (hformed.others c hw).trans hbefore
    case cut =>
      have h := hformed.cut
      simpa [v, u] using h
    case causes => exact causesTold_respond _ _ ((settingsTaken_sameCauses u).trans_told hformed.causes)
    case within =>
      exact noticesWithin_respond _ _ (noticesWithin_trans (noticesWithin_mono (settingsTaken_noticesWithin u) (by simp))
        (noticesWithin_mono hformed.within (by simp)))
    case dropped => exact settingWordDropped_of_assembly (x' := u.ports.get p) (by simp [u, PortState.shiftOut]) (by simp [hassembly])
    case assembly =>
      intro q hq
      rw [hassembly, if_neg hq]
      simp [u, hq]
    case ports =>
      exact portsChange_respond _ _ fun q => portChanges_trans
        (portChanges_mono (settingsTaken_portChanges u q) (by simp)) (portChanges_mono (hformed.port q) (by simp))
    case blocks =>
      have hbefore : Changes [.runControl, .ports] u u.settingsTaken := fun b hb => by
        cases b <;> simp [Block.Same] at hb ⊢
      exact changes_respond _ _ (by simp)
        (changes_trans (changes_mono hbefore (by simp)) (changes_mono hformed.blocks (by simp)))
  case discard =>
    let u := s.modPort p PortState.shiftOut
    obtain ⟨hexec, hanswer⟩ := exec_request_taken (effect := fun t => t.requestDiscard p) hl
      (requestDiscard_taken (s := u) hc) (by simpa [u] using shiftOut_dataOut s p)
    have hstate : u.discardStaged =
        (u.setRc { u.rc with staged := u.rc.applied, claim := none }).modPort p PortState.dropSettingWord :=
      discardStaged_claimed hc
    have hblocks : Changes [.runControl, .ports] u u.discardStaged := fun b hb => by
      cases b <;> simp [Block.Same] at hb ⊢
    refine ⟨_, hexec, hanswer, by simp [u], ?dropped, changes_respond _ _ (by simp) hblocks, ?others, ?port⟩
    case dropped =>
      refine settingWordDropped_of_assembly (x' := u.ports.get p) (by simp [u, PortState.shiftOut]) ?_
      rw [hstate]
      simp
    case others =>
      intro q hq
      simp [State.respond, hstate, u, hq]
    case port =>
      intro f hf
      cases f <;> simp [PortField.Same, u, PortState.shiftOut] at hf ⊢
  case unclaimed =>
    rintro i (rfl | rfl) hc
    · exact request_noEffect (effect := fun t => t.requestApply p) hl
        (requestApply_refused (s := s.modPort p PortState.shiftOut) (claimRefusal_unclaimed p hc))
    · exact request_noEffect (effect := fun t => t.requestDiscard p) hl
        (requestDiscard_refused (s := s.modPort p PortState.shiftOut) (claimRefusal_unclaimed p hc))
  case other =>
    rintro i q (rfl | rfl) hc hq
    · exact request_noEffect (effect := fun t => t.requestApply p) hl
        (requestApply_refused (s := s.modPort p PortState.shiftOut) (claimRefusal_other hc hq))
    · exact request_noEffect (effect := fun t => t.requestDiscard p) hl
        (requestDiscard_refused (s := s.modPort p PortState.shiftOut) (claimRefusal_other hc hq))
  case active =>
    intro hc hr
    exact request_noEffect (effect := fun t => t.requestApply p) hl
      (requestApply_active (s := s.modPort p PortState.shiftOut) hc hr)
  case inconsistent =>
    intro k hc hr hk hbelow
    exact request_noEffect (effect := fun t => t.requestApply p) hl
      (requestApply_inconsistent (s := s.modPort p PortState.shiftOut) hc hr hk hbelow)

end Sys2Proof.Machine
end

section
/-! PROOFS. WEAR_RESET (R145). -/

namespace Sys2Proof.Machine

variable {s t u : State}

/-! ### Two events that may each enter the store into fault (R157) -/

theorem fault_of_requested {x y : Store} {totals : PerItem Nat} {now : Nat} (h : Store.Requested x y totals now)
    (hf : x.fault = true) : y.fault = true := by
  rw [h.1 hf]
  exact hf

theorem recomputeLevels_fault (h : s.store.fault = true) : s.recomputeLevels.store.fault = true := by
  obtain ⟨hrise, hstand, -⟩ := (recomputeLevels_formed s).told
  by_cases hr : s.LevelRises s.recomputeLevels
  · exact fault_of_requested (hrise hr) h
  · rw [hstand hr]
    exact h

theorem State.FaultTold.trans (h : s.FaultTold t) (g : t.FaultTold u) (hst : s.store.fault = true → t.store.fault = true)
    (htu : t.store.fault = true → u.store.fault = true) : s.FaultTold u := by
  have hjoin (a : Bool) : ((a || (t.store.fault && !s.store.fault)) || (u.store.fault && !t.store.fault)) =
      (a || (u.store.fault && !s.store.fault)) := by
    cases hs : s.store.fault <;> cases ht : t.store.fault <;> cases hu : u.store.fault <;> simp_all
  obtain ⟨hcause, hnotice⟩ := h
  obtain ⟨hcause', hnotice'⟩ := g
  exact ⟨by rw [hcause', hcause, hjoin], fun p => by rw [hnotice' p, hnotice p, hjoin]⟩

/-! ### An item zeroed (R145) -/

/-- The item zeroed, its level as it was. -/
def State.zeroed (s : State) (i : WearItem) : State :=
  s.setWear { s.wear with items := s.wear.items.set i { s.wear.items.get i with total := 0, residual := 0 } }

theorem resetItem_eq (s : State) (i : WearItem) : s.resetItem i = (s.zeroed i).recomputeLevels.requestCheckpoint := rfl

theorem zeroed_get_same (s : State) (i : WearItem) :
    (s.zeroed i).wear.items.get i = { s.wear.items.get i with total := 0, residual := 0 } := by
  simp [State.zeroed]

theorem zeroed_get_other (s : State) {i j : WearItem} (h : j ≠ i) :
    (s.zeroed i).wear.items.get j = s.wear.items.get j := by
  simp [State.zeroed, h]

theorem zeroed_level (s : State) (i j : WearItem) :
    ((s.zeroed i).wear.items.get j).level = (s.wear.items.get j).level := by
  by_cases h : j = i
  · rw [h, zeroed_get_same]
  · rw [zeroed_get_other s h]

theorem zeroed_sameLevels (s : State) (i : WearItem) : s.SameLevels (s.zeroed i) :=
  ⟨zeroed_level s i, rfl, rfl, rfl, fun _ => ⟨rfl, rfl⟩⟩

theorem levelOf_mono (x : Thresholds) {m n : Nat} (h : m ≤ n) : levelOf x m ≤ levelOf x n := by
  unfold levelOf
  split_ifs <;> omega

/-- An item that is zeroed does not rise. -/
theorem not_levelRises_zeroed (h : s.LevelsMatch) (i : WearItem) :
    ¬ (s.zeroed i).LevelRises (s.zeroed i).recomputeLevels := by
  rintro ⟨j, hj⟩
  refine absurd hj (Nat.not_lt.mpr ?_)
  have hlevel := h j
  simp only [recomputeLevels_items, leveled_get, zeroed_level]
  change levelOf (s.rc.applied.thresholds.get j) _ ≤ _
  rw [hlevel]
  refine levelOf_mono _ ?_
  by_cases hji : j = i
  · rw [hji, zeroed_get_same]
    exact Nat.zero_le _
  · rw [zeroed_get_other s hji]

theorem requestCheckpoint_of_fault (h : s.store.fault = true) : s.requestCheckpoint = s := if_pos h

/-- What the checkpoint after new levels tells is told beside them. -/
theorem relevelRequest_causesTold (s : State) : s.CausesTold s.recomputeLevels.requestCheckpoint := by
  have hformed := recomputeLevels_formed s
  have htold := requestCheckpoint_storeTold s.recomputeLevels
  refine hformed.causes.trans htold.causes fun c => ?_
  by_cases hc : c = .wearStoreFault
  · cases hf : s.recomputeLevels.store.fault with
    | true => exact .inr (by rw [requestCheckpoint_of_fault hf])
    | false =>
      obtain ⟨-, -, -, hcause, -⟩ := hformed.told
      exact .inl (by rw [hc, hcause, hf, Bool.false_and, Bool.or_false])
  · exact .inr (htold.others c hc)

theorem relevelRequest_faultTold (s : State) : s.FaultTold s.recomputeLevels.requestCheckpoint := by
  obtain ⟨-, -, -, hfault⟩ := (recomputeLevels_formed s).told
  exact hfault.trans (requestCheckpoint_faultTold s.recomputeLevels) recomputeLevels_fault
    (fault_of_requested (requestCheckpoint_requested s.recomputeLevels))

/-! ### WEAR_RESET (R145) -/

theorem itemOfNumber_none {n : Nat} (h : 4 < n) : itemOfNumber n = none := by
  obtain ⟨k, rfl⟩ : ∃ k, n = k + 5 := ⟨n - 5, by omega⟩
  rfl

theorem itemOfNumber_isSome {n : Nat} (h : n ≤ 4) : ∃ i, itemOfNumber n = some i := by
  interval_cases n
  exacts [⟨_, rfl⟩, ⟨_, rfl⟩, ⟨_, rfl⟩, ⟨_, rfl⟩, ⟨_, rfl⟩]

section
variable {p : Port} {n : BitVec 5}

theorem requestWearReset_taken {i : WearItem} (hv : s.roleOf p = some .vehicle) (hr : s.rc.runState = .halted)
    (hi : itemOfNumber n.toNat = some i) (hw : s.causeActive .wearStoreFault = false) :
    s.requestWearReset p n = (s.resetItem i, .ok 0#16) := by
  simp [State.requestWearReset, isVehicle_eq_true hv, hr, hi, hw]

theorem requestWearReset_access (hv : s.roleOf p ≠ some .vehicle) : s.requestWearReset p n = (s, .access) := by
  simp [State.requestWearReset, isVehicle_eq_false hv]

theorem requestWearReset_driving (hv : s.roleOf p = some .vehicle)
    (hr : s.rc.runState = .standby ∨ s.rc.runState = .active) : s.requestWearReset p n = (s, wrongState) := by
  obtain hr | hr := hr <;> simp [State.requestWearReset, isVehicle_eq_true hv, hr]

theorem requestWearReset_operand (hv : s.roleOf p = some .vehicle) (hr : s.rc.runState = .halted)
    (hn : 4 < n.toNat) : s.requestWearReset p n = (s, .value 0) := by
  simp [State.requestWearReset, isVehicle_eq_true hv, hr, itemOfNumber_none hn]

theorem requestWearReset_fault (hv : s.roleOf p = some .vehicle) (hr : s.rc.runState = .halted)
    (hn : n.toNat ≤ 4) (hw : s.causeActive .wearStoreFault = true) : s.requestWearReset p n = (s, .state 12) := by
  obtain ⟨i, hi⟩ := itemOfNumber_isSome hn
  simp [State.requestWearReset, isVehicle_eq_true hv, hr, hi, hw]

end

/-- Settles O38: the item zeroed, its level formed anew, the checkpoint of it; and the refusals by their branches. -/
theorem wearResetZeroesItem : Obligations.WearResetZeroesItem := by
  intro p n s hl
  refine ⟨fun i hv hr hi hw => ?taken, fun hv => ?access, fun hv hr => ?driving, fun hv hr hn => ?operand,
    fun hv hr hn hw => ?fault⟩
  case taken =>
    let u := s.modPort p PortState.shiftOut
    obtain ⟨hexec, hanswer⟩ := exec_request_taken (effect := fun t => t.requestWearReset p n) hl
      (requestWearReset_taken (s := u) hv hr hi hw)
      (by simpa [u, resetItem_eq, State.zeroed] using shiftOut_dataOut s p)
    rw [resetItem_eq] at hexec hanswer
    let v := u.zeroed i
    let w := v.recomputeLevels
    have hformed := recomputeLevels_formed v
    have htold := requestCheckpoint_storeTold w
    have hitems (j : WearItem) : (w.requestCheckpoint.respond p 4#4 (.ok 0#16)).wear.items.get j =
        { v.wear.items.get j with
          level := levelOf (s.rc.applied.thresholds.get j) (v.wear.items.get j).total } := by
      simp [w, v, State.zeroed, u]
    have hbefore : s.SameLevels v := (shiftOut_sameLevels s p).trans (zeroed_sameLevels u i)
    have hkept {k : NoticeKind} (hk : k ∉ [NoticeKind.cutbackChange, NoticeKind.storeFault]) (q : Port) :
        (w.requestCheckpoint.ports.get q).hasNotice k = (w.ports.get q).hasNotice k := (htold.within q k).2 hk
    have hrecorded : s.RecordedAs v := shiftOut_recordedAs s p
    refine ⟨w.requestCheckpoint.respond p 4#4 (.ok 0#16), hexec, hanswer, ?total, ?residual, ?evaluated,
      fun j hj => ?other, fun j => ?level, ?lining, fun hmatch => ?requested, ?noticed, ?codes, ?faultTold,
      fun c hc => ?others, ?cut, ?causes, ?within, ?ports, ?blocks⟩
    case total => rw [hitems, zeroed_get_same]
    case residual => rw [hitems, zeroed_get_same]
    case evaluated => rw [hitems, zeroed_get_same]; rfl
    case other => rw [hitems, zeroed_get_other u hj]; exact ⟨rfl, rfl, rfl⟩
    case level => rw [hitems]
    case lining => exact (by simp [w] : _ = w.wear.lining).trans hformed.lining
    case requested =>
      have hrise : ¬ v.LevelRises w := not_levelRises_zeroed (s := u) hmatch i
      obtain ⟨-, hstand, -⟩ := hformed.told
      have hrequested := requestCheckpoint_requested w
      rw [hstand hrise] at hrequested
      refine ⟨?_, recordedAs_congr (hformed.unrisen hrise).1 hrecorded
        (recordedAs_trans (requestCheckpoint_recordedAs w) (respond_recordedAs _ p _ _))⟩
      simpa [w, v, u, State.totals, State.zeroed] using hrequested
    case noticed =>
      obtain ⟨-, -, hnoticed, -⟩ := hformed.told
      obtain ⟨hlevels, -, -, -, hbeforeNotices⟩ := hbefore
      intro q
      have h := hnoticed q
      have hrises : s.LevelRises (w.requestCheckpoint.respond p 4#4 (.ok 0#16)) ↔ v.LevelRises w :=
        levelRises_congr (fun j => (hlevels j).symm) fun j => by simp
      have hfalls : (w.requestCheckpoint.respond p 4#4 (.ok 0#16)).LevelRises s ↔ w.LevelRises v :=
        levelRises_congr (fun j => by simp) fun j => (hlevels j).symm
      rw [respond_hasNotice, hkept (by decide), h, hrises, hfalls, (hbeforeNotices q).1]
    case codes =>
      refine codesWorsened_congr hformed.codes (fun q => shiftOut_codes s p q) (fun q => ?_) (by simp [w])
        fun r => by simp [State.stale, w]
      have hresponse : ((w.requestCheckpoint.respond p 4#4 (.ok 0#16)).ports.get q).codes =
          (w.requestCheckpoint.ports.get q).codes := by simp
      exact hresponse.trans (htold.port q .codes (by simp))
    case faultTold => exact faultTold_respond _ _ (relevelRequest_faultTold v)
    case others => exact (htold.others c hc).trans (hformed.others c hc)
    case cut =>
      have h := htold.cut
      rw [hformed.cut] at h
      exact h
    case causes => exact causesTold_respond _ _ (relevelRequest_causesTold v)
    case within =>
      exact noticesWithin_respond _ _ (noticesWithin_trans (s := u) (t := w) hformed.within
        (noticesWithin_mono htold.within (by simp)))
    case ports =>
      exact portsChange_respond _ _ fun q => portChanges_trans (s := u) (t := w) (hformed.port q)
        (portChanges_mono (htold.port q) (by simp))
    case blocks =>
      have hzero : Changes [.wear] u v := fun b hb => by
        cases b <;> simp [Block.Same, v, State.zeroed] at hb ⊢
      exact changes_respond _ _ (by simp) (changes_trans (changes_mono hzero (by simp))
        (changes_trans (t := w) hformed.blocks (changes_mono htold.blocks (by simp))))
  case access =>
    exact request_noEffect (effect := fun t => t.requestWearReset p n) hl
      (requestWearReset_access (s := s.modPort p PortState.shiftOut) hv)
  case driving =>
    exact request_noEffect (effect := fun t => t.requestWearReset p n) hl
      (requestWearReset_driving (s := s.modPort p PortState.shiftOut) hv hr)
  case operand =>
    exact request_noEffect (effect := fun t => t.requestWearReset p n) hl
      (requestWearReset_operand (s := s.modPort p PortState.shiftOut) hv hr hn)
  case fault =>
    exact request_noEffect (effect := fun t => t.requestWearReset p n) hl
      (requestWearReset_fault (s := s.modPort p PortState.shiftOut) hv hr hn hw)

end Sys2Proof.Machine
end

section
/-! PROOFS. A trigger of a recorder that does not record, and SELF_CHECK taken in HALTED (R6, R13, R15, R168). -/

namespace Sys2Proof.Machine

variable {s t u : State}

/-! ### Triggers (R168) -/

/-- The recorder after a trigger that finds it not recording: at most a collecting snapshot is triggered again. -/
def Recorder.merged (r : Recorder) (c : TriggerCause) : Recorder :=
  match r.table.findId fun d => d.state == .collecting && d.cause == c with
  | some id => { r with table := r.table.set id (r.table.get id).retriggered }
  | none => r

theorem merged_state (r : Recorder) (c : TriggerCause) : (r.merged c).state = r.state := by
  unfold Recorder.merged
  split <;> rfl

theorem merged_frozen (r : Recorder) (c : TriggerCause) : (r.merged c).table.frozen = r.table.frozen := by
  unfold Recorder.merged
  split
  · exact frozen_set rfl
  · rfl

theorem trigger_of_idle (s : State) (c : TriggerCause) (h : s.rcd.state ≠ .recording) :
    s.trigger c = s.setRcd (s.rcd.merged c) := by
  have hreturn : s.returnLevel = s := by simp [State.returnLevel, h]
  unfold State.trigger State.fireTrigger Recorder.merged
  rw [hreturn]
  dsimp only
  cases s.rcd.table.findId fun d => d.state == .collecting && d.cause == c with
  | some id => rfl
  | none =>
    dsimp only
    rw [if_pos (.inl h)]
    rfl

/-- Where nothing is recorded, a trigger leaves the same whatever the settings are. -/
theorem trigger_recordedAs_idle (c : TriggerCause) (h : s.rcd.state ≠ .recording) (hst : s.RecordedAs t) :
    (s.trigger c).RecordedAs (t.trigger c) := by
  obtain ⟨hrcd, hmarks⟩ := hst
  rw [trigger_of_idle s c h, trigger_of_idle t c (by rwa [hrcd])]
  exact ⟨by simp [hrcd], fun p => hmarks p⟩

/-- A trigger adds no sample. -/
theorem trigger_ring (s : State) (c : TriggerCause) : (s.trigger c).rcd.ring = s.rcd.ring ∧
    (s.trigger c).rcd.next = s.rcd.next ∧ (s.trigger c).rcd.empty = s.rcd.empty := by
  obtain ⟨id, -, h⟩ | h | ⟨id, -, -, -, -, h⟩ := trigger_rcd_cases s c
  · simp [h]
  · simp [h]
  · obtain ⟨-, hring, hnext, hempty⟩ := openSnapshot_table s.returnLevel c id
    simp [h, hring, hnext, hempty]

theorem recomputeLevels_ring (s : State) : s.recomputeLevels.rcd.ring = s.rcd.ring ∧
    s.recomputeLevels.rcd.next = s.rcd.next ∧ s.recomputeLevels.rcd.empty = s.rcd.empty := by
  have hformed := recomputeLevels_formed s
  by_cases hr : s.LevelRises s.recomputeLevels
  · obtain ⟨hrcd, -⟩ := hformed.risen hr
    rw [hrcd]
    exact trigger_ring s .wearLevel
  · obtain ⟨⟨hrcd, -⟩, -⟩ := hformed.unrisen hr
    rw [hrcd]
    exact ⟨rfl, rfl, rfl⟩

theorem codesWorsened_respond {p : Port} (c : BitVec 4) (r : Reply) (h : (s.modPort p PortState.shiftOut).CodesWorsened u) :
    s.CodesWorsened (u.respond p c r) := by
  intro q i
  have hstatus : (u.respond p c r).wearStatus i = u.wearStatus i := wearStatus_congr (by simp) (by simp [State.stale])
  have hcodes : ((u.respond p c r).ports.get q).codes = (u.ports.get q).codes := by simp
  rw [hstatus, hcodes, h q i, shiftOut_codes]

/-! ### SELF_CHECK taken (R13, R15) -/

/-- The state that a self-check forms its levels in: the settings are the defaults, and no port claims the staging. -/
def State.defaulted (s : State) : State := s.setRc { s.rc with staged := .defaults, applied := .defaults, claim := none }

@[simp] theorem forSelfCheck_hasNotice (x : PortState) (k : NoticeKind) : x.forSelfCheck.hasNotice k = x.hasNotice k := rfl

@[simp] theorem startSelfCheck_hasNotice (s : State) (b : Bool) (k : NoticeKind) (p : Port) :
    ((s.startSelfCheck b).ports.get p).hasNotice k = ((s.ports.get p).hasNotice k || decide (k = .runStateChange)) := by
  simp [State.startSelfCheck]

theorem startSelfCheck_sameCauses (s : State) (b : Bool) : s.SameCauses (s.startSelfCheck b) :=
  ⟨by simp, fun p => ⟨by simp, by simp [startSelfCheck_hasNotice]⟩⟩

theorem startSelfCheck_rcd (s : State) (b : Bool) : (s.startSelfCheck b).rcd = s.rcd.settled .selfCheck s.now := by
  simp [State.startSelfCheck, changeRunState_rcd]

theorem startSelfCheck_split (s : State) (b : Bool) : (s.startSelfCheck b).split = s.split.stopped s.takenTRr := by
  have htaken : s.stopDeadlines.takenTRr = s.takenTRr := by
    rw [State.takenTRr, State.takenTRr, stopDeadlines_stale]
    rfl
  simp [State.startSelfCheck, State.stopSplit, htaken]

theorem startSelfCheck_rc (s : State) (b : Bool) : (s.startSelfCheck b).rc = { s.rc with
    runState := .selfCheck, checkDone := false, checkFail := false, checkStep := 0#2
    checkEnd := some (s.now + 2), checkRequested := b } := by
  simp [State.startSelfCheck]
  rfl

theorem startSelfCheck_deadline (s : State) (b : Bool) (r : Role) :
    (s.startSelfCheck b).env.book.get r = { s.env.book.get r with deadline := none } := by
  simp [State.startSelfCheck, State.stopDeadlines]

theorem startSelfCheck_env (s : State) (b : Bool) : { (s.startSelfCheck b).env with book := s.env.book } = s.env := by
  simp [State.startSelfCheck, State.stopDeadlines]

theorem startSelfCheck_stale (s : State) (b : Bool) (r : Role) : (s.startSelfCheck b).stale r = s.stale r := by
  have h := stopDeadlines_stale s r
  simpa [State.stale, State.startSelfCheck] using h

theorem requestSelfCheck_taken {p : Port} (hv : s.roleOf p = some .vehicle) (hr : s.rc.runState = .halted) :
    s.requestSelfCheck p = (s.takeSelfCheck, .ok 0#16) := by
  simp [State.requestSelfCheck, isVehicle_eq_true hv, hr]

/-- HALTED and SELF_CHECK ask for the same recorder state, which is not RECORDING (R162). -/
theorem recorderState_checking_congr (x : SnapshotTable) : recorderState x .selfCheck = recorderState x .halted := rfl

theorem recorderState_congr {x y : SnapshotTable} (h : y.frozen = x.frozen) (r : RunState) :
    recorderState y r = recorderState x r := by
  unfold recorderState
  rw [h]

theorem recorderState_halted_ne (x : SnapshotTable) : recorderState x .halted ≠ .recording := by
  unfold recorderState
  split_ifs <;> simp

theorem selfCheckCleared_eq (s : State) :
    s.selfCheckCleared = s.defaulted.recomputeLevels.mapPorts PortState.forSelfCheck := rfl

@[simp] theorem selfCheckCleared_rc (s : State) :
    s.selfCheckCleared.rc = { s.rc with staged := .defaults, applied := .defaults, claim := none } := by
  simp [selfCheckCleared_eq, State.defaulted]

@[simp] theorem selfCheckCleared_untouched (s : State) :
    s.selfCheckCleared.powered = s.powered ∧ s.selfCheckCleared.resetAsserted = s.resetAsserted ∧
    s.selfCheckCleared.now = s.now ∧ s.selfCheckCleared.freeCount = s.freeCount ∧ s.selfCheckCleared.env = s.env ∧
    s.selfCheckCleared.split = s.split ∧ s.selfCheckCleared.gen = s.gen ∧ s.selfCheckCleared.pending = s.pending := by
  simp [selfCheckCleared_eq, State.defaulted]

theorem selfCheckCleared_blocks (s : State) : s.selfCheckCleared.cut = s.defaulted.recomputeLevels.cut ∧
    s.selfCheckCleared.wear = s.defaulted.recomputeLevels.wear ∧
    s.selfCheckCleared.store = s.defaulted.recomputeLevels.store ∧
    s.selfCheckCleared.rcd = s.defaulted.recomputeLevels.rcd := by
  simp [selfCheckCleared_eq]

theorem takeSelfCheck_blocks (s : State) : s.takeSelfCheck.cut = s.defaulted.recomputeLevels.cut ∧
    s.takeSelfCheck.wear = s.defaulted.recomputeLevels.wear ∧
    s.takeSelfCheck.store = s.defaulted.recomputeLevels.store := by
  obtain ⟨hcut, hwear, hstore, -⟩ := selfCheckCleared_blocks s
  simp [takeSelfCheck_eq, hcut, hwear, hstore]

theorem takeSelfCheck_rc (s : State) : s.takeSelfCheck.rc = { s.rc with
    runState := .selfCheck, staged := .defaults, applied := .defaults, claim := none, checkDone := false
    checkFail := false, checkStep := 0#2, checkEnd := some (s.now + 2), checkRequested := true } := by
  rw [takeSelfCheck_eq, startSelfCheck_rc]
  simp

theorem takeSelfCheck_deadline (s : State) (r : Role) :
    s.takeSelfCheck.env.book.get r = { s.env.book.get r with deadline := none } := by
  rw [takeSelfCheck_eq, startSelfCheck_deadline]
  simp

theorem takeSelfCheck_env (s : State) : { s.takeSelfCheck.env with book := s.env.book } = s.env := by
  have h := startSelfCheck_env s.selfCheckCleared true
  simpa [takeSelfCheck_eq] using h

theorem takeSelfCheck_split (s : State) : s.takeSelfCheck.split = s.split.stopped s.takenTRr := by
  rw [takeSelfCheck_eq, startSelfCheck_split, takenTRr_of_env (s := s) (by simp)]
  simp

theorem takeSelfCheck_rcd (s : State) :
    s.takeSelfCheck.rcd = s.defaulted.recomputeLevels.rcd.settled .selfCheck s.now := by
  obtain ⟨-, -, -, hrcd⟩ := selfCheckCleared_blocks s
  rw [takeSelfCheck_eq, startSelfCheck_rcd, hrcd]
  simp

theorem takeSelfCheck_ring (s : State) : s.takeSelfCheck.rcd.ring = s.rcd.ring ∧
    s.takeSelfCheck.rcd.next = s.rcd.next ∧ s.takeSelfCheck.rcd.empty = s.rcd.empty := by
  obtain ⟨hring, hnext, hempty⟩ := recomputeLevels_ring s.defaulted
  rw [takeSelfCheck_rcd]
  obtain ⟨h1, h2, h3⟩ := settled_ring s.defaulted.recomputeLevels.rcd .selfCheck s.now
  exact ⟨h1.trans hring, h2.trans hnext, h3.trans hempty⟩

@[simp] theorem takeSelfCheck_hasNotice (s : State) (k : NoticeKind) (p : Port) :
    (s.takeSelfCheck.ports.get p).hasNotice k =
      ((s.defaulted.recomputeLevels.ports.get p).hasNotice k || decide (k = .runStateChange)) := by
  rw [takeSelfCheck_eq, startSelfCheck_hasNotice, selfCheckCleared_eq, mapPorts_get, forSelfCheck_hasNotice]

theorem takeSelfCheck_cleared (s : State) (q : Port) :
    (s.takeSelfCheck.ports.get q).dump =
      { (s.ports.get q).dump with status := .ended, reason := some .cancelled, queue := [] } ∧
    (s.takeSelfCheck.ports.get q).holding = none ∧ (s.takeSelfCheck.ports.get q).assembly = none ∧
    (s.takeSelfCheck.ports.get q).counters = .zero := by
  simp [takeSelfCheck_eq, selfCheckCleared_eq, State.defaulted, PortState.forSelfCheck, DumpContext.cancelled]

theorem takeSelfCheck_portKept (s : State) (q : Port) :
    PortChanges [.assembly, .holding, .notices, .counters, .dump] s.defaulted.recomputeLevels s.takeSelfCheck q := by
  intro f hf
  cases f <;> simp [PortField.Same, takeSelfCheck_eq, selfCheckCleared_eq, PortState.forSelfCheck] at hf ⊢

theorem takeSelfCheck_sameLevels (s : State) : s.defaulted.recomputeLevels.SameLevels s.takeSelfCheck := by
  obtain ⟨hcut, hwear, hstore⟩ := takeSelfCheck_blocks s
  exact ⟨fun i => by rw [hwear], hstore, by simp [takeSelfCheck_eq, State.defaulted],
    causeActive_of_cut (by rw [hcut]) _, fun q => by simp⟩

theorem takeSelfCheck_sameCauses (s : State) : s.defaulted.recomputeLevels.SameCauses s.takeSelfCheck := by
  obtain ⟨hcut, -⟩ := takeSelfCheck_blocks s
  exact ⟨by rw [hcut], fun q => ⟨takeSelfCheck_portKept s q .latch (by simp), by simp⟩⟩

theorem takeSelfCheck_markedAs (s : State) : s.defaulted.recomputeLevels.MarkedAs s.takeSelfCheck :=
  fun q => ⟨takeSelfCheck_portKept s q .missed (by simp), by simp, by simp⟩

theorem takeSelfCheck_codesWorsened (s : State) : s.CodesWorsened s.takeSelfCheck := by
  obtain ⟨-, hwear, -⟩ := takeSelfCheck_blocks s
  refine codesWorsened_congr (recomputeLevels_formed s.defaulted).codes (fun q => rfl)
    (fun q => takeSelfCheck_portKept s q .codes (by simp)) (by rw [hwear]) fun r => ?_
  rw [takeSelfCheck_eq, startSelfCheck_stale, selfCheckCleared_eq]
  simp [State.stale]

theorem takeSelfCheck_noticesWithin (s : State) :
    State.NoticesWithin [.runStateChange] s.defaulted.recomputeLevels s.takeSelfCheck := by
  intro q k
  rw [takeSelfCheck_hasNotice]
  exact ⟨fun h => by simp [h], fun hk => by simp [List.mem_singleton.not.mp hk]⟩

theorem takeSelfCheck_changes (s : State) :
    Changes [.runControl, .envelope, .cutback, .split, .wear, .store, .recorder, .ports] s s.takeSelfCheck := by
  intro b hb
  cases b <;> simp [Block.Same, takeSelfCheck_eq] at hb ⊢

/-- What the levels formed against the defaults trigger is all that a settled recorder shows (R15, R162). -/
theorem takeSelfCheck_recordedAs {v : State} (hs : s.RecorderSettled) (hr : s.rc.runState = .halted)
    (hv : v.RecordedAs s.defaulted.recomputeLevels) (hstate : v.rcd.state = s.rcd.state)
    (hfrozen : v.rcd.table.frozen = s.rcd.table.frozen) : v.RecordedAs s.takeSelfCheck := by
  refine recordedAs_trans hv ⟨(takeSelfCheck_rcd s).trans (settled_of_same _ ?_), takeSelfCheck_markedAs s⟩
  rw [hv.1, hstate, recorderState_checking_congr, recorderState_congr hfrozen, ← hr]
  exact hs

section
variable (s)

theorem defaulted_sameLevels : s.SameLevels s.defaulted := ⟨fun _ => rfl, rfl, rfl, rfl, fun _ => ⟨rfl, rfl⟩⟩

theorem takeSelfCheck_levelRises : s.LevelRises s.takeSelfCheck ↔ s.defaulted.LevelRises s.defaulted.recomputeLevels :=
  levelRises_sameLevels (defaulted_sameLevels s) (takeSelfCheck_sameLevels s)

theorem takeSelfCheck_levelsTold : s.LevelsTold s.takeSelfCheck := by
  obtain ⟨-, hwear, -⟩ := takeSelfCheck_blocks s
  exact levelsTold_congr (recomputeLevels_formed s.defaulted).told (defaulted_sameLevels s) (takeSelfCheck_sameLevels s)
    (by rw [State.totals, hwear, State.totals])

theorem takeSelfCheck_level (i : WearItem) : s.takeSelfCheck.wear.items.get i = { s.wear.items.get i with
    level := levelOf (Settings.defaults.thresholds.get i) (s.wear.items.get i).total } := by
  obtain ⟨-, hwear, -⟩ := takeSelfCheck_blocks s
  rw [hwear]
  simp [State.defaulted]

theorem takeSelfCheck_lining : s.takeSelfCheck.wear.lining = s.wear.lining := by
  obtain ⟨-, hwear, -⟩ := takeSelfCheck_blocks s
  rw [hwear]
  exact recomputeLevels_lining s.defaulted

theorem takeSelfCheck_others {c : Cause} (hc : c ≠ .wearStoreFault) :
    s.takeSelfCheck.causeActive c = s.causeActive c := by
  obtain ⟨hcut, -⟩ := takeSelfCheck_blocks s
  exact (causeActive_of_cut (by rw [hcut]) c).trans ((recomputeLevels_formed s.defaulted).others c hc)

theorem takeSelfCheck_cut : s.takeSelfCheck.cut = { s.cut with live := s.takeSelfCheck.cut.live } := by
  obtain ⟨hcut, -⟩ := takeSelfCheck_blocks s
  rw [hcut]
  exact (recomputeLevels_formed s.defaulted).cut

theorem takeSelfCheck_causesTold : s.CausesTold s.takeSelfCheck := by
  have hbefore : s.SameCauses s.defaulted := ⟨rfl, fun _ => ⟨rfl, rfl⟩⟩
  exact (hbefore.trans_told (recomputeLevels_formed s.defaulted).causes).trans_same (takeSelfCheck_sameCauses s)

theorem takeSelfCheck_within : State.NoticesWithin
    [.runStateChange, .wearLevel, .cutbackChange, .storeFault, .snapshotComplete, .triggerMissed] s s.takeSelfCheck := by
  have hformed := (recomputeLevels_formed s.defaulted).within
  exact noticesWithin_trans (s := s.defaulted) (noticesWithin_mono hformed (by simp))
    (noticesWithin_mono (takeSelfCheck_noticesWithin s) (by simp))

theorem takeSelfCheck_portChanges (q : Port) : PortChanges
    [.assembly, .holding, .notices, .missed, .latch, .counters, .codes, .dump] s s.takeSelfCheck q := by
  have hformed := (recomputeLevels_formed s.defaulted).port q
  exact portChanges_trans (s := s.defaulted) (portChanges_mono hformed (by simp))
    (portChanges_mono (takeSelfCheck_portKept s q) (by simp))

end

theorem takeSelfCheck_table (h : ¬ s.LevelRises s.takeSelfCheck) : s.takeSelfCheck.rcd.table = s.rcd.table := by
  obtain ⟨⟨hrcd, -⟩, -⟩ := (recomputeLevels_formed s.defaulted).unrisen (mt (takeSelfCheck_levelRises s).mpr h)
  rw [takeSelfCheck_rcd, settled_table, hrcd]
  rfl

theorem takeSelfCheck_unrisen (hs : s.RecorderSettled) (hr : s.rc.runState = .halted)
    (h : ¬ s.LevelRises s.takeSelfCheck) : s.RecordedAs s.takeSelfCheck := by
  obtain ⟨hrecorded, -⟩ := (recomputeLevels_formed s.defaulted).unrisen (mt (takeSelfCheck_levelRises s).mpr h)
  exact takeSelfCheck_recordedAs hs hr hrecorded rfl rfl

theorem takeSelfCheck_risen (hs : s.RecorderSettled) (hr : s.rc.runState = .halted)
    (h : s.LevelRises s.takeSelfCheck) : (s.trigger .wearLevel).RecordedAs s.takeSelfCheck := by
  have hidle : s.rcd.state ≠ .recording := by
    rw [hs, hr]
    exact recorderState_halted_ne _
  have hbefore : s.RecordedAs s.defaulted := recordedAs_refl s
  have hrisen := recordedAs_trans (trigger_recordedAs_idle .wearLevel hidle hbefore)
    ((recomputeLevels_formed s.defaulted).risen ((takeSelfCheck_levelRises s).mp h))
  refine takeSelfCheck_recordedAs hs hr hrisen ?_ ?_ <;> rw [trigger_of_idle s _ hidle, setRcd_rcd]
  · exact merged_state s.rcd .wearLevel
  · exact merged_frozen s.rcd .wearLevel

/-- Settles O34: the settings back to the defaults, the levels formed against them, and the self-check begun. -/
theorem selfCheckTaken : Obligations.SelfCheckTaken := by
  intro p s hrun hv hr
  let u := s.modPort p PortState.shiftOut
  obtain ⟨hexec, hanswer⟩ := exec_request_taken (effect := fun t => t.requestSelfCheck p) ⟨hrun, by simp [hr]⟩
    (requestSelfCheck_taken (s := u) hv hr)
    ((takeSelfCheck_portChanges u p .frame (by simp)).2.trans (shiftOut_dataOut s p))
  have hcauses := causesTold_respond 4#4 (.ok 0#16) (takeSelfCheck_causesTold u)
  have hcodes := codesWorsened_respond 4#4 (.ok 0#16) (takeSelfCheck_codesWorsened u)
  have hwithin := noticesWithin_respond 4#4 (.ok 0#16) (takeSelfCheck_within u)
  have hports := portsChange_respond 4#4 (.ok 0#16) (takeSelfCheck_portChanges u)
  have hblocks := changes_respond 4#4 (.ok 0#16) (by simp) (takeSelfCheck_changes u)
  have hnoticed : (u.takeSelfCheck.respond p 4#4 (.ok 0#16)).AllNoticed .runStateChange :=
    allNoticed_respond _ _ fun q => by simp
  have hafter := respond_sameLevels u.takeSelfCheck p 4#4 (.ok 0#16)
  have hrecorded := respond_recordedAs u.takeSelfCheck p 4#4 (.ok 0#16)
  have hkept := respond_untouched u.takeSelfCheck p 4#4 (.ok 0#16)
  have hport := respond_port_untouched u.takeSelfCheck p 4#4 (.ok 0#16)
  generalize u.takeSelfCheck.respond p 4#4 (.ok 0#16) = t at *
  obtain ⟨hpowered, hreset, hnow, -, hrc, henv, hcut, hsplit, -, hwear, hstore, hrcd, -⟩ := hkept
  have hrises : s.LevelRises t ↔ u.LevelRises u.takeSelfCheck := levelRises_sameLevels (shiftOut_sameLevels s p) hafter
  refine ⟨t, hexec, hanswer, ?rc, ?drives, ?level, ?lining, ?told, hcodes, ?deadlines, ?env, ?split, ?ring, ?next,
    ?empty, fun hrise => ?table, fun hsettled => ⟨fun hrise => ?unrisen, fun hrise => ?risen⟩, fun c hc => ?others, ?cut,
    hcauses, hnoticed, hwithin, ?cleared, hports, hblocks⟩
  case rc => rw [hrc, takeSelfCheck_rc]; rfl
  case drives =>
    have hrunning : t.running = true := by
      simpa [State.running, takeSelfCheck_eq, u, hpowered, hreset] using hrun
    exact (drivesHold_iff hrunning).mpr (.inl (by simp [hrc, takeSelfCheck_rc]))
  case level =>
    intro i
    rw [hwear, takeSelfCheck_level]
    rfl
  case lining => rw [hwear, takeSelfCheck_lining]; rfl
  case told =>
    exact levelsTold_congr (takeSelfCheck_levelsTold u) (shiftOut_sameLevels s p) hafter
      (by rw [State.totals, hwear, State.totals])
  case deadlines =>
    intro r
    rw [henv, takeSelfCheck_deadline]
    rfl
  case env =>
    rw [henv]
    exact takeSelfCheck_env u
  case split => rw [hsplit, takeSelfCheck_split]; rfl
  case ring => rw [hrcd, (takeSelfCheck_ring u).1]; rfl
  case next => rw [hrcd, (takeSelfCheck_ring u).2.1]; rfl
  case empty => rw [hrcd, (takeSelfCheck_ring u).2.2]; rfl
  case table => rw [hrcd, takeSelfCheck_table (mt hrises.mpr hrise)]; rfl
  case unrisen =>
    exact recordedAs_congr (takeSelfCheck_unrisen (s := u) hsettled hr (mt hrises.mpr hrise)) (shiftOut_recordedAs s p)
      hrecorded
  case risen =>
    have hbefore := trigger_recordedAs .wearLevel (shiftOut_recordedAs s p) rfl rfl
    exact recordedAs_congr (takeSelfCheck_risen (s := u) hsettled hr (hrises.mp hrise)) hbefore hrecorded
  case others => rw [causeActive_of_cut (congrArg Cutback.live hcut), takeSelfCheck_others u hc]; rfl
  case cut => rw [hcut, takeSelfCheck_cut]; rfl
  case cleared =>
    intro q
    obtain ⟨-, hassembly, hholding, -, -, -, -, hcounters, -, hdump, -⟩ := hport q
    have hbefore : (u.ports.get q).dump = (s.ports.get q).dump := by
      simp only [u, modPort_get]
      split_ifs <;> rfl
    rw [hassembly, hholding, hcounters, hdump, ← hbefore]
    exact takeSelfCheck_cleared u q

end Sys2Proof.Machine
end

section
/-! PROOFS. The ways a trigger goes, and what TRIGGER and RELEASE do (R162, R163, R168 to R172). -/

namespace Sys2Proof.Machine

variable {s t u : State}

/-! ### The descriptor that a search finds (R168) -/

theorem descriptorId_cases (id : BitVec 2) : id = 0#2 ∨ id = 1#2 ∨ id = 2#2 ∨ id = 3#2 := by
  simpa [descriptorIds] using mem_descriptorIds id

/-- A search of the table finds the lowest descriptor of its kind. -/
theorem findId_of_lowest {x : SnapshotTable} {f : Descriptor → Bool} {P : Descriptor → Prop} {id : BitVec 2}
    (hf : ∀ d, f d = true ↔ P d) (h : x.Lowest P id) : x.findId f = some id := by
  obtain ⟨hid, hbelow⟩ := h
  have hyes : f (x.get id) = true := (hf _).mpr hid
  have hno (j : BitVec 2) (hj : j.toNat < id.toNat) : f (x.get j) = false :=
    Bool.eq_false_iff.mpr fun hjf => hbelow j hj ((hf _).mp hjf)
  unfold SnapshotTable.findId descriptorIds
  obtain rfl | rfl | rfl | rfl := descriptorId_cases id
  · simp [hyes]
  · simp [hyes, hno 0#2 (by decide)]
  · simp [hyes, hno 0#2 (by decide), hno 1#2 (by decide)]
  · simp [hyes, hno 0#2 (by decide), hno 1#2 (by decide), hno 2#2 (by decide)]

theorem findId_of_none {x : SnapshotTable} {f : Descriptor → Bool} (h : ∀ id, f (x.get id) = false) :
    x.findId f = none :=
  List.find?_eq_none.mpr fun id _ => by simp [h id]

theorem findId_collects {x : SnapshotTable} {c : TriggerCause} {id : BitVec 2} (h : x.Collects c id) :
    x.findId (fun d => d.state == .collecting && d.cause == c) = some id :=
  findId_of_lowest (fun d => by simp) h

theorem findId_uncollected {x : SnapshotTable} {c : TriggerCause}
    (h : ∀ id, ¬ ((x.get id).state = .collecting ∧ (x.get id).cause = c)) :
    x.findId (fun d => d.state == .collecting && d.cause == c) = none :=
  findId_of_none fun id => by simpa using h id

theorem available_takes {x : SnapshotTable} {id : BitVec 2} (h : x.Takes id) : x.available = some id := by
  unfold SnapshotTable.available
  obtain h | ⟨hnone, h⟩ := h
  · rw [findId_of_lowest (fun d => by simp) h]
    rfl
  · rw [findId_of_none (fun j => by simpa using hnone j), findId_of_lowest (fun d => by simp) h]
    rfl

theorem available_full {x : SnapshotTable}
    (h : ∀ id, (x.get id).state = .collecting ∨ (x.get id).state = .complete) : x.available = none := by
  unfold SnapshotTable.available
  have hno (y : DescriptorState) (hy : y ≠ .collecting) (hy' : y ≠ .complete) :
      x.findId (fun d => d.state == y) = none := by
    refine findId_of_none fun id => ?_
    obtain h | h := h id <;> simp [h, hy.symm, hy'.symm]
  rw [hno _ (by decide) (by decide), hno _ (by decide) (by decide)]
  rfl

/-! ### The four ways of a trigger (R168) -/

section
variable {c : TriggerCause}

theorem fireTrigger_collected {id : BitVec 2} (h : s.rcd.table.Collects c id) : s.fireTrigger c =
    (s.setRcd { s.rcd.returned s.now with
      table := s.rcd.table.set id (s.rcd.table.get id).retriggered }, .merged id) := by
  simp only [State.fireTrigger, returnLevel_eq, setRcd_rcd, returned_table, findId_collects h]
  rfl

theorem fireTrigger_idle (h : ∀ id, ¬ ((s.rcd.table.get id).state = .collecting ∧ (s.rcd.table.get id).cause = c))
    (hi : s.rcd.state ≠ .recording ∨ s.rcd.empty = true) :
    s.fireTrigger c = (s.setRcd (s.rcd.returned s.now), .missed) := by
  simp only [State.fireTrigger, returnLevel_eq, setRcd_rcd, returned_table, findId_uncollected h, returned_state,
    (returned_ring _ _).2.2]
  rw [if_pos hi]

theorem fireTrigger_taken {id : BitVec 2}
    (h : ∀ id, ¬ ((s.rcd.table.get id).state = .collecting ∧ (s.rcd.table.get id).cause = c))
    (hr : s.rcd.state = .recording) (he : s.rcd.empty = false) (ht : s.rcd.table.Takes id) :
    s.fireTrigger c = ((s.setRcd (s.rcd.returned s.now)).openSnapshot c id, .opened id) := by
  simp only [State.fireTrigger, returnLevel_eq, setRcd_rcd, returned_table, findId_uncollected h, returned_state,
    (returned_ring _ _).2.2, available_takes ht]
  rw [if_neg (by simp [hr, he])]

theorem fireTrigger_full (h : ∀ id, ¬ ((s.rcd.table.get id).state = .collecting ∧ (s.rcd.table.get id).cause = c))
    (hr : s.rcd.state = .recording) (he : s.rcd.empty = false)
    (ht : ∀ id, (s.rcd.table.get id).state = .collecting ∨ (s.rcd.table.get id).state = .complete) :
    s.fireTrigger c = (((s.setRcd (s.rcd.returned s.now)).noticeAll .triggerMissed).mapPorts
      fun x => { x with missed := x.missed ||| c.bit }, .tableFull) := by
  simp only [State.fireTrigger, returnLevel_eq, setRcd_rcd, returned_table, findId_uncollected h, returned_state,
    (returned_ring _ _).2.2, available_full ht]
  rw [if_neg (by simp [hr, he])]

end

/-- What a trigger that tells `tells` makes of a port. -/
def PortState.triggered (tells : Option NoticeKind) (c : TriggerCause) (x : PortState) : PortState :=
  match tells with
  | none => x
  | some k => if k = .triggerMissed then { x.addNotice k with missed := x.missed ||| c.bit } else x.addNotice k

theorem trigger_ports (s : State) (c : TriggerCause) (q : Port) :
    (s.trigger c).ports.get q = (s.ports.get q).triggered (s.triggerTells c) c := by
  unfold State.triggerTells State.trigger
  obtain ⟨x, id, h⟩ | ⟨x, h⟩ | ⟨x, id, h⟩ | ⟨x, h⟩ := fireTrigger_cases s c <;> rw [h]
  · rfl
  · rfl
  · by_cases hpost : s.rc.applied.post.get c = 0
    · simp [PortState.triggered, State.openSnapshot, State.completed, State.noticeAll, settleRecorder_eq, hpost]
    · simp [PortState.triggered, State.openSnapshot, hpost]
  · simp [PortState.triggered, State.noticeAll, PortState.addNotice]

theorem triggered_shiftOut (x : PortState) (tells : Option NoticeKind) (c : TriggerCause) :
    x.shiftOut.triggered tells c = (x.triggered tells c).shiftOut := by
  unfold PortState.triggered
  cases tells with
  | none => rfl
  | some k =>
    dsimp only
    split_ifs <;> rfl

theorem triggerBit_has (c k : TriggerCause) : c.bit.getLsbD k.code = decide (k = c) := by
  cases c <;> cases k <;> rfl

/-! ### TRIGGER (R168, R170, R172) -/

theorem exec_trigger (p : Port) (s : State) : exec (.trigger p) s = s.request p fun t => t.requestTrigger := rfl

/-- A trigger sees nothing of the ports. -/
theorem trigger_shiftOut_rcd (s : State) (p : Port) (c : TriggerCause) :
    ((s.modPort p PortState.shiftOut).trigger c).rcd = (s.trigger c).rcd :=
  trigger_rcd_congr c rfl rfl rfl rfl

theorem triggerTells_shiftOut (s : State) (p : Port) (c : TriggerCause) :
    (s.modPort p PortState.shiftOut).triggerTells c = s.triggerTells c :=
  triggerTells_congr c rfl rfl rfl

theorem changes_setRcd (s : State) (x : Recorder) : Changes [.recorder] s (s.setRcd x) := by
  intro b hb
  cases b <;> simp [Block.Same] at hb ⊢

theorem trigger_changes (s : State) (c : TriggerCause) : Changes [.recorder, .ports] s (s.trigger c) := by
  intro b hb
  cases b <;> simp [Block.Same] at hb ⊢

theorem trigger_of_outcome {c : TriggerCause} {o : TriggerOutcome} (h : s.fireTrigger c = (t, o)) : s.trigger c = t := by
  rw [State.trigger, h]

/-- The descriptor that a trigger of cause `c` fills (R168, R169). -/
theorem begunSnapshot_returned (s : State) (c : TriggerCause) : s.begunSnapshot (s.rcd.returned s.now) c =
    { state := if s.rc.applied.post.get c = 0 then .complete else .collecting
      cause := c, trigger := s.rcd.next - 1
      first := max (s.rcd.next - 1 - 8191) (s.rcd.next - 1 - s.rc.applied.pre.get c)
      last := s.rcd.next - 1 + s.rc.applied.post.get c, retriggers := 0, freeze := decide (c = .holdLine) } := by
  have hfreeze : c.freezes = decide (c = .holdLine) := by cases c <;> rfl
  simp only [State.begunSnapshot, Recorder.oldest, Recorder.newest, (returned_ring _ _).2.1, hfreeze]
  rfl

theorem openSnapshot_of_post {c : TriggerCause} (h : s.rc.applied.post.get c ≠ 0) (id : BitVec 2) :
    s.openSnapshot c id = s.setRcd { s.rcd with table := s.rcd.table.set id (s.begunSnapshot s.rcd c) } := by
  simp [State.openSnapshot, State.begunSnapshot, h]

theorem openSnapshot_of_no_post {c : TriggerCause} (h : s.rc.applied.post.get c = 0) (id : BitVec 2) :
    s.openSnapshot c id =
      (s.setRcd { s.rcd with table := s.rcd.table.set id (s.begunSnapshot s.rcd c) }).completed := by
  simp [State.openSnapshot, State.begunSnapshot, h]

/-- A recorder that leaves RECORDING stops its sample timer (R162). -/
theorem settled_leaving {r : Recorder} {x : RunState} (n : Nat) (h : recorderState r.table x ≠ r.state)
    (hx : recorderState r.table x ≠ .recording) : r.settled x n = { r with state := recorderState r.table x, due := none } := by
  unfold Recorder.settled
  rw [if_neg h, if_neg hx]

/-- The kind of notice that an outcome brings, with `post` samples to come. -/
def TriggerOutcome.kind (o : TriggerOutcome) (post : Nat) : Option NoticeKind :=
  match o with
  | .opened _ => if post = 0 then some .snapshotComplete else none
  | .tableFull => some .triggerMissed
  | .merged _ | .missed => none

theorem triggerTells_of_outcome {c : TriggerCause} {o : TriggerOutcome} (h : s.fireTrigger c = (t, o)) :
    s.triggerTells c = o.kind (s.rc.applied.post.get c) := by
  unfold State.triggerTells
  rw [h]
  cases o <;> rfl

theorem trigger_portChanges_of_tells {c : TriggerCause} (h : s.triggerTells c ≠ some .triggerMissed) (q : Port) :
    PortChanges [.notices] s (s.trigger c) q := by
  intro f hf
  cases f <;> simp [PortField.Same, trigger_missed, h] at hf ⊢

theorem trigger_noticesWithin_of_tells {c : TriggerCause} {k : NoticeKind} (h : s.triggerTells c = some k) :
    State.NoticesWithin [k] s (s.trigger c) := by
  intro p j
  rw [trigger_hasNotice, h]
  refine ⟨fun hj => by simp [hj], fun hj => ?_⟩
  simp [Ne.symm (List.mem_singleton.not.mp hj)]

theorem trigger_allNoticed_of_tells {c : TriggerCause} {k : NoticeKind} (h : s.triggerTells c = some k) :
    (s.trigger c).AllNoticed k := fun p => by
  rw [trigger_hasNotice, h]
  simp

/-- Settles O39: the four ways of a trigger, and TRIGGER's answer to each. -/
theorem triggerHandled : Obligations.TriggerHandled := by
  refine ⟨fun c s => ⟨fun id hid => ?collected, fun hno => ⟨fun hidle => ?idle, fun hrec hempty =>
    ⟨fun id hid => ?taken, fun hfull => ?full⟩⟩⟩, fun p s hl => ?request⟩
  case collected =>
    rw [trigger_of_outcome (fireTrigger_collected hid)]
    exact ⟨rfl, changes_setRcd s _⟩
  case idle =>
    rw [trigger_of_outcome (fireTrigger_idle hno hidle)]
    exact ⟨rfl, changes_setRcd s _⟩
  case taken =>
    have ht := trigger_of_outcome (fireTrigger_taken hno hrec hempty hid)
    have htable : (s.rcd.returned s.now).table = s.rcd.table := returned_table _ _
    have htells : s.triggerTells c = if s.rc.applied.post.get c = 0 then some .snapshotComplete else none :=
      triggerTells_of_outcome (fireTrigger_taken hno hrec hempty hid)
    have hports (q : Port) : PortChanges [.notices] s (s.trigger c) q :=
      trigger_portChanges_of_tells (by rw [htells]; split_ifs <;> simp) q
    dsimp only
    rw [← begunSnapshot_returned, ← htable]
    refine ⟨fun hpost => ?later, fun hpost => ?atOnce, hports, trigger_changes s c⟩
    case later =>
      rw [ht, openSnapshot_of_post (s := s.setRcd (s.rcd.returned s.now)) hpost]
      exact ⟨rfl, changes_setRcd s _⟩
    case atOnce =>
      have hopened := openSnapshot_of_no_post (s := s.setRcd (s.rcd.returned s.now)) hpost id
      have hrcd := completed_rcd (s.setRcd { s.rcd.returned s.now with
        table := (s.rcd.returned s.now).table.set id (s.begunSnapshot (s.rcd.returned s.now) c) })
      rw [if_pos hpost] at htells
      refine ⟨trigger_allNoticed_of_tells htells, fun hkept => ?_, fun hleft => ?_, trigger_noticesWithin_of_tells htells⟩
      · rw [ht, hopened]
        exact hrcd.trans (settled_of_same _ (by simpa [hrec] using hkept.symm))
      · rw [ht, hopened]
        exact hrcd.trans (settled_leaving _ (by simpa [hrec] using hleft) hleft)
  case full =>
    have hfire := fireTrigger_full hno hrec hempty hfull
    have htells : s.triggerTells c = some .triggerMissed := triggerTells_of_outcome hfire
    refine ⟨?_, trigger_allNoticed_of_tells htells, fun q k => ?_, trigger_noticesWithin_of_tells htells,
      fun q => portChanges_mono (trigger_portChanges s c q) (by simp), trigger_changes s c⟩
    · rw [trigger_of_outcome hfire]
      simp
    · rw [trigger_missed, if_pos htells, BitVec.getLsbD_or, triggerBit_has]
  case request =>
    let u := s.modPort p PortState.shiftOut
    obtain ⟨v, o, hfire⟩ : ∃ v o, u.fireTrigger .manual = (v, o) := ⟨_, _, rfl⟩
    have hv : u.trigger .manual = v := trigger_of_outcome hfire
    have houtcome : (s.fireTrigger .manual).2 = o := by
      rw [← fireTrigger_outcome_congr (s := s) (t := u) .manual rfl rfl, hfire]
    have heffect : u.requestTrigger = (v, .ok o.payload) := by simp [State.requestTrigger, hfire]
    obtain ⟨hexec, hanswer⟩ := exec_request_taken (p := p) (effect := fun t => t.requestTrigger) hl heffect
      (by simpa [← hv, u] using shiftOut_dataOut s p)
    have hports (q : Port) : v.ports.get q = (u.ports.get q).triggered (s.triggerTells .manual) .manual := by
      rw [← hv, trigger_ports, triggerTells_shiftOut]
    refine ⟨v.respond p 4#4 (.ok o.payload), hexec, ?rcd, changes_respond _ _ (by simp) (hv ▸ trigger_changes u _),
      fun q hq => ?others, ?notices, ?missed, ?port, fun id hid => ?collected,
      fun hno => ⟨fun hidle => ?idle, fun hrec hempty => ⟨fun id hid => ?taken, fun hfull => ?full⟩⟩⟩
    case rcd =>
      rw [← trigger_shiftOut_rcd s p, ← hv]
      rfl
    case others =>
      have h : (v.respond p 4#4 (.ok o.payload)).ports.get q = v.ports.get q := by simp [State.respond, hq]
      rw [h, hports, trigger_ports]
      simp [u, hq]
    case notices =>
      have h : ((v.respond p 4#4 (.ok o.payload)).ports.get p).notices = (v.ports.get p).notices := by simp
      rw [h, hports, trigger_ports, modPort_get_same, triggered_shiftOut]
      rfl
    case missed =>
      have h : ((v.respond p 4#4 (.ok o.payload)).ports.get p).missed = (v.ports.get p).missed := by simp
      rw [h, hports, trigger_ports, modPort_get_same, triggered_shiftOut]
      rfl
    case port =>
      intro f hf
      cases f <;> simp [PortField.Same, ← hv, u, PortState.shiftOut] at hf ⊢
    case collected =>
      rw [fireTrigger_collected hid] at houtcome
      subst houtcome
      exact hanswer
    case idle =>
      rw [fireTrigger_idle hno hidle] at houtcome
      subst houtcome
      exact hanswer
    case taken =>
      rw [fireTrigger_taken hno hrec hempty hid] at houtcome
      subst houtcome
      exact hanswer
    case full =>
      rw [fireTrigger_full hno hrec hempty hfull] at houtcome
      subst houtcome
      exact hanswer

end Sys2Proof.Machine
end

section
/-! PROOFS. RELEASE, and the requests that begin and end a dump (R162, R163, R172, R174, R175, R176, R178). -/

namespace Sys2Proof.Machine

variable {s t u : State}

/-! ### RELEASE (R162, R163, R172) -/

theorem frozen_iff (x : SnapshotTable) :
    x.frozen = true ↔ ∃ id, (x.get id).state = .complete ∧ (x.get id).freeze = true := by
  rw [frozen_iff_freezing]
  simp [Descriptor.freezing]

theorem recorderState_eq_frozen (x : SnapshotTable) (r : RunState) : recorderState x r = .frozen ↔ x.frozen = true := by
  unfold recorderState
  split_ifs with h
  · simp [h]
  · cases r <;> simp [h]

theorem descriptorOf_none {n : BitVec 5} (h : 3 < n.toNat) : descriptorOf n = none := if_pos h

theorem descriptorOf_some {n : BitVec 5} (h : n.toNat ≤ 3) : descriptorOf n = some (n.setWidth 2) :=
  if_neg (Nat.not_lt.mpr h)

theorem requestRelease_operand {n : BitVec 5} (h : 3 < n.toNat) : s.requestRelease n = (s, .value 0) := by
  simp [State.requestRelease, descriptorOf_none h]

theorem requestRelease_taken {n : BitVec 5} (h : n.toNat ≤ 3) :
    s.requestRelease n = (s.releaseDescriptor (n.setWidth 2), .ok 0#16) := by
  simp [State.requestRelease, descriptorOf_some h]

theorem settled_entering {r : Recorder} {x : RunState} (n : Nat) (h : recorderState r.table x ≠ r.state)
    (hx : recorderState r.table x = .recording) :
    r.settled x n = { r with state := .recording, level := .run, still := none, due := some (n + 20) } :=
  settled_recording n hx fun e => h (hx.trans e.symm)

theorem releaseDescriptor_eq (s : State) (id : BitVec 2) : s.releaseDescriptor id = s.setRcd
    ({ s.rcd with table := s.rcd.table.set id { s.rcd.table.get id with state := .free } }.settled
      s.rc.runState s.now) := by
  unfold State.releaseDescriptor
  rw [settleRecorder_eq]
  rfl

/-- Settles O40: the three conditions of the recorder's state, and the state settled after a descriptor is freed. -/
theorem releaseFreesDescriptor : Obligations.ReleaseFreesDescriptor := by
  refine ⟨frozen_iff, fun x r => ⟨(recorderState_eq_frozen x r).trans (frozen_iff x), fun h => ?state⟩,
    fun p n s hl => ⟨fun hn => ?operand, fun hn => ?taken⟩⟩
  case state =>
    have hfree : x.frozen = false := by simpa [recorderState_eq_frozen] using h
    refine ⟨?_, fun hr => recorderState_driving hfree hr⟩
    rintro (rfl | rfl) <;> simp [recorderState, hfree]
  case operand =>
    exact request_noEffect (effect := fun t => t.requestRelease n) hl
      (requestRelease_operand (s := s.modPort p PortState.shiftOut) hn)
  case taken =>
    let u := s.modPort p PortState.shiftOut
    have heffect := requestRelease_taken (s := u) hn
    rw [releaseDescriptor_eq] at heffect
    obtain ⟨hexec, hanswer⟩ := exec_request_taken (effect := fun t => t.requestRelease n) hl heffect
      (shiftOut_dataOut s p)
    obtain ⟨hothers, hport⟩ := ports_respond_of_same (s := s) (p := p) 4#4 (.ok 0#16) (u := u.setRcd _) rfl
    refine ⟨_, hexec, hanswer, ⟨fun h => ?_, fun h hx => ?_, fun h hx => ?_⟩,
      changes_respond _ _ (by simp) (changes_mono (changes_setRcd u _) (by simp)), hothers, hport⟩
    · exact settled_of_same (r := { s.rcd with table := _ }) _ h.symm
    · exact settled_entering (r := { s.rcd with table := _ }) _ h hx
    · exact settled_leaving (r := { s.rcd with table := _ }) _ h hx

end Sys2Proof.Machine
end

section
/-! PROOFS. The requests that begin and end a dump (R174, R175, R176, R178). -/

namespace Sys2Proof.Machine

variable {s t u : State}

/-- A dump context as a request begins it, before its first fetch (R174). -/
def DumpContext.begun (source : DumpSource) (first last : Nat) : DumpContext := ⟨.streaming, none, source, first, last, []⟩

theorem startDump_eq (s : State) (p : Port) (source : DumpSource) (first last : Nat) : s.startDump p source first last =
    s.modPort p fun x => { x with dump := (DumpContext.begun source first last).fetch s.rcd } := rfl

/-- A fetch does not change what a dump is of. -/
theorem fetch_source (d : DumpContext) (r : Recorder) : (d.fetch r).source = d.source ∧ (d.fetch r).last = d.last := by
  cases hm : d.mayFetch r with
  | false => simp [fetch_of_not_mayFetch hm]
  | true =>
    cases hx : r.sampleNumber d.next with
    | some x => simp [fetch_of_mayFetch hm hx]
    | none => simp [DumpContext.fetch, hm, hx]

theorem fetch_begun {r : Recorder} {source : DumpSource} {first last : Nat} {x : Sample} (hl : first ≤ last)
    (hn : first < r.next) (hx : r.sampleNumber first = some x) : (DumpContext.begun source first last).fetch r =
      { DumpContext.begun source first last with
        queue := x.words, next := first + 1, status := if first = last then .ended else .streaming
        reason := if first = last then some .done else none } :=
  fetch_of_mayFetch ((mayFetch_iff _ _).mpr ⟨rfl, by simp [DumpContext.begun], hl, hn⟩) hx

theorem fetch_begun_ahead {r : Recorder} {source : DumpSource} {first last : Nat} (h : last < first ∨ r.next ≤ first) :
    (DumpContext.begun source first last).fetch r = DumpContext.begun source first last := by
  refine fetch_of_not_mayFetch (Bool.eq_false_iff.mpr fun hmay => ?_)
  obtain ⟨-, -, hlast, hnext⟩ := (mayFetch_iff _ _).mp hmay
  obtain h | h := h
  · exact absurd hlast (Nat.not_le.mpr h)
  · exact absurd hnext (Nat.not_lt.mpr h)

/-- What the begin of a dump at port `p` is told to leave. -/
def State.DumpBegun (s t : State) (p : Port) (source : DumpSource) (first last : Nat) : Prop :=
  Answered s t p 4#4 .ok 0#16 ∧ OtherPortsSame s t p ∧ PortChanges [.frame, .dump] s t p ∧
  (t.ports.get p).dump.source = source ∧ (t.ports.get p).dump.last = last ∧
  (∀ x, first ≤ last → first < s.rcd.next → s.rcd.sampleNumber first = some x →
    (t.ports.get p).dump.queue = x.words ∧ (t.ports.get p).dump.next = first + 1 ∧
    (first < last → (t.ports.get p).dump.status = .streaming ∧ (t.ports.get p).dump.reason = none) ∧
    (first = last → (t.ports.get p).dump.status = .ended ∧ (t.ports.get p).dump.reason = some .done)) ∧
  (last < first ∨ s.rcd.next ≤ first → (t.ports.get p).dump.queue = [] ∧
    (t.ports.get p).dump.next = first ∧ (t.ports.get p).dump.status = .streaming ∧
    (t.ports.get p).dump.reason = none)

/-- A dump begun for a request, whatever free count goes with it. -/
theorem dumpBegun_respond {p : Port} {source : DumpSource} {first last : Nat}
    (hp : u.ports = ((s.modPort p PortState.shiftOut).startDump p source first last).ports)
    (ha : Answered s (u.respond p 4#4 (.ok 0#16)) p 4#4 .ok 0#16) :
    s.DumpBegun (u.respond p 4#4 (.ok 0#16)) p source first last := by
  have hdump : ((u.respond p 4#4 (.ok 0#16)).ports.get p).dump = (DumpContext.begun source first last).fetch s.rcd := by
    simp [hp, startDump_eq]
  obtain ⟨hsource, hlast⟩ := fetch_source (DumpContext.begun source first last) s.rcd
  refine ⟨ha, fun q hq => ?_, fun f hf => ?_, hdump ▸ hsource, hdump ▸ hlast, fun x hl hn hx => ?_,
    fun h => ?_⟩
  · simp [State.respond, hp, startDump_eq, hq]
  · cases f <;> simp [PortField.Same, hp, startDump_eq, PortState.shiftOut] at hf ⊢
  · rw [hdump, fetch_begun hl hn hx]
    exact ⟨rfl, rfl, fun h => ⟨if_neg (Nat.ne_of_lt h), if_neg (Nat.ne_of_lt h)⟩, fun h => ⟨if_pos h, if_pos h⟩⟩
  · rw [hdump, fetch_begun_ahead h]
    exact ⟨rfl, rfl, rfl, rfl⟩

theorem startDump_changes (s : State) (p : Port) (source : DumpSource) (first last : Nat) :
    Changes [.ports] s (s.startDump p source first last) := by
  intro b hb
  cases b <;> simp [Block.Same, startDump_eq] at hb ⊢

theorem changes_setFreeCount (s : State) (n : Nat) : Changes [.free, .ports] s (s.setFreeCount n) := by
  intro b hb
  cases b <;> simp [Block.Same] at hb ⊢

section
variable {p : Port} {n : BitVec 5}

theorem requestDumpSnapshot_operand (h : 3 < n.toNat) : s.requestDumpSnapshot p n = (s, .value 0) := by
  simp [State.requestDumpSnapshot, descriptorOf_none h]

theorem requestDumpSnapshot_free (hn : n.toNat ≤ 3) (h : (s.rcd.table.get (n.setWidth 2)).state = .free) :
    s.requestDumpSnapshot p n = (s, .state 0) := by
  simp [State.requestDumpSnapshot, descriptorOf_some hn, h]

theorem requestDumpSnapshot_overwritten (hn : n.toNat ≤ 3) (h : (s.rcd.table.get (n.setWidth 2)).state = .overwritten) :
    s.requestDumpSnapshot p n = (s, .state 3) := by
  simp [State.requestDumpSnapshot, descriptorOf_some hn, h]

theorem requestDumpSnapshot_taken (hn : n.toNat ≤ 3) (h : (s.rcd.table.get (n.setWidth 2)).state = .collecting ∨
    (s.rcd.table.get (n.setWidth 2)).state = .complete) : s.requestDumpSnapshot p n =
      (s.startDump p (.descriptor (n.setWidth 2)) (s.rcd.table.get (n.setWidth 2)).first
        (s.rcd.table.get (n.setWidth 2)).last, .ok 0#16) := by
  obtain h | h := h <;> simp [State.requestDumpSnapshot, descriptorOf_some hn, h]

theorem requestDumpRange_ahead (h : s.rcd.empty = true ∨ s.rcd.newest < (s.ports.get p).dumpRange.first) :
    s.requestDumpRange p = (s, .value 1) := by
  simp [State.requestDumpRange, h]

theorem requestDumpRange_lost (he : s.rcd.empty = false) (hn : (s.ports.get p).dumpRange.first ≤ s.rcd.newest)
    (ho : (s.ports.get p).dumpRange.first < s.rcd.oldest) : s.requestDumpRange p = (s, .value 2) := by
  simp [State.requestDumpRange, he, Nat.not_lt.mpr hn, ho]

theorem requestDumpRange_taken (he : s.rcd.empty = false) (hn : (s.ports.get p).dumpRange.first ≤ s.rcd.newest)
    (ho : s.rcd.oldest ≤ (s.ports.get p).dumpRange.first) : s.requestDumpRange p =
      ((s.startDump p (.range (Config.rangeIdBits s.freeCount)) (s.ports.get p).dumpRange.first
        (min ((s.ports.get p).dumpRange.first + (s.ports.get p).dumpRange.count - 1) s.rcd.newest)).setFreeCount
        (s.freeCount + 1), .ok 0#16) := by
  simp [State.requestDumpRange, he, Nat.not_lt.mpr hn, Nat.not_lt.mpr ho, startDump_eq]

theorem requestDumpCancel_live (h : (s.ports.get p).dump.status = .streaming ∨
    (s.ports.get p).dump.status = .ended ∧ (s.ports.get p).dump.queue ≠ []) : s.requestDumpCancel p =
      (s.modPort p fun x => { x with dump := (s.ports.get p).dump.cancelled }, .ok 0#16) := by
  obtain h | ⟨h, hq⟩ := h
  · simp [State.requestDumpCancel, h]
  · simp [State.requestDumpCancel, h, hq]

theorem requestDumpCancel_over (h : (s.ports.get p).dump.status = .idle ∨
    (s.ports.get p).dump.status = .ended ∧ (s.ports.get p).dump.queue = []) : s.requestDumpCancel p = (s, .ok 0#16) := by
  obtain h | ⟨h, hq⟩ := h
  · simp [State.requestDumpCancel, h]
  · simp [State.requestDumpCancel, h, hq]

end

/-- The dump context and the range of a port are not what its response is shifted out of. -/
theorem shiftOut_dump (s : State) (p : Port) :
    ((s.modPort p PortState.shiftOut).ports.get p).dump = (s.ports.get p).dump ∧
    ((s.modPort p PortState.shiftOut).ports.get p).dumpRange = (s.ports.get p).dumpRange := by
  simp [PortState.shiftOut]

/-- Settles O41: each request by its branch, and what is begun by its first fetch. -/
theorem dumpsBeginAndEnd : Obligations.DumpsBeginAndEnd := by
  refine ⟨fun p s hl => ⟨fun h => ?live, fun h => ?ended⟩, fun p n s hl => ⟨fun hn => ⟨fun h => ?snapshot, fun h => ?free,
    fun h => ?overwritten⟩, fun hn => ?operand, fun h => ?ahead, fun he hn ho => ?lost, fun he hn ho => ?range⟩⟩
  case live =>
    let u := s.modPort p PortState.shiftOut
    have heffect := requestDumpCancel_live (s := u) (p := p) (by rw [(shiftOut_dump s p).1]; exact h)
    obtain ⟨hexec, hanswer⟩ := exec_request_taken (p := p) (effect := fun t => t.requestDumpCancel p) hl heffect
      (by simp [u, PortState.shiftOut])
    refine ⟨_, hexec, hanswer, by simp [u, PortState.shiftOut, DumpContext.cancelled],
      onlyPort_modPort_respond s p _ _ _ (by simp) fun g hg => ?_⟩
    cases g <;> simp [PortField.Same] at hg ⊢
  case ended =>
    exact request_noEffect (effect := fun t => t.requestDumpCancel p) hl
      (requestDumpCancel_over (s := s.modPort p PortState.shiftOut) (p := p) (by rw [(shiftOut_dump s p).1]; exact h))
  case snapshot =>
    let u := s.modPort p PortState.shiftOut
    obtain ⟨hexec, hanswer⟩ := exec_request_taken (effect := fun t => t.requestDumpSnapshot p n) hl
      (requestDumpSnapshot_taken (s := u) (p := p) hn h) (by simp [u, startDump_eq, PortState.shiftOut])
    exact ⟨_, hexec, dumpBegun_respond rfl hanswer, changes_respond _ _ (by simp) (startDump_changes _ _ _ _ _)⟩
  case free =>
    exact request_noEffect (effect := fun t => t.requestDumpSnapshot p n) hl
      (requestDumpSnapshot_free (s := s.modPort p PortState.shiftOut) hn h)
  case overwritten =>
    exact request_noEffect (effect := fun t => t.requestDumpSnapshot p n) hl
      (requestDumpSnapshot_overwritten (s := s.modPort p PortState.shiftOut) hn h)
  case operand =>
    exact request_noEffect (effect := fun t => t.requestDumpSnapshot p n) hl
      (requestDumpSnapshot_operand (s := s.modPort p PortState.shiftOut) hn)
  case ahead =>
    exact request_noEffect (effect := fun t => t.requestDumpRange p) hl
      (requestDumpRange_ahead (s := s.modPort p PortState.shiftOut) (by rw [(shiftOut_dump s p).2]; exact h))
  case lost =>
    exact request_noEffect (effect := fun t => t.requestDumpRange p) hl
      (requestDumpRange_lost (s := s.modPort p PortState.shiftOut) he (by rw [(shiftOut_dump s p).2]; exact hn)
        (by rw [(shiftOut_dump s p).2]; exact ho))
  case range =>
    let u := s.modPort p PortState.shiftOut
    have heffect := requestDumpRange_taken (s := u) (p := p) he (by rw [(shiftOut_dump s p).2]; exact hn)
      (by rw [(shiftOut_dump s p).2]; exact ho)
    rw [(shiftOut_dump s p).2] at heffect
    obtain ⟨hexec, hanswer⟩ := exec_request_taken (effect := fun t => t.requestDumpRange p) hl heffect
      (by simp [u, startDump_eq, PortState.shiftOut])
    refine ⟨_, _, hexec, dumpBegun_respond rfl hanswer, changes_respond _ _ (by simp)
      (changes_trans (changes_mono (startDump_changes _ _ _ _ _) (by simp)) (changes_setFreeCount _ _))⟩

end Sys2Proof.Machine
end

section
/-! PROOFS. The expiry of a link deadline (R19, R33, R45, R53, R141, R142). -/

namespace Sys2Proof.Machine

variable {s t u : State} {r : Role}

/-! ### A role that becomes stale (R33) -/

/-- The role marked stale, its deadline stopped. -/
def State.staled (s : State) (r : Role) : State :=
  s.setEnv { s.env with book := s.env.book.set r { s.env.book.get r with deadline := none, stale := true } }

/-- The cause of the link raised. -/
def State.linkLost (s : State) (r : Role) : State := (s.staled r).raise (linkCause r)

/-- SLIP given up with the staleness of BRAKE (R53). -/
def State.slipSettled (s : State) (r : Role) : State := if r = .brake then s.slipGivenUp else s

theorem role_set_set {α : Type} (x : PerRole α) (q : Role) (a b : α) : (x.set q a).set q b = x.set q b := by
  cases q <;> rfl

theorem deadlineExpired_of_stale (h : s.stale r = true) : s.deadlineExpired r = s.stopDeadline r := if_pos h

theorem deadlineExpired_of_current (h : s.stale r = false) :
    s.deadlineExpired r = (((s.linkLost r).slipSettled r).discardStale r).worsenCodes := by
  have hentry : (s.stopDeadline r).setEnv { (s.stopDeadline r).env with
      book := (s.stopDeadline r).env.book.set r { (s.stopDeadline r).env.book.get r with stale := true } } =
      s.staled r := by
    simp [State.stopDeadline, State.staled, role_set_set]
    rfl
  unfold State.deadlineExpired
  rw [if_neg (by simp [h])]
  unfold State.becomeStale
  dsimp only
  rw [hentry]
  rfl

@[simp] theorem staled_env (s : State) (r : Role) : (s.staled r).env =
    { s.env with book := s.env.book.set r { s.env.book.get r with deadline := none, stale := true } } := rfl

@[simp] theorem slipSettled_untouched (s : State) (r : Role) :
    (s.slipSettled r).powered = s.powered ∧ (s.slipSettled r).resetAsserted = s.resetAsserted ∧
    (s.slipSettled r).now = s.now ∧ (s.slipSettled r).freeCount = s.freeCount ∧ (s.slipSettled r).rc = s.rc ∧
    (s.slipSettled r).env = s.env ∧ (s.slipSettled r).split = s.split ∧ (s.slipSettled r).gen = s.gen ∧
    (s.slipSettled r).wear = s.wear ∧ (s.slipSettled r).store = s.store ∧ (s.slipSettled r).rcd = s.rcd ∧
    (s.slipSettled r).pending = s.pending := by
  unfold State.slipSettled
  split_ifs <;> simp

theorem slipSettled_portChanges (s : State) (r : Role) (q : Port) : PortChanges [.notices] s (s.slipSettled r) q := by
  unfold State.slipSettled
  intro f hf
  split_ifs <;> cases f <;> simp [PortField.Same] at hf ⊢

theorem slipSettled_causeActive (s : State) (r : Role) (c : Cause) :
    (s.slipSettled r).causeActive c = (s.causeActive c && !(decide (c = .slip) && decide (r = .brake))) := by
  unfold State.slipSettled
  split_ifs with h
  · have hclear : s.slipGivenUp.causeActive c = (s.clear .slip).causeActive c := rfl
    simp [hclear, h]
  · simp [h]

theorem slipSettled_cut (s : State) (r : Role) : (s.slipSettled r).cut = { s.cut with
    live := (s.slipSettled r).cut.live, slipTimer := if r = .brake then .idle else s.cut.slipTimer } := by
  unfold State.slipSettled
  split_ifs
  · simp [State.slipGivenUp, State.setSlipTimer]
  · rfl

theorem slipSettled_causesTold (s : State) (r : Role) : s.CausesTold (s.slipSettled r) := by
  unfold State.slipSettled
  split_ifs
  · have hsame : (s.clear .slip).SameCauses s.slipGivenUp := ⟨rfl, fun p => ⟨rfl, rfl⟩⟩
    exact (clear_causesTold s .slip).trans_same hsame
  · exact causesTold_refl s

theorem slipSettled_noticesWithin (s : State) (r : Role) : State.NoticesWithin [.cutbackChange] s (s.slipSettled r) := by
  unfold State.slipSettled
  split_ifs
  · exact clear_noticesWithin (s := s) (u := s) rfl .slip
  · exact noticesWithin_refl s _

/-- What the end of a claim and the worsening of the codes tell nothing of. -/
theorem discardWorsen_sameCauses (s : State) (r : Role) : s.SameCauses (s.discardStale r).worsenCodes :=
  ⟨by simp, fun p => ⟨by simp, by simp [PortState.hasNotice]⟩⟩

theorem discardWorsen_hasNotice (s : State) (r : Role) (k : NoticeKind) (p : Port) :
    ((s.discardStale r).worsenCodes.ports.get p).hasNotice k = (s.ports.get p).hasNotice k := by
  simp [PortState.hasNotice]

theorem discardWorsen_portChanges (s : State) (r : Role) (q : Port) :
    PortChanges [.assembly, .codes] s (s.discardStale r).worsenCodes q := by
  intro f hf
  cases f <;> simp [PortField.Same] at hf ⊢

theorem linkCause_ne_slip (r : Role) : linkCause r ≠ .slip := by cases r <;> decide

theorem linkCause_history (r : Role) : (linkCause r).historyTrigger = some .cutback := by cases r <;> rfl

theorem linkCause_hard (r : Role) : (linkCause r).hard = decide (r = .traction) := by cases r <;> rfl

theorem staled_sameCauses (s : State) (r : Role) : s.SameCauses (s.staled r) := ⟨rfl, fun _ => ⟨rfl, rfl⟩⟩

theorem staled_takenTRr (h : r ≠ .brake) : (s.staled r).takenTRr = s.takenTRr := by
  have hstale : (s.staled r).stale .brake = s.stale .brake := by
    simp [State.stale, role_get_set_other _ _ _ _ h.symm]
  rw [State.takenTRr, State.takenTRr, hstale]
  rfl

/-! ### The expiry (R33) -/

/-- The state in which the claim of a stale role ends and the codes are worsened. -/
def State.linkSettled (s : State) (r : Role) : State := (s.linkLost r).slipSettled r

theorem deadlineExpired_layers (h : s.stale r = false) :
    s.deadlineExpired r = ((s.linkSettled r).discardStale r).worsenCodes := deadlineExpired_of_current h

@[simp] theorem linkSettled_untouched (s : State) (r : Role) :
    (s.linkSettled r).powered = s.powered ∧ (s.linkSettled r).resetAsserted = s.resetAsserted ∧
    (s.linkSettled r).now = s.now ∧ (s.linkSettled r).freeCount = s.freeCount ∧ (s.linkSettled r).rc = s.rc ∧
    (s.linkSettled r).env = (s.staled r).env ∧ (s.linkSettled r).wear = s.wear ∧
    (s.linkSettled r).store = s.store ∧ (s.linkSettled r).pending = s.pending := by
  simp [State.linkSettled, State.linkLost, State.staled]

theorem linkSettled_causeActive (s : State) (r : Role) (c : Cause) : (s.linkSettled r).causeActive c =
    ((s.causeActive c || decide (c = linkCause r)) && !(decide (c = .slip) && decide (r = .brake))) := by
  rw [State.linkSettled, slipSettled_causeActive, State.linkLost, raise_causeActive]
  rfl

theorem linkSettled_cut (s : State) (r : Role) : (s.linkSettled r).cut = { s.cut with
    live := (s.linkSettled r).cut.live, slipTimer := if r = .brake then .idle else s.cut.slipTimer } := by
  have h := slipSettled_cut (s.linkLost r) r
  simp only [State.linkLost, raise_cut] at h
  exact h

theorem linkSettled_causesTold (s : State) (r : Role) : s.CausesTold (s.linkSettled r) := by
  have hlost : s.CausesTold (s.linkLost r) := (staled_sameCauses s r).trans_told (raise_causesTold _ _)
  refine hlost.trans (slipSettled_causesTold _ r) fun c => ?_
  rw [State.linkSettled, slipSettled_causeActive]
  by_cases hc : c = .slip
  · left
    rw [State.linkLost, raise_causeActive, hc, decide_eq_false (linkCause_ne_slip r).symm]
    simp [State.staled]
  · simp [hc]

theorem linkSettled_noticesWithin (s : State) (r : Role) :
    State.NoticesWithin [.cutbackChange, .snapshotComplete, .triggerMissed] s (s.linkSettled r) := by
  have hlost : State.NoticesWithin [.cutbackChange, .snapshotComplete, .triggerMissed] s (s.linkLost r) :=
    raise_noticesWithin (s.staled r) _
  exact noticesWithin_trans hlost (noticesWithin_mono (slipSettled_noticesWithin _ r) (by simp))

theorem linkSettled_portChanges (s : State) (r : Role) (q : Port) :
    PortChanges [.notices, .missed, .latch] s (s.linkSettled r) q := by
  have hlost : PortChanges [.notices, .missed, .latch] s (s.linkLost r) q := raise_portChanges (s.staled r) _ q
  exact portChanges_trans hlost (portChanges_mono (slipSettled_portChanges _ r q) (by simp))

theorem slipSettled_recordedAs (s : State) (r : Role) : s.RecordedAs (s.slipSettled r) := by
  refine ⟨by simp, fun p => ⟨slipSettled_portChanges s r p .missed (by simp), ?_, ?_⟩⟩
  · exact (slipSettled_noticesWithin s r p _).2 (by decide)
  · exact (slipSettled_noticesWithin s r p _).2 (by decide)

theorem linkSettled_recordedAs (h : s.causeActive (linkCause r) = false) :
    (s.trigger .cutback).RecordedAs (s.linkSettled r) := by
  have hstaled : s.RecordedAs (s.staled r) := ⟨rfl, fun _ => ⟨rfl, rfl, rfl⟩⟩
  have hraised := raise_recordedAs (s.staled r) (c := linkCause r) h
  rw [State.raiseTrigger, linkCause_history] at hraised
  exact recordedAs_trans (recordedAs_trans (trigger_recordedAs .cutback hstaled rfl rfl) hraised)
    (slipSettled_recordedAs _ r)

theorem linkSettled_recordedAs_active (h : s.causeActive (linkCause r) = true) : s.RecordedAs (s.linkSettled r) := by
  have hlost : s.linkLost r = s.staled r := raise_of_active (s.staled r) h
  have hstaled : s.RecordedAs (s.staled r) := ⟨rfl, fun _ => ⟨rfl, rfl, rfl⟩⟩
  refine recordedAs_trans hstaled ?_
  rw [State.linkSettled, hlost]
  exact slipSettled_recordedAs _ r

theorem linkSettled_traction (h : s.causeActive .linkTraction = false) :
    (s.linkSettled .traction).split = { s.split with
      tMc := 0, grant := 0, lDrive := 0, lRegen := 0, friction := s.takenTRr, source := .hardCause, valid := false } ∧
    (s.linkSettled .traction).gen = { s.gen with setpoint := 0 } := by
  obtain ⟨hgen, hsplit⟩ := raise_hard (s.staled .traction) (c := .linkTraction) h rfl
  rw [staled_takenTRr (by decide)] at hsplit
  exact ⟨hsplit, hgen⟩

theorem linkSettled_soft (h : r ≠ .traction) :
    (s.linkSettled r).split = s.split ∧ (s.linkSettled r).gen = s.gen := by
  obtain ⟨hsplit, hgen⟩ := raise_soft (s.staled r) (linkCause r) (by rw [linkCause_hard]; exact decide_eq_false h)
  simp only [State.linkSettled, slipSettled_untouched, State.linkLost, hsplit, hgen]
  exact ⟨rfl, rfl⟩

theorem linkSettled_changes (s : State) (r : Role) :
    Changes [.envelope, .cutback, .split, .genset, .recorder, .ports] s (s.linkSettled r) := by
  intro b hb
  cases b <;> simp [Block.Same] at hb ⊢

/-- Of the end of a claim and the worsened codes: blocks. -/
theorem discardWorsen_changes (s : State) (r : Role) :
    Changes [.runControl, .ports] s (s.discardStale r).worsenCodes := by
  intro b hb
  cases b <;> simp [Block.Same] at hb ⊢

theorem discardWorsen_recordedAs (s : State) (r : Role) : s.RecordedAs (s.discardStale r).worsenCodes :=
  ⟨by simp, fun p => ⟨by simp, discardWorsen_hasNotice s r _ p, discardWorsen_hasNotice s r _ p⟩⟩

theorem discardWorsen_claimDropped (s : State) (r : Role) :
    s.ClaimDropped (fun q => s.roleOf q = some r) (s.discardStale r).worsenCodes := by
  have hsame : (s.discardStale r).SameClaim (s.discardStale r).worsenCodes :=
    ⟨by simp, by simp, by simp, by simp, fun p => by simp⟩
  exact (discardStale_claimDropped s r).trans_same hsame

theorem discardWorsen_codesWorsened (s : State) (r : Role) : s.CodesWorsened (s.discardStale r).worsenCodes := by
  intro q i
  rw [worsenCodes_codes, worsenCodes_wearStatus]
  simp

theorem linkSettled_sameClaim (s : State) (r : Role) : s.SameClaim (s.linkSettled r) :=
  ⟨by simp, by simp, by simp, by simp, fun p => linkSettled_portChanges s r p .assembly (by simp)⟩

/-- Settles O47: a stopped deadline, one of a stale role, and the staleness that a running one brings. -/
theorem deadlineExpiryMakesStale : Obligations.DeadlineExpiryMakesStale := by
  intro r s hrun
  refine ⟨fun h => next_timed_none h _, fun d hd hs => ?stale, fun d hd hs => ?current⟩
  case stale =>
    refine ⟨_, next_timed_due hrun hd fun t => t.deadlineExpired r, ?_⟩
    rw [deadlineExpired_of_stale (s := s.setNow (max s.now d)) hs]
    refine ⟨rfl, fun b hb => ?_⟩
    cases b <;> simp [Block.Same] at hb ⊢
  case current =>
    refine ⟨_, next_timed_due hrun hd fun t => t.deadlineExpired r, ?_⟩
    rw [deadlineExpired_layers (s := s.setNow (max s.now d)) hs]
    generalize max s.now d = n
    let u := s.setNow n
    let v := u.linkSettled r
    have hclaim : s.ClaimDropped (fun q => s.roleOf q = some r) (v.discardStale r).worsenCodes := by
      have h := discardWorsen_claimDropped v r
      have hrole (q : Port) : v.roleOf q = s.roleOf q := (linkSettled_sameClaim u r).roleOf q
      simp only [hrole] at h
      exact (linkSettled_sameClaim u r).trans_dropped h
    have hcauses := (linkSettled_causesTold u r).trans_same (discardWorsen_sameCauses v r)
    have hwithin : State.NoticesWithin [.cutbackChange, .snapshotComplete, .triggerMissed] s
        (v.discardStale r).worsenCodes := fun p k => by
      rw [discardWorsen_hasNotice]
      exact linkSettled_noticesWithin u r p k
    have hport (q : Port) : PortChanges [.assembly, .notices, .missed, .latch, .codes] s
        (v.discardStale r).worsenCodes q :=
      portChanges_trans (s := u) (t := v) (portChanges_mono (linkSettled_portChanges u r q) (by simp))
        (portChanges_mono (discardWorsen_portChanges v r q) (by simp))
    have hnow : (v.discardStale r).worsenCodes.now = n := by simp [v, u]
    have hblocks : Changes [.clock, .runControl, .envelope, .cutback, .split, .genset, .recorder, .ports] s
        (v.discardStale r).worsenCodes := by
      have hclock : Changes [.clock] s u := fun b hb => by cases b <;> simp [Block.Same, u] at hb ⊢
      exact changes_trans (changes_mono hclock (by simp)) (changes_trans (t := v)
        (changes_mono (linkSettled_changes u r) (by simp)) (changes_mono (discardWorsen_changes v r) (by simp)))
    have hrecorded := discardWorsen_recordedAs v r
    have hcodes : s.CodesWorsened (v.discardStale r).worsenCodes := by
      refine codesWorsened_congr (discardWorsen_codesWorsened v r)
        (fun q => linkSettled_portChanges u r q .codes (by simp)) (fun q => rfl) rfl fun _ => rfl
    have hcut : (v.discardStale r).worsenCodes.cut = v.cut := by simp
    have hrc : (v.discardStale r).worsenCodes.rc = (v.discardStale r).rc := by simp
    have henv : (v.discardStale r).worsenCodes.env = (s.staled r).env := by simp [v, u, State.staled]
    have hsplit : (v.discardStale r).worsenCodes.split = v.split := by simp
    have hgen : (v.discardStale r).worsenCodes.gen = v.gen := by simp
    generalize (v.discardStale r).worsenCodes = t at *
    have hactive (c : Cause) : t.causeActive c =
        ((s.causeActive c || decide (c = linkCause r)) && !(decide (c = .slip) && decide (r = .brake))) :=
      (causeActive_of_cut (congrArg Cutback.live hcut) c).trans (linkSettled_causeActive u r c)
    refine ⟨hnow, henv, ?link, fun hbrake => ?slip, fun hbrake => ?slipKept, fun c hc hslip => ?others, ?cut, hcauses,
      fun hoff => ?triggered, fun hon => ?untriggered, hwithin, fun htraction hoff => ?traction, fun hsoft => ?soft,
      hclaim, ?rc, hcodes, hport, hblocks⟩
    case link => simp [hactive, linkCause_ne_slip r]
    case slip =>
      refine ⟨by simp [hactive, hbrake], ?_⟩
      rw [hcut, linkSettled_cut]
      simp [hbrake]
    case slipKept =>
      refine ⟨by simp [hactive, hbrake, (linkCause_ne_slip r).symm], ?_⟩
      rw [hcut, linkSettled_cut]
      simp [hbrake, u]
    case others => simp [hactive, hc, hslip]
    case cut =>
      rw [hcut]
      refine (linkSettled_cut u r).trans ?_
      rw [linkSettled_cut u r]
      rfl
    case triggered =>
      rw [hnow]
      exact recordedAs_trans (linkSettled_recordedAs (s := u) hoff) hrecorded
    case untriggered => exact recordedAs_trans (linkSettled_recordedAs_active (s := u) hon) hrecorded
    case traction =>
      subst htraction
      rw [hsplit, hgen]
      exact linkSettled_traction (s := u) hoff
    case soft =>
      rw [hsplit, hgen]
      exact linkSettled_soft (s := u) hsoft
    case rc =>
      rw [hrc, discardStale_rc_eq]
      simp [v, u]

end Sys2Proof.Machine
end

section
/-! PROOFS. What an evaluation leaves in the split engine, the setpoint and the energy counters (R59, R62 to R70, R74, R75, R83
to R87, R118, R119, R122, R123, R125). -/

namespace Sys2Proof.Machine

variable {s t u : State}

/-! ### The stages (R62 to R70, R74, R75, R83 to R87) -/

theorem evaluate_changes (s : State) :
    Changes [.cutback, .split, .genset, .recorder, .ports] s s.evaluate := by
  intro b hb
  cases b <;> simp [Block.Same] at hb ⊢

theorem arrive_changes (s : State) (d : Nat) : Changes [.clock] s (s.arrive d) := by
  intro b hb
  cases b <;> simp [Block.Same] at hb ⊢

theorem directionStage_same (h : s.env.vehicle.direction = s.split.dir) : s.directionStage = (s.split.dir, none) :=
  if_pos h

theorem directionStage_taken (h : s.env.vehicle.direction ≠ s.split.dir) (ht : s.split.tMc = 0) (hv : s.env.brake.v < 5) :
    s.directionStage = (s.env.vehicle.direction, none) := by
  rw [State.directionStage, if_neg h, if_pos ⟨ht, hv⟩]

theorem directionStage_pending (h : s.env.vehicle.direction ≠ s.split.dir) (hp : s.split.tMc ≠ 0 ∨ 5 ≤ s.env.brake.v) :
    s.directionStage = (s.split.dir, some s.env.vehicle.direction) := by
  rw [State.directionStage, if_neg h, if_neg]
  rintro ⟨ht, hv⟩
  obtain h' | h' := hp
  · exact h' ht
  · omega

theorem evalMode_eq (s : State) : s.evalMode = if s.stale .brake = false ∧ 0 < s.env.brake.tRr then .braking
    else if 0 < s.env.vehicle.tDrv then .drive else .coast := by
  unfold State.evalMode State.takenTRr
  cases s.stale .brake <;> simp

theorem evalQ_eq (s : State) : s.evalQ = match s.evalMode with
    | .drive => if s.causeActive .linkBrake = true ∨ s.causeActive .linkVehicle = true ∨
        s.causeActive .doorInterlock = true then 0 else s.env.vehicle.tDrv
    | .braking => -s.env.brake.tRr
    | .coast => 0 := by
  unfold State.evalQ
  cases hm : s.evalMode with
  | drive => simp [State.driveSoftActive, or_assoc]
  | coast => rfl
  | braking =>
    have hstale : s.stale .brake = false := by
      by_contra h
      rw [evalMode_eq] at hm
      split_ifs at hm
      simp_all
    simp [State.takenTRr, hstale]

theorem dischargeTaper_empty {x soc lo hi : Int} (h : soc ≤ lo) : dischargeTaper x soc lo hi = 0 := if_pos h

theorem dischargeTaper_low {x soc lo hi : Int} (h : lo < soc) (hs : soc < hi) :
    dischargeTaper x soc lo hi = (x * (soc - lo)).tdiv (hi - lo) := by
  rw [dischargeTaper, if_neg h.not_ge, if_pos hs]

theorem dischargeTaper_full {x soc lo hi : Int} (h : lo < soc) (hs : hi ≤ soc) : dischargeTaper x soc lo hi = x := by
  rw [dischargeTaper, if_neg h.not_ge, if_neg hs.not_gt]

theorem chargeTaper_full {x soc lo hi : Int} (h : hi ≤ soc) : chargeTaper x soc lo hi = 0 := if_pos h

theorem chargeTaper_high {x soc lo hi : Int} (h : soc < hi) (hs : lo < soc) :
    chargeTaper x soc lo hi = (x * (hi - soc)).tdiv (hi - lo) := by
  rw [chargeTaper, if_neg h.not_ge, if_pos hs]

theorem chargeTaper_low {x soc lo hi : Int} (h : soc < hi) (hs : soc ≤ lo) : chargeTaper x soc lo hi = x := by
  rw [chargeTaper, if_neg h.not_ge, if_neg hs.not_gt]

/-- The source of the regen limit, in the order of R87. -/
theorem evalSource_halted (d : Direction) (h : s.rc.runState ≠ .active) : s.evalSource d = .notActive := if_pos h

theorem evalSource_hard (d : Direction) (h : s.rc.runState = .active) (hh : s.hardActive = true) :
    s.evalSource d = .hardCause := by
  simp [State.evalSource, h, hh]

section
variable (h : s.rc.runState = .active) (hh : s.hardActive = false)
include h hh

theorem evalSource_notBraking (d : Direction) (hm : s.evalMode ≠ .braking ∨ s.causeActive .linkBrake = true) :
    s.evalSource d = .notBraking := by
  simp [State.evalSource, h, hh, hm]

variable (hm : s.evalMode = .braking) (hb : s.causeActive .linkBrake = false)
include hm hb

theorem evalSource_notForward {d : Direction} (hd : d ≠ .forward) : s.evalSource d = .notForward := by
  simp [State.evalSource, h, hh, hm, hb, hd]

theorem evalSource_slip (hs : s.causeActive .slip = true) : s.evalSource .forward = .slip := by
  simp [State.evalSource, h, hh, hm, hb, hs]

theorem evalSource_limited (hs : s.causeActive .slip = false) : s.evalSource .forward =
    if s.regenMinimum = s.evalFade then .fade else if s.regenMinimum = s.evalTPlRegen then .power else .generator := by
  simp [State.evalSource, h, hh, hm, hb, hs]

end

theorem regenLimited (hr : s.rc.runState = .active) (hh : s.hardActive = false) (hm : s.evalMode = .braking)
    (hb : s.causeActive .linkBrake = false) (hs : s.causeActive .slip = false) :
    s.evalLRegen .forward = s.regenMinimum := by
  simp [State.evalLRegen, hr, hh, hm, hb, hs]

/-- Settles O43: each stage of the evaluation by the case it is in. -/
theorem evaluationSettlesLimits : Obligations.EvaluationSettlesLimits := by
  intro d s hrun hstate hdue
  refine ⟨(s.arrive d).evaluate, exec_evaluation_of_due hrun hstate hdue, ?_⟩
  rw [evaluate_split]
  let u := s.arrive d
  have hblocks : Changes [.clock, .cutback, .split, .genset, .recorder, .ports] s u.evaluate :=
    changes_trans (changes_mono (arrive_changes s d) (by simp)) (changes_mono (evaluate_changes u) (by simp))
  have hnow : u.evaluate.now = max s.now d := by simp [u, State.arrive]
  refine ⟨hnow, ?due, rfl, rfl, fun h => ?same, fun h ht hv => ?taken, fun h hp => ?pending, ?battery, evalMode_eq u, rfl,
    rfl, ?limits, evalQ_eq u, rfl, rfl, hblocks⟩
  case due => rw [hnow]; rfl
  case same =>
    have hd := directionStage_same (s := u) h
    exact ⟨congrArg Prod.fst hd, congrArg Prod.snd hd⟩
  case taken =>
    have hd := directionStage_taken (s := u) h ht hv
    exact ⟨congrArg Prod.fst hd, congrArg Prod.snd hd⟩
  case pending =>
    have hd := directionStage_pending (s := u) h hp
    exact ⟨congrArg Prod.fst hd, congrArg Prod.snd hd⟩
  case battery =>
    exact ⟨rfl, dischargeTaper_empty, dischargeTaper_low, dischargeTaper_full, chargeTaper_full, chargeTaper_high,
      chargeTaper_low⟩
  case limits =>
    refine ⟨rfl, rfl, evalSource_halted (s := u) _, evalSource_hard (s := u) _, fun hr hh => ⟨fun hm => ?notBraking,
      fun hm hb => ⟨fun hd => ?notForward, fun hd hs => ?slip, fun hd hs => ?limited⟩⟩⟩
    case notBraking => exact evalSource_notBraking (s := u) hr hh _ hm
    case notForward => exact evalSource_notForward (s := u) hr hh hm hb hd
    case slip =>
      have h := evalSource_slip (s := u) hr hh hm hb hs
      rwa [← hd] at h
    case limited =>
      have hdir : u.directionStage.1 = .forward := hd
      have hsource : u.evaluated.source = u.evalSource .forward := congrArg u.evalSource hdir
      have hlimit : u.evaluated.lRegen = u.regenMinimum :=
        (congrArg u.evalLRegen hdir).trans (regenLimited (s := u) hr hh hm hb hs)
      rw [evalSource_limited (s := u) hr hh hm hb hs] at hsource
      rw [hlimit]
      refine ⟨fun hf => hsource.trans (if_pos hf), fun hf hp => hsource.trans ?_, fun hf hp => hsource.trans ?_⟩
      · exact (if_neg hf).trans (if_pos hp)
      · exact (if_neg hf).trans (if_neg hp)

/-! ### The setpoint (R118, R119) -/

/-- The state in which an evaluation takes its setpoint. -/
def State.stepped (s : State) : State :=
  (s.setSplit s.evaluated).filterDemand.testMinOff.managerTransition.settleZoneBreach

theorem evaluate_eq (s : State) :
    s.evaluate = (s.stepped.setGen { s.stepped.gen with setpoint := s.stepped.stepSetpoint }).countEnergy := rfl

theorem evaluate_gen (s : State) : s.evaluate.gen = { s.stepped.gen with setpoint := s.stepped.stepSetpoint } := by
  simp [evaluate_eq]

@[simp] theorem stepped_untouched (s : State) :
    s.stepped.powered = s.powered ∧ s.stepped.resetAsserted = s.resetAsserted ∧ s.stepped.now = s.now ∧
    s.stepped.freeCount = s.freeCount ∧ s.stepped.rc = s.rc ∧ s.stepped.env = s.env ∧
    s.stepped.split = s.evaluated ∧ s.stepped.wear = s.wear ∧ s.stepped.store = s.store ∧
    s.stepped.pending = s.pending := by
  simp [State.stepped]

theorem stepped_hardActive (s : State) : s.stepped.hardActive = s.hardActive := by
  have h : s.evaluate.hardActive = s.hardActive := evaluate_hardActive
  rwa [evaluate_eq] at h

@[simp] theorem settleZoneBreach_mgr (s : State) : s.settleZoneBreach.gen.mgr = s.gen.mgr := by
  unfold State.settleZoneBreach State.raiseZoneBreach
  split_ifs
  · rfl
  · simp
  · rfl
  · simp

theorem managerTransition_stale (h : s.stale .genset = true) : s.managerTransition.gen.mgr = .off := by
  rw [State.managerTransition, if_pos h]
  split_ifs with hm
  · exact hm
  · exact enterOff_gen_mgr s

/-- A genset without reports leaves the manager in OFF (R106). -/
theorem stepped_stale (h : s.stale .genset = true) : s.stepped.gen.mgr = .off := by
  rw [State.stepped, settleZoneBreach_mgr]
  exact managerTransition_stale (by simpa [State.stale] using h)

theorem stepSetpoint_idle (h : s.hardActive = true ∨ s.rc.runState = .standby) : s.stepSetpoint = 0 :=
  if_pos (h.imp id fun hr => by simp [hr])

section
variable (hh : s.hardActive = false) (hr : s.rc.runState = .active)
include hh hr

theorem stepSetpoint_stopped (hm : s.gen.mgr = .off ∨ s.gen.mgr = .startRequested ∨ s.gen.mgr = .stopRequested) :
    s.stepSetpoint = 0 := by
  obtain hm | hm | hm := hm <;> simp [State.stepSetpoint, hh, hr, hm]

theorem stepSetpoint_unready (hm : s.gen.mgr = .run) (hg : s.env.genset.state ≠ .ready) : s.stepSetpoint = 0 := by
  simp [State.stepSetpoint, hh, hr, hm, hg]

theorem stepSetpoint_run (hm : s.gen.mgr = .run) (hg : s.env.genset.state = .ready) :
    s.stepSetpoint = s.runSetpoint := by
  simp [State.stepSetpoint, hh, hr, hm, hg]

theorem stepSetpoint_absorb (hm : s.gen.mgr = .absorb) (hg : 0 < s.split.grant) : s.stepSetpoint = -s.takenPAbsMax := by
  simp [State.stepSetpoint, hh, hr, hm, hg]

theorem stepSetpoint_coast (hm : s.gen.mgr = .absorb) (hg : s.split.grant ≤ 0) : s.stepSetpoint = 0 := by
  simp [State.stepSetpoint, hh, hr, hm, hg.not_gt]

end

/-- Settles O45: the setpoint of each manager state. -/
theorem evaluationSetsGensetPower : Obligations.EvaluationSetsGensetPower := by
  intro d s hrun hstate hdue
  refine ⟨(s.arrive d).evaluate, exec_evaluation_of_due hrun hstate hdue, ?_⟩
  have henv : (s.arrive d).stepped.env = s.env := by simp
  have hrc : (s.arrive d).stepped.rc = s.rc := by simp
  have hhard : (s.arrive d).stepped.hardActive = s.hardActive := stepped_hardActive (s.arrive d)
  have hgrant : (s.arrive d).evaluate.split.grant = (s.arrive d).stepped.split.grant := by simp
  have hstale (h : (s.arrive d).stepped.gen.mgr ≠ .off) : (s.arrive d).stepped.stale .genset = false := by
    by_contra hs
    exact h (stepped_stale (by simpa [State.stale] using hs))
  rw [evaluate_gen, hgrant]
  generalize (s.arrive d).stepped = v at *
  have hrun' (h : s.rc.runState = .active) : v.rc.runState = .active := by rw [hrc, h]
  refine ⟨fun h => stepSetpoint_idle (s := v) (by rwa [hhard, hrc]), fun hh hr => ?_⟩
  have hh' : v.hardActive = false := hhard.trans hh
  refine ⟨stepSetpoint_stopped hh' (hrun' hr), fun hm hg => stepSetpoint_unready hh' (hrun' hr) hm (by rwa [henv]),
    fun hm hg => ?_, fun hm hg => (stepSetpoint_absorb hh' (hrun' hr) hm hg).trans ?_,
    stepSetpoint_coast hh' (hrun' hr)⟩
  · have hset : v.stepSetpoint = if s.env.genset.pGsAvail < (s.rc.applied.pGsMinRun : Int) then s.env.genset.pGsAvail
        else max (s.rc.applied.pGsMinRun : Int) (min (v.gen.dAvg +
          (((s.rc.applied.socTarget : Int) - s.env.storage.soc) * s.rc.applied.kSoc).tdiv 100)
          s.env.genset.pGsAvail) := by
      rw [stepSetpoint_run hh' (hrun' hr) hm (by rwa [henv]), State.runSetpoint, henv, hrc]
      rfl
    exact ⟨fun h => hset.trans (if_pos h), fun h => hset.trans (if_neg h.not_gt)⟩
  · rw [State.takenPAbsMax, hstale (by rw [hm]; decide), henv]
    rfl

/-! ### The energy of an evaluation (R122, R123, R125) -/

theorem countEnergy_counters (s : State) (p : Port) : (s.countEnergy.ports.get p).counters =
    (s.ports.get p).counters.addEvaluation (motorPower s.split.tMc s.env.traction.n) s.env.vehicle.pAux
      s.takenPGsDrive := by
  simp [State.countEnergy]

theorem stepped_portChanges (s : State) (p : Port) : PortChanges [.notices, .missed, .latch] s s.stepped p := by
  intro f hf
  cases f <;> simp [PortField.Same, State.stepped] at hf ⊢

theorem evaluate_counters (s : State) (p : Port) : (s.evaluate.ports.get p).counters =
    (s.ports.get p).counters.addEvaluation (motorPower s.evaluated.tMc s.env.traction.n) s.env.vehicle.pAux
      s.takenPGsDrive := by
  have hcounters : (s.stepped.ports.get p).counters = (s.ports.get p).counters :=
    stepped_portChanges s p .counters (by simp)
  have htaken : s.stepped.takenPGsDrive = s.takenPGsDrive := by
    unfold State.takenPGsDrive State.stale
    rw [(stepped_untouched s).2.2.2.2.2.1]
  rw [evaluate_eq, countEnergy_counters]
  simp only [setGen_ports, setGen_split, setGen_env, hcounters]
  rw [← htaken]
  simp
  rfl

theorem evaluate_portChanges (s : State) (p : Port) :
    PortChanges [.notices, .missed, .latch, .counters] s s.evaluate p := by
  intro f hf
  cases f <;> simp [PortField.Same] at hf ⊢

/-- Settles O46: the four flows at every port, and the ends of a flow. -/
theorem evaluationAddsEnergy : Obligations.EvaluationAddsEnergy := by
  refine ⟨fun d s hrun hstate hdue => ⟨(s.arrive d).evaluate, exec_evaluation_of_due hrun hstate hdue, fun p => ?_,
    fun p => evaluate_portChanges (s.arrive d) p⟩, fun f x => ⟨fun hs => if_pos hs, fun hopen =>
      ⟨fun h => ?above, fun h => ?below, fun hl hu => ?between⟩⟩⟩
  · rw [evaluate_split]
    exact evaluate_counters (s.arrive d) p
  case above => simp [Flow.add, hopen, Config.maxFlow, h]
  case below =>
    have hnot : ¬ 2147483647 < f.joules + x := by omega
    simp [Flow.add, hopen, Config.maxFlow, hnot, h]
  case between => simp [Flow.add, hopen, Config.maxFlow, hl.not_gt, hu.not_gt]

end Sys2Proof.Machine
end

section
/-! PROOFS. A WRITE frame by what its word does, the writes that are refused, and the dump-range record (R17, R25, R26, R175,
R184, R187). -/

namespace Sys2Proof.Machine

variable {s t u v : State} {i : Instr} {p : Port} {advance : Bool} {w : Word}

/-! ### A WRITE frame by what its word does (R184, R187) -/

/-- A port after a WRITE that was answered OK: its write cursor moves on when the advance bit is set. -/
def PortState.advancedIf (advance : Bool) (x : PortState) : PortState :=
  if advance then { x with cursors := x.cursors.advancedWrite } else x

theorem modPort_modPort (s : State) (p : Port) (f g : PortState → PortState) :
    (s.modPort p f).modPort p g = s.modPort p fun x => g (f x) := by
  unfold State.modPort
  cases p <;> rfl

theorem modPort_self (s : State) (p : Port) : s.modPort p (fun x => x) = s := by
  unfold State.modPort
  cases p <;> rfl

theorem writeFrame_ok {x : Word} (h : s.writeAt p (s.ports.get p).cursors.writeAddress.toNat w = (v, .ok x)) :
    s.writeFrame p advance w = (v.modPort p (PortState.advancedIf advance), .ok x) := by
  rw [State.writeFrame, h]
  cases advance with
  | true => rfl
  | false =>
    have hsame : v.modPort p (PortState.advancedIf false) = v := modPort_self v p
    rw [hsame]
    rfl

theorem writeFrame_refused {r : Reply} (hr : r.result ≠ .ok)
    (h : s.writeAt p (s.ports.get p).cursors.writeAddress.toNat w = (v, r)) : s.writeFrame p advance w = (v, r) := by
  rw [State.writeFrame, h]
  exact if_neg fun hok => hr hok.2

theorem shiftOut_writeAddress (s : State) (p : Port) :
    ((s.modPort p PortState.shiftOut).ports.get p).cursors.writeAddress = (s.ports.get p).cursors.writeAddress := by
  simp [PortState.shiftOut]

/-- A WRITE whose word is taken. -/
theorem exec_write_ok {x : Word} (hi : IsWrite i p advance w) (hl : s.Listening)
    (h : (s.modPort p PortState.shiftOut).writeAt p (s.ports.get p).cursors.writeAddress.toNat w = (v, .ok x))
    (hout : (v.ports.get p).dataOut = some (s.ports.get p).response.frame) :
    exec i s = .next ((v.modPort p (PortState.advancedIf advance)).respond p 3#4 (.ok x)) ∧
      Answered s ((v.modPort p (PortState.advancedIf advance)).respond p 3#4 (.ok x)) p 3#4 .ok x := by
  rw [← shiftOut_writeAddress] at h
  refine ⟨?_, answered_respond _ _ ?_⟩
  · rw [exec_of_isWrite s hi, heldExchange_of_listening p _ hl, writeFrame_ok h]
  · rw [modPort_get_same, ← hout]
    unfold PortState.advancedIf
    split_ifs <;> rfl

/-- A WRITE whose word is taken at its own port alone. -/
theorem exec_write_port {x : Word} {f : PortState → PortState} {fields : List PortField} (hi : IsWrite i p advance w)
    (hl : s.Listening) (h : (s.modPort p PortState.shiftOut).writeAt p (s.ports.get p).cursors.writeAddress.toNat w =
      ((s.modPort p PortState.shiftOut).modPort p f, .ok x))
    (hfields : .cursors ∈ fields ∧ .frame ∈ fields)
    (hf : ∀ y : PortState, (f y).dataOut = y.dataOut ∧ ∀ g ∉ fields, g.Same y (f y)) :
    ∃ t, exec i s = .next t ∧ Answered s t p 3#4 .ok x ∧ OnlyPort fields s t p ∧
      (t.ports.get p).assembly = (f (s.ports.get p).shiftOut).assembly ∧
      (t.ports.get p).dumpRange = (f (s.ports.get p).shiftOut).dumpRange := by
  obtain ⟨hcursors, hframe⟩ := hfields
  obtain ⟨hexec, hanswer⟩ := exec_write_ok hi hl h (by
    rw [modPort_get_same, (hf _).1]
    exact shiftOut_dataOut s p)
  refine ⟨_, hexec, hanswer, ?_, ?_, ?_⟩
  · rw [modPort_modPort]
    refine onlyPort_modPort_respond s p _ _ _ hframe fun g hg => ?_
    have hsame := (hf (s.ports.get p).shiftOut).2 g hg
    have hne : g ≠ .cursors := fun e => hg (e ▸ hcursors)
    unfold PortState.advancedIf
    split_ifs
    · cases g <;> first | exact absurd rfl hne | exact hsame
    · exact hsame
  · obtain ⟨-, hassembly, -⟩ := respond_port_untouched
      (((s.modPort p PortState.shiftOut).modPort p f).modPort p (PortState.advancedIf advance)) p 3#4 (.ok x) p
    rw [hassembly]
    simp only [modPort_get_same]
    unfold PortState.advancedIf
    split_ifs <;> rfl
  · obtain ⟨-, -, -, -, -, -, -, -, -, -, hrange⟩ := respond_port_untouched
      (((s.modPort p PortState.shiftOut).modPort p f).modPort p (PortState.advancedIf advance)) p 3#4 (.ok x) p
    rw [hrange]
    simp only [modPort_get_same]
    unfold PortState.advancedIf
    split_ifs <;> rfl

/-- A WRITE that is refused: it discards any assembly, and the cursor stays (R26, R187). -/
theorem exec_write_refused {r : Reply} (hi : IsWrite i p advance w) (hl : s.Listening) (hr : r.result ≠ .ok)
    (h : (s.modPort p PortState.shiftOut).writeAt p (s.ports.get p).cursors.writeAddress.toNat w =
      (s.modPort p PortState.shiftOut).refuseWrite p r) :
    ∃ t, exec i s = .next t ∧ Answered s t p 3#4 r.result r.payload ∧ (t.ports.get p).assembly = none ∧
      OnlyPort [.assembly, .frame] s t p := by
  rw [← shiftOut_writeAddress] at h
  refine ⟨((s.modPort p PortState.shiftOut).discardAssembly p).respond p 3#4 r, ?_, answered_respond _ _ ?_, ?_, ?_⟩
  · rw [exec_of_isWrite s hi, heldExchange_of_listening p _ hl, writeFrame_refused hr h]
  · rw [State.discardAssembly, modPort_get_same]
    exact shiftOut_dataOut s p
  · simp [State.discardAssembly]
  · refine onlyPort_modPort_respond s p _ _ _ (by simp) fun g hg => ?_
    cases g <;> simp [PortField.Same] at hg ⊢

/-! ### Writes refused (R17, R26, R187) -/

/-- Where nothing may be written. -/
theorem writeAt_elsewhere {a : Nat} (h : a < 0x10 ∨ 0x38 ≤ a ∧ a < 0xA8 ∨ 0xAB ≤ a ∧ a < 0x200 ∨ 0x300 ≤ a) :
    s.writeAt p a w = s.refuseWrite p .access := by
  unfold State.writeAt
  rw [reportWordAt_none (by omega)]
  dsimp only
  rw [if_neg (by omega), if_neg (by rw [dumpRangeBase]; omega)]

theorem writeAt_staged {a : Nat} (h : 0x200 ≤ a) (h' : a < 0x300) : s.writeAt p a w = s.writeStaged p (a - 0x200) w := by
  unfold State.writeAt
  rw [reportWordAt_none (by omega)]
  exact if_pos ⟨h, h'⟩

theorem writeAt_dumpRange {a : Nat} (h : 0xA8 ≤ a) (h' : a < 0xAB) : s.writeAt p a w = s.writeDumpRange p (a - 0xA8) w := by
  unfold State.writeAt
  rw [reportWordAt_none (by omega)]
  dsimp only
  rw [if_neg (by omega), if_pos (by rw [dumpRangeBase]; omega)]
  rfl

theorem writeStaged_no_setting {o : Nat} (h : settingAt o = none) : s.writeStaged p o w = s.refuseWrite p .access := by
  rw [State.writeStaged, h]

theorem writeStaged_unbound {o : Nat} (hr : s.roleOf p = none) (hs : s.rc.runState ≠ .halted) :
    s.writeStaged p o w = s.refuseWrite p .access := by
  unfold State.writeStaged
  split
  · rfl
  · exact if_pos ⟨hr, hs⟩

theorem claimedByOther_true {q : Port} (h : s.rc.claim = some q) (hq : q ≠ p) : s.claimedByOther p = true := by
  simp [State.claimedByOther, h, hq]

theorem claimedByOther_false (h : s.rc.claim = none ∨ s.rc.claim = some p) : s.claimedByOther p = false := by
  obtain h | h := h <;> simp [State.claimedByOther, h]

theorem writeStaged_claimed {o : Nat} {q : Port} (ho : settingAt o ≠ none)
    (hr : s.roleOf p ≠ none ∨ s.rc.runState = .halted) (hc : s.rc.claim = some q) (hq : q ≠ p) :
    s.writeStaged p o w = s.refuseWrite p .claimed := by
  obtain ⟨x, hx⟩ := Option.ne_none_iff_exists'.mp ho
  have hopen : ¬ (s.roleOf p = none ∧ s.rc.runState ≠ .halted) := fun h => hr.elim (fun hb => hb h.1) fun hs => h.2 hs
  simp [State.writeStaged, hx, hopen, claimedByOther_true hc hq]

theorem writeStaged_open {o : Nat} {x : SettingWord} (ho : settingAt o = some x)
    (hr : s.roleOf p ≠ none ∨ s.rc.runState = .halted) (hc : s.rc.claim = none ∨ s.rc.claim = some p) :
    s.writeStaged p o w = s.storeSettingWord p x w := by
  have hopen : ¬ (s.roleOf p = none ∧ s.rc.runState ≠ .halted) := fun h => hr.elim (fun hb => hb h.1) fun hs => h.2 hs
  simp [State.writeStaged, ho, hopen, claimedByOther_false hc]

/-- Settles O28: each refusal by its place in the order of R17. -/
theorem writeRefusedElsewhere : Obligations.WriteRefusedElsewhere := by
  intro i p advance w s hi hl
  refine ⟨fun h => exec_write_refused (r := .access) hi hl nofun ?_,
    fun q h h' ho hr hc hq => exec_write_refused (r := .claimed) hi hl nofun ?_⟩
  · have hstaged (hlo : 0x200 ≤ (s.ports.get p).cursors.writeAddress.toNat)
        (hhi : (s.ports.get p).cursors.writeAddress.toNat < 0x300) := writeAt_staged
          (s := s.modPort p PortState.shiftOut) (p := p) (w := w) hlo hhi
    obtain h | h | h | h | ⟨hlo, hhi, ho⟩ | ⟨hlo, hhi, hr, hs⟩ := h
    · exact writeAt_elsewhere (.inl h)
    · exact writeAt_elsewhere (.inr (.inl h))
    · exact writeAt_elsewhere (.inr (.inr (.inl h)))
    · exact writeAt_elsewhere (.inr (.inr (.inr h)))
    · exact (hstaged hlo hhi).trans (writeStaged_no_setting ho)
    · exact (hstaged hlo hhi).trans (writeStaged_unbound hr hs)
  · exact (writeAt_staged h h').trans (writeStaged_claimed ho hr hc hq)

/-! ### The dump-range record (R175) -/

theorem expects_first (x : PortState) (k : AssemblyKind) : x.expects k 0 = some [] := if_pos rfl

theorem assembled_same {x : PortState} {k : AssemblyKind} {ws : List Word} (h : x.assembly = some ⟨k, ws⟩) :
    x.assembled k = some ws := by
  simp [PortState.assembled, h]

theorem assembled_other {x : PortState} {k : AssemblyKind} (h : ∀ ws, x.assembly ≠ some ⟨k, ws⟩) :
    x.assembled k = none := by
  unfold PortState.assembled
  cases ha : x.assembly with
  | none => rfl
  | some a =>
    obtain ⟨j, ws⟩ := a
    have hne : j ≠ k := fun e => h ws (by rw [ha, e])
    simp [hne]

theorem expects_held {x : PortState} {k : AssemblyKind} {ws : List Word} {n : Nat} (h : x.assembly = some ⟨k, ws⟩)
    (hn : ws.length = n) (h0 : 0 < n) : x.expects k n = some ws := by
  simp [PortState.expects, h0.ne', assembled_same h, hn]

theorem expects_mismatch {x : PortState} {k : AssemblyKind} {ws : List Word} {n : Nat} (h : x.assembly = some ⟨k, ws⟩)
    (hn : ws.length ≠ n) (h0 : 0 < n) : x.expects k n = none ∧ x.expectedOffset k = ws.length := by
  simp [PortState.expects, PortState.expectedOffset, h0.ne', assembled_same h, hn]

theorem expects_none {x : PortState} {k : AssemblyKind} {n : Nat} (h : ∀ ws, x.assembly ≠ some ⟨k, ws⟩) (h0 : 0 < n) :
    x.expects k n = none ∧ x.expectedOffset k = 0 := by
  simp [PortState.expects, PortState.expectedOffset, h0.ne', assembled_other h]

theorem writeDumpRange_refused {k : Nat} (h : (s.ports.get p).expects .dumpRange k = none) :
    s.writeDumpRange p k w = s.refuseWrite p (.state ((s.ports.get p).expectedOffset .dumpRange)) := by
  simp [State.writeDumpRange, h]

theorem writeDumpRange_held {k : Nat} {ws : List Word} (h : (s.ports.get p).expects .dumpRange k = some ws)
    (hk : k ≠ 2) : s.writeDumpRange p k w = s.hold p .dumpRange (ws ++ [w]) w := by
  simp [State.writeDumpRange, h, hk]

theorem writeDumpRange_complete {ws : List Word} (h : (s.ports.get p).expects .dumpRange 2 = some ws) :
    s.writeDumpRange p 2 w = (s.modPort p fun y => { y with
      assembly := none
      dumpRange := ⟨twoWords (ws.getD 0 0#16) (ws.getD 1 0#16), clampNat w.toNat 1 8192⟩ },
      .ok (wordOfNat (clampNat w.toNat 1 8192))) := by
  simp only [State.writeDumpRange, h, if_true, State.discardAssembly, modPort_modPort]

theorem shiftOut_assembly (s : State) (p : Port) :
    ((s.modPort p PortState.shiftOut).ports.get p).assembly = (s.ports.get p).assembly := by
  simp [PortState.shiftOut]

/-- A word held in an assembly that goes on. -/
theorem exec_write_held {k : AssemblyKind} {ws : List Word} (hi : IsWrite i p advance w) (hl : s.Listening)
    (h : (s.modPort p PortState.shiftOut).writeAt p (s.ports.get p).cursors.writeAddress.toNat w =
      (s.modPort p PortState.shiftOut).hold p k ws w) :
    ∃ t, exec i s = .next t ∧ Answered s t p 3#4 .ok w ∧ (t.ports.get p).assembly = some ⟨k, ws⟩ ∧
      OnlyPort [.cursors, .assembly, .frame] s t p := by
  obtain ⟨t, hexec, hanswer, honly, hassembly, -⟩ := exec_write_port (fields := [.cursors, .assembly, .frame]) hi hl h
    (by simp) fun y => ⟨rfl, fun g hg => by cases g <;> simp [PortField.Same] at hg ⊢⟩
  exact ⟨t, hexec, hanswer, hassembly, honly⟩

/-- Settles O29: the three words of the record, and the words that it does not expect. -/
theorem dumpRangeRecordStored : Obligations.DumpRangeRecordStored := by
  intro i p advance w s hi hl
  have haddress (a : Nat) (ha : (s.ports.get p).cursors.writeAddress.toNat = a) (h : 0xA8 ≤ a) (h' : a < 0xAB) :
      (s.modPort p PortState.shiftOut).writeAt p (s.ports.get p).cursors.writeAddress.toNat w =
        (s.modPort p PortState.shiftOut).writeDumpRange p (a - 0xA8) w := by
    rw [ha]
    exact writeAt_dumpRange h h'
  refine ⟨fun ha => ?first, fun x ha hx => ?second, fun x y ha hx => ?third, fun ha => ⟨fun ws hws hn => ?length,
    fun hno => ?none⟩⟩
  case first =>
    exact exec_write_held hi hl ((haddress 0xA8 ha (by decide) (by decide)).trans
      (writeDumpRange_held (expects_first _ _) (by decide)))
  case second =>
    rw [← shiftOut_assembly] at hx
    exact exec_write_held hi hl ((haddress 0xA9 ha (by decide) (by decide)).trans
      (writeDumpRange_held (k := 1) (expects_held hx rfl (by decide)) (by decide)))
  case third =>
    rw [← shiftOut_assembly] at hx
    obtain ⟨t, hexec, hanswer, honly, hassembly, hrange⟩ := exec_write_port
      (fields := [.cursors, .assembly, .frame, .dumpRange]) hi hl
      ((haddress 0xAA ha (by decide) (by decide)).trans (writeDumpRange_complete (expects_held hx rfl (by decide))))
      (by simp) fun y => ⟨rfl, fun g hg => by cases g <;> simp [PortField.Same] at hg ⊢⟩
    exact ⟨t, hexec, hanswer, hassembly, hrange, honly⟩
  case length =>
    rw [← shiftOut_assembly] at hws
    have h0 : 0 < (s.ports.get p).cursors.writeAddress.toNat - 0xA8 := by omega
    obtain ⟨hexpects, hoffset⟩ := expects_mismatch hws hn h0
    refine exec_write_refused (r := .state ws.length) hi hl nofun ((haddress _ rfl (by omega) (by omega)).trans ?_)
    rw [writeDumpRange_refused hexpects, hoffset]
  case none =>
    simp only [← shiftOut_assembly s p] at hno
    have h0 : 0 < (s.ports.get p).cursors.writeAddress.toNat - 0xA8 := by omega
    obtain ⟨hexpects, hoffset⟩ := expects_none hno h0
    refine exec_write_refused (r := .state 0) hi hl nofun ((haddress _ rfl (by omega) (by omega)).trans ?_)
    rw [writeDumpRange_refused hexpects, hoffset]

end Sys2Proof.Machine
end

section
/-! PROOFS. Where the report regions lie, which enumeration field is the first outside its codes, and the words of a report
(R21, R22, R24 to R27). -/

namespace Sys2Proof.Machine

variable {s t u v : State} {i : Instr} {p : Port} {advance : Bool} {w : Word}

/-! ### Where the report regions lie (R21) -/

theorem reportWordAt_eq_some (a : Nat) (r : Role) (k : Nat) :
    reportWordAt a = some (r, k) ↔ a = 0x10 + 8 * r.index + k ∧ k < 8 := by
  unfold reportWordAt
  constructor
  · intro h
    split_ifs at h <;> cases h <;> simp only [Role.index] <;> omega
  · rintro ⟨ha, hk⟩
    cases r <;> simp only [Role.index] at ha <;> split_ifs <;> grind

/-! ### The first enumeration field outside its codes (R22, R27) -/

/-- The index of the first that holds, in terms of the list's places. -/
theorem findIdx?_id_eq_some {l : List Bool} {k : Nat} :
    l.findIdx? id = some k ↔ l[k]? = some true ∧ ∀ j, j < k → l[j]? ≠ some true := by
  rw [List.findIdx?_eq_some_iff_getElem]
  constructor
  · rintro ⟨hk, htrue, hbelow⟩
    refine ⟨by rw [List.getElem?_eq_getElem hk]; exact congrArg some htrue, fun j hj h => ?_⟩
    rw [List.getElem?_eq_getElem (hj.trans hk)] at h
    exact hbelow j hj (Option.some.inj h)
  · rintro ⟨htrue, hbelow⟩
    obtain ⟨hk, h⟩ := List.getElem?_eq_some_iff.mp htrue
    refine ⟨hk, h, fun j hj hyes => hbelow j hj ?_⟩
    rw [List.getElem?_eq_getElem (hj.trans hk)]
    exact congrArg some hyes

theorem findIdx?_id_eq_none {l : List Bool} : l.findIdx? id = none ↔ ∀ k : Nat, l[k]? ≠ some true := by
  rw [List.findIdx?_eq_none_iff]
  constructor
  · intro h k hk
    have hfalse : true = false := h true (List.mem_of_getElem? hk)
    cases hfalse
  · intro h b hb
    obtain ⟨k, hk⟩ := List.getElem?_of_mem hb
    cases b with
    | false => rfl
    | true => exact absurd hk (h k)

theorem enumerationField_iff (r : Role) (k last : Nat) :
    (r, k, last) ∈ enumerationFields ↔ (reportFields r)[k]? = some (.enumeration last) := by
  by_cases hk : k < 6
  · interval_cases k <;> cases r <;> simp [enumerationFields, reportFields, eq_comm]
  · have hlength : (reportFields r).length ≤ k := by
      have : (reportFields r).length ≤ 6 := by cases r <;> decide
      omega
    rw [List.getElem?_eq_none hlength]
    constructor
    · intro h
      have hall : ∀ x ∈ enumerationFields, x.2.1 < 6 := by decide
      exact absurd (hall _ h) hk
    · intro h
      cases h

theorem outside_eq_true (f : ReportField) (w : Word) :
    f.outside w = true ↔ ∃ last, f = .enumeration last ∧ last < w.toNat := by
  cases f <;> simp [ReportField.outside]

theorem outside_get (r : Role) (words : List Word) (k : Nat) :
    ((reportFields r).zipWith ReportField.outside words)[k]? = some true ↔ OutsideCodes r words k := by
  rw [List.getElem?_zipWith_eq_some, OutsideCodes]
  constructor
  · rintro ⟨f, w, hf, hw, ho⟩
    obtain ⟨last, rfl, hlast⟩ := (outside_eq_true f w).mp ho
    exact ⟨last, w, (enumerationField_iff r k last).mpr hf, hw, hlast⟩
  · rintro ⟨last, w, hmem, hw, hlast⟩
    exact ⟨_, w, (enumerationField_iff r k last).mp hmem, hw, (outside_eq_true _ w).mpr ⟨last, rfl, hlast⟩⟩

theorem firstOutside_eq_none (r : Role) (words : List Word) :
    firstOutside r words = none ↔ ∀ k, ¬ OutsideCodes r words k := by
  rw [firstOutside, findIdx?_id_eq_none]
  exact forall_congr' fun k => not_congr (outside_get r words k)

theorem firstOutside_eq_some (r : Role) (words : List Word) (k : Nat) :
    firstOutside r words = some k ↔ OutsideCodes r words k ∧ ∀ j, j < k → ¬ OutsideCodes r words j := by
  rw [firstOutside, findIdx?_id_eq_some]
  exact and_congr (outside_get r words k) (forall₂_congr fun j _ => not_congr (outside_get r words j))

/-! ### The words of a report (R24 to R27) -/

theorem writeAt_report {a k : Nat} {r : Role} (h : reportWordAt a = some (r, k)) :
    s.writeAt p a w = s.writeReportWord p r k w := by
  rw [State.writeAt, h]

section
variable {r : Role} {k : Nat}

theorem writeReportWord_access (h : s.roleOf p ≠ some r ∨ reportLength r ≤ k) :
    s.writeReportWord p r k w = s.refuseWrite p .access := if_pos h

variable (hr : s.roleOf p = some r) (hk : k < reportLength r)
include hr hk

theorem writeReportWord_refused (h : (s.ports.get p).expects (.report r) k = none) :
    s.writeReportWord p r k w = s.refuseWrite p (.state ((s.ports.get p).expectedOffset (.report r))) := by
  simp [State.writeReportWord, hr, Nat.not_le.mpr hk, h]

theorem writeReportWord_held {ws : List Word} (h : (s.ports.get p).expects (.report r) k = some ws)
    (hlast : k + 1 ≠ reportLength r) : s.writeReportWord p r k w = s.hold p (.report r) (ws ++ [w]) w := by
  simp [State.writeReportWord, hr, Nat.not_le.mpr hk, h, hlast]

theorem writeReportWord_last {ws : List Word} (h : (s.ports.get p).expects (.report r) k = some ws)
    (hlast : k + 1 = reportLength r) : s.writeReportWord p r k w = s.completeReport p r (ws ++ [w]) := by
  have hopen : ¬ (s.roleOf p ≠ some r ∨ reportLength r ≤ k) := by simp [hr, hk]
  rw [State.writeReportWord, if_neg hopen]
  dsimp only
  rw [h]
  exact if_pos hlast

end

theorem completeReport_outside {r : Role} {ws : List Word} {j : Nat} (h : firstOutside r ws = some j) :
    s.completeReport p r ws = s.refuseWrite p (.value j) := by
  simp [State.completeReport, h, State.refuseWrite]

/-- Settles O23: a word held, a word that is not expected, and a report refused for an enumeration. -/
theorem reportWordAssembledOrRefused : Obligations.ReportWordAssembledOrRefused := by
  refine ⟨rfl, reportWordAt_eq_some, fun r words _ => ⟨firstOutside_eq_none r words, firstOutside_eq_some r words⟩,
    fun i p advance w r k s hi hl ha => ⟨fun h => ?access, fun hr hk => ⟨fun h0 => ?first, fun ws h0 h1 hws hn => ?next,
      fun ws h0 hws hn => ?length, fun h0 hno => ?none, fun ws j h1 hws hn hj => ?outside⟩⟩⟩
  case access =>
    exact exec_write_refused (r := .access) hi hl nofun ((writeAt_report ha).trans (writeReportWord_access h))
  case first =>
    subst h0
    have hlast : 0 + 1 ≠ reportLength r := by cases r <;> decide
    exact exec_write_held hi hl ((writeAt_report ha).trans
      (writeReportWord_held (s := s.modPort p PortState.shiftOut) hr hk (expects_first _ _) hlast))
  case next =>
    rw [← shiftOut_assembly] at hws
    exact exec_write_held hi hl ((writeAt_report ha).trans
      (writeReportWord_held (s := s.modPort p PortState.shiftOut) hr hk (expects_held hws hn h0) h1.ne))
  case length =>
    rw [← shiftOut_assembly] at hws
    obtain ⟨hexpects, hoffset⟩ := expects_mismatch hws hn h0
    refine exec_write_refused (r := .state ws.length) hi hl nofun ((writeAt_report ha).trans ?_)
    rw [writeReportWord_refused (s := s.modPort p PortState.shiftOut) hr hk hexpects, hoffset]
  case none =>
    simp only [← shiftOut_assembly s p] at hno
    obtain ⟨hexpects, hoffset⟩ := expects_none hno h0
    refine exec_write_refused (r := .state 0) hi hl nofun ((writeAt_report ha).trans ?_)
    rw [writeReportWord_refused (s := s.modPort p PortState.shiftOut) hr hk hexpects, hoffset]
  case outside =>
    rw [← shiftOut_assembly] at hws
    have h0 : 0 < k := by
      have hlength : 1 < reportLength r := by cases r <;> decide
      omega
    refine exec_write_refused (r := .value j) hi hl nofun ((writeAt_report ha).trans ?_)
    rw [writeReportWord_last (s := s.modPort p PortState.shiftOut) hr hk (expects_held hws hn h0) h1,
      completeReport_outside hj]

end Sys2Proof.Machine
end

section
/-! PROOFS. The settings that a staged write stores: their ranges, their places and what storing one leaves (R16, R17, R31,
R138, R198). -/

namespace Sys2Proof.Machine

variable {s t u v : State} {i : Instr} {p : Port} {advance : Bool} {w : Word}

/-! ### What clamping stores (R17, R31) -/

theorem range_ordered (k : SettingId) : k.range.1 ≤ k.range.2 := by
  cases k <;> simp [SettingId.range]

theorem clamped_deadline (r : Role) (n : Nat) : (SettingId.deadline r).clamped n = clampNat n 10 250 / 10 * 10 := rfl

theorem clamped_of_no_deadline (k : SettingId) (hk : ∀ r, k ≠ .deadline r) (n : Nat) :
    k.clamped n = clampNat n k.range.1 k.range.2 := by
  cases k with
  | deadline r => exact absurd rfl (hk r)
  | _ => rfl

/-- A statement about a stored value, by whether the setting is a deadline. -/
theorem clamped_cases {P : SettingId → Nat → Prop} (n : Nat)
    (hd : ∀ r, P (.deadline r) (clampNat n 10 250 / 10 * 10))
    (ho : ∀ k, (∀ r, k ≠ .deadline r) → P k (clampNat n k.range.1 k.range.2)) (k : SettingId) : P k (k.clamped n) := by
  by_cases hk : ∃ r, k = .deadline r
  · obtain ⟨r, rfl⟩ := hk
    exact hd r
  · have hne : ∀ r, k ≠ .deadline r := fun r e => hk ⟨r, e⟩
    rw [clamped_of_no_deadline k hne]
    exact ho k hne

theorem clamped_within (k : SettingId) (n : Nat) : k.range.1 ≤ k.clamped n ∧ k.clamped n ≤ k.range.2 := by
  refine clamped_cases (P := fun k x => k.range.1 ≤ x ∧ x ≤ k.range.2) n (fun r => ?_) (fun k _ => ?_) k
  · simp only [SettingId.range, clampNat]
    omega
  · have := range_ordered k
    simp only [clampNat]
    omega

theorem clamped_outside (k : SettingId) (n : Nat) :
    (n < k.range.1 → k.clamped n = k.range.1) ∧ (k.range.2 < n → k.clamped n = k.range.2) := by
  refine clamped_cases (P := fun k x => (n < k.range.1 → x = k.range.1) ∧ (k.range.2 < n → x = k.range.2)) n
    (fun r => ?_) (fun k _ => ?_) k
  · simp only [SettingId.range, clampNat]
    omega
  · have := range_ordered k
    simp only [clampNat]
    omega

theorem clamped_inside (k : SettingId) (n : Nat) (hk : ∀ r, k ≠ .deadline r) (hlo : k.range.1 ≤ n) (hhi : n ≤ k.range.2) :
    k.clamped n = n := by
  rw [clamped_of_no_deadline k hk, clampNat]
  omega

theorem clamped_deadline_inside (r : Role) (n : Nat) (hlo : 10 ≤ n) (hhi : n ≤ 250) :
    (SettingId.deadline r).clamped n = n / 10 * 10 := by
  rw [clamped_deadline, clampNat]
  omega

theorem clamped_tau (n : Nat) :
    WideSetting.tau.clamped n = if n < 10000 then 10000 else if 3600000 < n then 3600000 else n := by
  rw [WideSetting.clamped, clampNat]
  split_ifs <;> omega

theorem clamped_threshold (item : WearItem) (j : Fin 3) (n : Nat) :
    (WideSetting.threshold item j).clamped n = min n 4294967295 := by
  rw [WideSetting.clamped, clampNat]
  omega

/-! ### Which setting an offset holds (R198) -/

theorem settingAt_threshold {k : Nat} {item : WearItem} (j : Fin 3) (h : itemOfNumber k = some item) :
    settingAt (0x40 + 6 * k + 2 * j.val) = some (.high (.threshold item j)) ∧
      settingAt (0x41 + 6 * k + 2 * j.val) = some (.low (.threshold item j)) := by
  have hk : k ≤ 4 := by
    by_contra hgt
    rw [itemOfNumber_none (by omega)] at h
    cases h
  interval_cases k <;> cases h <;> fin_cases j <;> exact ⟨rfl, rfl⟩

theorem settingAt_none {o : Nat} (hlo : 0x36 ≤ o) (h : o < 0x40 ∨ 0x5E ≤ o) : settingAt o = none := by
  rw [settingAt, if_neg (by omega), thresholdWordAt, if_pos (by omega)]

/-! ### What storing a setting leaves (R16) -/

theorem trigger_get_set_same {α : Type} (x : PerTrigger α) (c : TriggerCause) (a : α) : (x.set c a).get c = a := by
  cases c <;> rfl

theorem trigger_get_set_other {α : Type} (x : PerTrigger α) (c d : TriggerCause) (a : α) (h : d ≠ c) :
    (x.set c a).get d = x.get d := by
  cases c <;> cases d <;> first | rfl | exact absurd rfl h

theorem settings_get_set_same (a : Settings) (k : SettingId) (n : Nat) : (a.set k n).get k = n := by
  cases k <;> simp [Settings.set, Settings.get, trigger_get_set_same]

theorem settings_get_set_other (a : Settings) {j k : SettingId} (n : Nat) (h : j ≠ k) : (a.set k n).get j = a.get j := by
  cases k <;> cases j <;> simp_all [Settings.set, Settings.get, trigger_get_set_other]

theorem settings_getWide_set (a : Settings) (k : SettingId) (n : Nat) (y : WideSetting) :
    (a.set k n).getWide y = a.getWide y := by
  cases k <;> rfl

theorem settings_get_setWide (a : Settings) (k : WideSetting) (n : Nat) (y : SettingId) :
    (a.setWide k n).get y = a.get y := by
  cases k <;> cases y <;> rfl

theorem thresholds_get_set_same (x : Thresholds) (j : Fin 3) (n : Nat) : (x.set j n).get j = n := by
  fin_cases j <;> rfl

theorem thresholds_get_set_other (x : Thresholds) {i j : Fin 3} (n : Nat) (h : i ≠ j) : (x.set j n).get i = x.get i := by
  fin_cases i <;> fin_cases j <;> first | rfl | exact absurd rfl h

theorem settings_getWide_setWide_same (a : Settings) (k : WideSetting) (n : Nat) : (a.setWide k n).getWide k = n := by
  cases k with
  | tau => rfl
  | threshold item j => simp [Settings.setWide, Settings.getWide, thresholds_get_set_same]

theorem settings_getWide_setWide_other (a : Settings) {j k : WideSetting} (n : Nat) (h : j ≠ k) :
    (a.setWide k n).getWide j = a.getWide j := by
  cases k with
  | tau =>
    cases j with
    | tau => exact absurd rfl h
    | threshold item m => rfl
  | threshold item m =>
    cases j with
    | tau => rfl
    | threshold item' m' =>
      by_cases hi : item' = item
      · subst hi
        have hm : m' ≠ m := fun e => h (by rw [e])
        simp [Settings.setWide, Settings.getWide, thresholds_get_set_other _ n hm]
      · simp [Settings.setWide, Settings.getWide, hi]

/-! ### A staged write that is taken (R17) -/

@[simp] theorem advancedIf_fields (advance : Bool) (x : PortState) :
    (x.advancedIf advance).assembly = x.assembly ∧ (x.advancedIf advance).holding = x.holding ∧
      (x.advancedIf advance).response = x.response ∧ (x.advancedIf advance).dataOut = x.dataOut ∧
      (x.advancedIf advance).notices = x.notices ∧ (x.advancedIf advance).missed = x.missed ∧
      (x.advancedIf advance).latch = x.latch ∧ (x.advancedIf advance).counters = x.counters ∧
      (x.advancedIf advance).codes = x.codes ∧ (x.advancedIf advance).dump = x.dump ∧
      (x.advancedIf advance).dumpRange = x.dumpRange := by
  cases advance <;> simp [PortState.advancedIf]

theorem assembled_eq_some {x : PortState} {k : AssemblyKind} {ws : List Word} :
    x.assembled k = some ws ↔ x.assembly = some ⟨k, ws⟩ := by
  constructor
  · intro h
    by_contra hne
    unfold PortState.assembled at h
    split at h
    next a ha =>
      obtain ⟨j, vs⟩ := a
      simp_all
    next => cases h
  · exact assembled_same

/-- A WRITE that leaves an assembly at its port and settles run control. -/
theorem exec_write_settings {rc : RunControl} {a : Option Assembly} {x : Word} (hi : IsWrite i p advance w)
    (hl : s.Listening) (h : (s.modPort p PortState.shiftOut).writeAt p (s.ports.get p).cursors.writeAddress.toNat w =
      (((s.modPort p PortState.shiftOut).modPort p fun y => { y with assembly := a }).setRc rc, .ok x)) :
    ∃ t, exec i s = .next t ∧ Answered s t p 3#4 .ok x ∧ (t.ports.get p).assembly = a ∧ t.rc = rc ∧
      Changes [.runControl, .ports] s t ∧ OtherPortsSame s t p ∧ PortChanges [.cursors, .assembly, .frame] s t p := by
  obtain ⟨hexec, hanswer⟩ := exec_write_ok hi hl h (by
    have hports : ((s.modPort p PortState.shiftOut).modPort p fun y => { y with assembly := a }).ports.get p =
        { (s.modPort p PortState.shiftOut).ports.get p with assembly := a } := modPort_get_same ..
    exact (congrArg PortState.dataOut hports).trans (shiftOut_dataOut s p))
  refine ⟨_, hexec, hanswer, by simp, by simp, fun b hb => ?blocks, fun q hq => ?others, fun g hg => ?fields⟩
  case blocks => cases b <;> simp [Block.Same] at hb ⊢
  case others => simp [State.respond, hq]
  case fields =>
    have hne : g ≠ .cursors := fun e => by simp [e] at hg
    cases g <;> simp [PortField.Same, PortState.shiftOut] at hg hne ⊢

theorem storeSettingWord_one (k : SettingId) :
    s.storeSettingWord p (.one k) w = ((s.modPort p fun y => { y with assembly := none }).setRc
      { s.rc with claim := some p, staged := s.rc.staged.set k (k.clamped w.toNat) },
      .ok (wordOfNat (k.clamped w.toNat))) := rfl

theorem storeSettingWord_high (k : WideSetting) :
    s.storeSettingWord p (.high k) w = ((s.modPort p fun y => { y with assembly := some ⟨.setting k, [w]⟩ }).setRc
      { s.rc with claim := some p }, .ok w) := rfl

theorem storeSettingWord_low {k : WideSetting} {h : Word} (ha : (s.ports.get p).assembly = some ⟨.setting k, [h]⟩) :
    s.storeSettingWord p (.low k) w = ((s.modPort p fun y => { y with assembly := none }).setRc
      { s.rc with claim := some p, staged := s.rc.staged.setWide k (k.clamped (h.toNat * 65536 + w.toNat)) },
      .ok (BitVec.ofNat 16 (k.clamped (h.toNat * 65536 + w.toNat)))) := by
  rw [State.storeSettingWord, assembled_same ha]
  rfl

theorem storeSettingWord_low_refused {k : WideSetting} (ha : ∀ h, (s.ports.get p).assembly ≠ some ⟨.setting k, [h]⟩) :
    s.storeSettingWord p (.low k) w = s.refuseWrite p (.state 0) := by
  unfold State.storeSettingWord
  dsimp only
  split
  next h hassembled =>
    exact absurd (assembled_eq_some.mp hassembled) (ha h)
  next => rfl
  next => rfl

theorem writeAt_setting {x : SettingWord} (hlo : 0x200 ≤ (s.ports.get p).cursors.writeAddress.toNat)
    (hhi : (s.ports.get p).cursors.writeAddress.toNat < 0x300)
    (hx : settingAt ((s.ports.get p).cursors.writeAddress.toNat - 0x200) = some x)
    (hr : s.roleOf p ≠ none ∨ s.rc.runState = .halted) (hc : s.rc.claim = none ∨ s.rc.claim = some p) :
    (s.modPort p PortState.shiftOut).writeAt p (s.ports.get p).cursors.writeAddress.toNat w =
      (s.modPort p PortState.shiftOut).storeSettingWord p x w :=
  (writeAt_staged hlo hhi).trans (writeStaged_open (s := s.modPort p PortState.shiftOut) hx hr hc)

/-- Settles O27: a staged word by what its offset holds, then the table of settings. -/
theorem stagedSettingStored : Obligations.StagedSettingStored := by
  refine ⟨fun i p advance w x s hi hl hlo hhi hx hr hc => ?taken, clamped_within, fun k n => clamped_inside k n,
    clamped_outside, clamped_deadline_inside, clamped_tau, by decide, by decide, rfl, rfl, by decide, by decide,
    fun _ => rfl, by decide, rfl, by decide, rfl, rfl, rfl, rfl, rfl, rfl, rfl, rfl, fun _ => ⟨rfl, rfl⟩,
    clamped_threshold, by decide, by decide, fun k item j => settingAt_threshold j, fun o => settingAt_none,
    by decide, by decide, fun a => ⟨rfl, rfl, rfl, rfl, fun _ => rfl, fun _ => ⟨rfl, rfl⟩, rfl, fun _ => rfl⟩,
    fun a n => ⟨fun k => ⟨settings_get_set_same a k n, fun j => settings_get_set_other a n, settings_getWide_set a k n⟩,
      fun k => ⟨settings_getWide_setWide_same a k n, fun j => settings_getWide_setWide_other a n,
        settings_get_setWide a k n⟩⟩⟩
  case taken =>
    have hwrite := writeAt_setting (w := w) hlo hhi hx hr hc
    refine ⟨fun k hk => ?one, fun k hk => ?high, fun k h hk ha => ?low, fun k hk ha => ?mismatch⟩ <;> subst hk
    case one => exact exec_write_settings hi hl (hwrite.trans (storeSettingWord_one k))
    case high => exact exec_write_settings hi hl (hwrite.trans (storeSettingWord_high k))
    case low =>
      rw [← shiftOut_assembly] at ha
      exact exec_write_settings hi hl (hwrite.trans (storeSettingWord_low ha))
    case mismatch =>
      simp only [← shiftOut_assembly s p] at ha
      exact exec_write_refused (r := .state 0) hi hl nofun (hwrite.trans (storeSettingWord_low_refused ha))

end Sys2Proof.Machine
end

section
/-! PROOFS. A sample: the ring, the sampling level, the descriptors and the dumps (R160, R161, R163, R164, R170, R171, R176). -/

namespace Sys2Proof.Machine

variable {s t u v : State}

/-! ### A descriptor after a sample (R170, R171) -/

/-- A descriptor after sample `k`: the ring may drop its first sample, and its last one may have come. -/
def Descriptor.sampled (k : Nat) (d : Descriptor) : Descriptor :=
  (if 8192 ≤ k then d.dropped (k - 8192) else d).recorded k

section
variable {k : Nat} {d : Descriptor}

theorem recorded_of_not_collecting (h : d.state ≠ .collecting) : d.recorded k = d := if_neg fun hc => h hc.1

theorem dropped_of_not_complete {j : Nat} (h : d.state ≠ .complete) : d.dropped j = d := if_neg fun hc => h hc.1

theorem sampled_of_not_complete (h : d.state ≠ .complete) : d.sampled k = d.recorded k := by
  rw [Descriptor.sampled, dropped_of_not_complete h, ite_self]

theorem sampled_unused (h : d.state = .free ∨ d.state = .overwritten) : d.sampled k = d := by
  rw [sampled_of_not_complete (by obtain h | h := h <;> simp [h]),
    recorded_of_not_collecting (by obtain h | h := h <;> simp [h])]

theorem sampled_lost (hs : d.state = .complete) (h : 8192 ≤ k ∧ d.first ≤ k - 8192) :
    d.sampled k = { d with state := .overwritten } := by
  rw [Descriptor.sampled, if_pos h.1, Descriptor.dropped, if_pos ⟨hs, h.2⟩]
  exact recorded_of_not_collecting (by simp)

theorem sampled_kept (hs : d.state = .complete) (h : ¬ (8192 ≤ k ∧ d.first ≤ k - 8192)) : d.sampled k = d := by
  have hkept : (if 8192 ≤ k then d.dropped (k - 8192) else d) = d := by
    split_ifs with hk
    · exact if_neg fun hc => h ⟨hk, hc.2⟩
    · rfl
  rw [Descriptor.sampled, hkept, recorded_of_not_collecting (by simp [hs])]

theorem sampled_completed (hs : d.state = .collecting) (h : d.last ≤ k) : d.sampled k = { d with state := .complete } := by
  rw [sampled_of_not_complete (by simp [hs]), Descriptor.recorded, if_pos ⟨hs, h⟩]

theorem sampled_collecting (hs : d.state = .collecting) (h : k < d.last) : d.sampled k = d := by
  rw [sampled_of_not_complete (by simp [hs]), Descriptor.recorded, if_neg fun hc => absurd hc.2 (Nat.not_le.mpr h)]

/-- A sample completes a descriptor. -/
def Descriptor.CompletesAt (k : Nat) (d : Descriptor) : Prop := d.state = .collecting ∧ d.last ≤ k

/-- A sample pushes out the first sample of a descriptor. -/
def Descriptor.LostAt (k : Nat) (d : Descriptor) : Prop := d.state = .complete ∧ 8192 ≤ k ∧ d.first ≤ k - 8192

theorem completesAt_iff : d.CompletesAt k ↔ d.state ≠ .complete ∧ (d.sampled k).state = .complete := by
  cases hs : d.state with
  | free => simp [Descriptor.CompletesAt, sampled_unused (.inl hs), hs]
  | overwritten => simp [Descriptor.CompletesAt, sampled_unused (.inr hs), hs]
  | complete => simp [Descriptor.CompletesAt, hs]
  | collecting =>
    by_cases h : d.last ≤ k
    · simp [Descriptor.CompletesAt, sampled_completed hs h, hs, h]
    · simp [Descriptor.CompletesAt, sampled_collecting hs (Nat.not_le.mp h), hs, h]

theorem lostAt_iff : d.LostAt k ↔ d.state ≠ .overwritten ∧ (d.sampled k).state = .overwritten := by
  cases hs : d.state with
  | free => simp [Descriptor.LostAt, sampled_unused (.inl hs), hs]
  | overwritten => simp [Descriptor.LostAt, hs]
  | complete =>
    by_cases h : 8192 ≤ k ∧ d.first ≤ k - 8192
    · simp [Descriptor.LostAt, sampled_lost hs h, hs, h]
    · simp only [Descriptor.LostAt, sampled_kept hs h, hs, true_and]
      simpa using h
  | collecting =>
    by_cases h : d.last ≤ k
    · simp [Descriptor.LostAt, sampled_completed hs h, hs]
    · simp [Descriptor.LostAt, sampled_collecting hs (Nat.not_le.mp h), hs]

theorem recorded_eq_self : d.recorded k = d ↔ ¬ d.CompletesAt k := by
  unfold Descriptor.recorded Descriptor.CompletesAt
  split_ifs with h
  · simp only [h, and_self, not_true_eq_false, iff_false]
    intro heq
    have hstate : DescriptorState.complete = d.state := congrArg Descriptor.state heq
    rw [h.1] at hstate
    cases hstate
  · simp only [h, not_false_eq_true]

theorem dropped_eq_self {j : Nat} : d.dropped j = d ↔ ¬ (d.state = .complete ∧ d.first ≤ j) := by
  unfold Descriptor.dropped
  split_ifs with h
  · simp only [h, and_self, not_true_eq_false, iff_false]
    intro heq
    have hstate : DescriptorState.overwritten = d.state := congrArg Descriptor.state heq
    rw [h.1] at hstate
    cases hstate
  · simp only [h, not_false_eq_true]

end

theorem table_map_eq_self (x : SnapshotTable) (f : Descriptor → Descriptor) :
    x.map f = x ↔ ∀ id, f (x.get id) = x.get id := by
  constructor
  · intro h id
    simpa using congrArg (fun y => y.get id) h
  · intro h
    refine table_ext fun id => ?_
    rw [table_get_map, h]

theorem sampledTable_get (s : State) (id : BitVec 2) :
    s.sampledTable.get id = (s.rcd.table.get id).sampled s.rcd.next := by
  unfold State.sampledTable Descriptor.sampled
  rw [table_get_map]
  by_cases hk : Config.ringSize ≤ s.rcd.next
  · have hfull : 8192 ≤ s.rcd.next := hk
    rw [if_pos hk, if_pos hfull, table_get_map]
    rfl
  · have hroom : ¬ 8192 ≤ s.rcd.next := hk
    rw [if_neg hk, if_neg hroom]

/-! ### The sample level (R164) -/

theorem nextLevel_moving (x : SamplingLevel) (e : Option Nat) (n : Nat) : nextLevel x e false n = (x, none) := rfl

theorem nextLevel_stopped (x : SamplingLevel) (n : Nat) : nextLevel x none true n = (x, some n) := rfl

theorem nextLevel_long {x : SamplingLevel} {e n : Nat} (h : e + 300000 ≤ n) : nextLevel x (some e) true n = (.rest2, some e) := by
  simp [nextLevel, h]

theorem nextLevel_short {x : SamplingLevel} {e n : Nat} (h : n < e + 300000) (h' : e + 30000 ≤ n) (hx : x = .run) :
    nextLevel x (some e) true n = (.rest1, some e) := by
  simp [nextLevel, Nat.not_le.mpr h, h', hx]

theorem nextLevel_same {x : SamplingLevel} {e n : Nat} (h : n < e + 300000) (h' : n < e + 30000 ∨ x ≠ .run) :
    nextLevel x (some e) true n = (x, some e) := by
  have hno : ¬ (e + 30000 ≤ n ∧ x = .run) := fun hc => h'.elim (Nat.not_lt.mpr hc.1) fun hx => hx hc.2
  simp [nextLevel, Nat.not_le.mpr h, hno]

/-! ### The machine after a sample -/

/-- The ring has taken the sample and dropped its oldest one. -/
def State.aged (s : State) : State :=
  if Config.ringSize ≤ s.rcd.next then s.recordSample.dropSample (s.rcd.next - Config.ringSize) else s.recordSample

theorem recordEvent_eq (s : State) : s.recordEvent = (s.aged.completeSnapshots s.rcd.next).mapPorts
    (PortState.fetch s.recordEvent.rcd) := rfl

/-- The recorder with the sample taken, before it is settled. -/
def State.sampledRecorder (s : State) : Recorder := { s.recordSample.rcd with table := s.sampledTable }

theorem aged_untouched (s : State) : s.aged.rc = s.rc ∧ s.aged.now = s.now := by
  unfold State.aged
  split_ifs <;> simp [State.recordSample]

theorem aged_table_get (s : State) (id : BitVec 2) : s.aged.rcd.table.get id =
    if 8192 ≤ s.rcd.next then (s.rcd.table.get id).dropped (s.rcd.next - 8192) else s.rcd.table.get id := by
  unfold State.aged
  by_cases hk : Config.ringSize ≤ s.rcd.next
  · have hfull : 8192 ≤ s.rcd.next := hk
    rw [if_pos hk, if_pos hfull, dropSample_rcd, table_get_map]
    rfl
  · have hroom : ¬ 8192 ≤ s.rcd.next := hk
    rw [if_neg hk, if_neg hroom]
    rfl

/-- Descriptors complete with a sample just when they do so without the drop of another. -/
theorem completesAt_aged (s : State) (id : BitVec 2) :
    (s.aged.rcd.table.get id).CompletesAt s.rcd.next ↔ (s.rcd.table.get id).CompletesAt s.rcd.next := by
  rw [aged_table_get]
  split_ifs
  · unfold Descriptor.dropped
    split_ifs with hc
    · simp [Descriptor.CompletesAt, hc.1]
    · rfl
  · rfl

theorem aged_table_map (s : State) : s.aged.rcd.table.map (Descriptor.recorded s.rcd.next) = s.sampledTable := by
  refine table_ext fun id => ?_
  rw [table_get_map, aged_table_get, sampledTable_get, Descriptor.sampled]

theorem completes_table (s : State) : s.aged.rcd.table.map (Descriptor.recorded s.rcd.next) = s.aged.rcd.table ↔
    ∀ id, ¬ (s.rcd.table.get id).CompletesAt s.rcd.next := by
  rw [table_map_eq_self]
  exact forall_congr' fun id => recorded_eq_self.trans (not_congr (completesAt_aged s id))

theorem aged_rcd_table (s : State) : { s.aged.rcd with table := s.sampledTable } = s.sampledRecorder := by
  unfold State.aged
  split_ifs
  · rw [dropSample_rcd]
    rfl
  · rfl

theorem recordEvent_quiet (h : ∀ id, ¬ (s.rcd.table.get id).CompletesAt s.rcd.next) :
    s.recordEvent.rcd = s.sampledRecorder := by
  have hquiet := (completes_table s).mpr h
  have hrcd : s.recordEvent.rcd = s.aged.rcd := (completeSnapshots_rcd (s := s.aged) s.rcd.next).trans (if_pos hquiet)
  rw [hrcd, ← aged_rcd_table, ← aged_table_map, hquiet]

theorem recordEvent_completing (h : ∃ id, (s.rcd.table.get id).CompletesAt s.rcd.next) :
    s.recordEvent.rcd = s.sampledRecorder.settled s.rc.runState s.now := by
  have hcompleting : s.aged.rcd.table.map (Descriptor.recorded s.rcd.next) ≠ s.aged.rcd.table := fun he =>
    let ⟨id, hid⟩ := h
    (completes_table s).mp he id hid
  have hrcd := (completeSnapshots_rcd (s := s.aged) s.rcd.next).trans (if_neg hcompleting)
  obtain ⟨hrc, hnow⟩ := aged_untouched s
  rw [aged_table_map, aged_rcd_table, hrc, hnow] at hrcd
  exact hrcd

/-- Settling a recorder that records leaves its sampling level. -/
theorem settled_level {r : Recorder} (h : r.state = .recording) (run : RunState) (n : Nat) :
    (r.settled run n).level = r.level ∧ (r.settled run n).still = r.still := by
  unfold Recorder.settled
  rw [h]
  split_ifs <;> exact ⟨rfl, rfl⟩

theorem recordEvent_level (h : s.rcd.state = .recording) :
    s.recordEvent.rcd.level = (nextLevel s.rcd.level s.rcd.still s.isStill s.now).1 ∧
      s.recordEvent.rcd.still = (nextLevel s.rcd.level s.rcd.still s.isStill s.now).2 := by
  have hstate : s.sampledRecorder.state = .recording := h
  by_cases hc : ∃ id, (s.rcd.table.get id).CompletesAt s.rcd.next
  · rw [recordEvent_completing hc]
    exact settled_level hstate _ _
  · rw [recordEvent_quiet fun id hid => hc ⟨id, hid⟩]
    exact ⟨rfl, rfl⟩

/-! ### What a sample tells the ports, and its dumps -/

theorem recordSample_ports (s : State) : s.recordSample.ports = s.ports := rfl

theorem dropSample_port (k : Nat) (p : Port) : ((s.dropSample k).ports.get p).dump = (s.ports.get p).dump.dropped k := by
  unfold State.dropSample
  dsimp only
  split_ifs <;> simp [State.noticeAll, PortState.addNotice]

theorem dropSample_hasNotice (k : Nat) (p : Port) (j : NoticeKind) : ((s.dropSample k).ports.get p).hasNotice j =
    ((s.ports.get p).hasNotice j ||
      (!decide (s.rcd.table.map (Descriptor.dropped k) = s.rcd.table) && decide (j = .snapshotOverwritten))) := by
  have hdump (x : State) : ((x.mapPorts fun y => { y with dump := y.dump.dropped k }).ports.get p).hasNotice j =
      (x.ports.get p).hasNotice j := by
    rw [mapPorts_get]
    rfl
  unfold State.dropSample
  dsimp only
  split_ifs with h
  · rw [hdump]
    simp [h]
  · rw [noticeAll_hasNotice, hdump]
    simp [h]

theorem completeSnapshots_port (k : Nat) (p : Port) :
    ((s.completeSnapshots k).ports.get p).dump = (s.ports.get p).dump := by
  unfold State.completeSnapshots
  dsimp only
  split_ifs <;> simp [State.completed, State.noticeAll, PortState.addNotice]

theorem completeSnapshots_hasNotice (k : Nat) (p : Port) (j : NoticeKind) :
    ((s.completeSnapshots k).ports.get p).hasNotice j = ((s.ports.get p).hasNotice j ||
      (!decide (s.rcd.table.map (Descriptor.recorded k) = s.rcd.table) && decide (j = .snapshotComplete))) := by
  unfold State.completeSnapshots
  dsimp only
  split_ifs with h
  · simp [h]
  · rw [State.completed, settleRecorder_eq]
    simp [h]

theorem recordEvent_dump (s : State) (p : Port) : (s.recordEvent.ports.get p).dump =
    (if 8192 ≤ s.rcd.next then (s.ports.get p).dump.dropped (s.rcd.next - 8192) else (s.ports.get p).dump).fetch
      s.recordEvent.rcd := by
  have haged : (s.aged.ports.get p).dump =
      if 8192 ≤ s.rcd.next then (s.ports.get p).dump.dropped (s.rcd.next - 8192) else (s.ports.get p).dump := by
    unfold State.aged
    by_cases hk : Config.ringSize ≤ s.rcd.next
    · have hfull : 8192 ≤ s.rcd.next := hk
      rw [if_pos hk, if_pos hfull, dropSample_port]
      rfl
    · have hroom : ¬ 8192 ≤ s.rcd.next := hk
      rw [if_neg hk, if_neg hroom]
      rfl
  rw [recordEvent_eq, mapPorts_rcd, mapPorts_get, ← haged, ← completeSnapshots_port s.rcd.next]
  rfl

theorem aged_overwrites (s : State) : (∃ id, (s.rcd.table.get id).LostAt s.rcd.next) ↔ 8192 ≤ s.rcd.next ∧
    s.rcd.table.map (Descriptor.dropped (s.rcd.next - 8192)) ≠ s.rcd.table := by
  rw [ne_eq, table_map_eq_self]
  simp only [dropped_eq_self, not_forall, not_not, Descriptor.LostAt]
  grind

theorem aged_hasNotice (s : State) (p : Port) (j : NoticeKind) : (s.aged.ports.get p).hasNotice j = true ↔
    (s.ports.get p).hasNotice j = true ∨ (∃ id, (s.rcd.table.get id).LostAt s.rcd.next) ∧ j = .snapshotOverwritten := by
  rw [aged_overwrites]
  unfold State.aged
  by_cases hk : Config.ringSize ≤ s.rcd.next
  · have hfull : 8192 ≤ s.rcd.next := hk
    have hsize : Config.ringSize = 8192 := rfl
    have htable : s.recordSample.rcd.table = s.rcd.table := rfl
    rw [if_pos hk, dropSample_hasNotice, htable, hsize, recordSample_ports]
    simp only [Bool.or_eq_true, Bool.and_eq_true, Bool.not_eq_true', decide_eq_false_iff_not, decide_eq_true_eq, hfull,
      true_and, ne_eq]
  · have hroom : ¬ 8192 ≤ s.rcd.next := hk
    rw [if_neg hk, recordSample_ports]
    simp [hroom]

theorem recordEvent_hasNotice (s : State) (p : Port) (j : NoticeKind) : (s.recordEvent.ports.get p).hasNotice j = true ↔
    ((s.ports.get p).hasNotice j = true ∨
      (∃ id, (s.rcd.table.get id).LostAt s.rcd.next) ∧ j = .snapshotOverwritten) ∨
        (∃ id, (s.rcd.table.get id).CompletesAt s.rcd.next) ∧ j = .snapshotComplete := by
  have hfetch : (s.recordEvent.ports.get p).hasNotice j =
      ((s.aged.completeSnapshots s.rcd.next).ports.get p).hasNotice j := by
    rw [recordEvent_eq, mapPorts_get]
    rfl
  have hcompletes : (∃ id, (s.rcd.table.get id).CompletesAt s.rcd.next) ↔
      s.aged.rcd.table.map (Descriptor.recorded s.rcd.next) ≠ s.aged.rcd.table := by
    rw [ne_eq, completes_table]
    simp
  rw [hfetch, completeSnapshots_hasNotice, hcompletes, ← aged_hasNotice]
  simp

theorem recordEvent_noticesWithin (s : State) :
    State.NoticesWithin [.snapshotComplete, .snapshotOverwritten] s s.recordEvent := by
  refine fun p k => ⟨fun h => (recordEvent_hasNotice s p k).mpr (.inl (.inl h)), fun hk => Bool.eq_iff_iff.mpr ?_⟩
  rw [recordEvent_hasNotice]
  simp only [List.mem_cons, List.not_mem_nil, or_false, not_or] at hk
  simp [hk]

theorem recordEvent_changes (s : State) : Changes [.recorder, .ports] s s.recordEvent := by
  intro b hb
  cases b <;> simp [Block.Same] at hb ⊢

theorem recordEvent_portChanges (s : State) (p : Port) : PortChanges [.notices, .dump] s s.recordEvent p := by
  intro f hf
  cases f <;> simp [PortField.Same] at hf ⊢

theorem sampleNumber_newest (s : State) {r : Recorder}
    (h : r.ring = (s.takeSample :: s.rcd.ring).take Config.ringSize) :
    r.ring.head? = some s.takeSample ∧ r.sampleNumber s.rcd.next = some s.takeSample := by
  have hcons : r.ring = s.takeSample :: s.rcd.ring.take 8191 := h
  rw [Recorder.sampleNumber, hcons]
  exact ⟨rfl, List.find?_cons_of_pos (by simp [State.takeSample])⟩

end Sys2Proof.Machine
end

section
/-! PROOFS. What a sample brings to the dumps and to the recorder's timer, and the sample event (R161 to R164, R176). -/

namespace Sys2Proof.Machine

variable {s t u v : State}

/-! ### A dump at a sample (R176) -/

theorem dropped_of_kept {d : DumpContext} {k : Nat} (h : k < 8192 ∨ k - 8192 < d.next) :
    (if 8192 ≤ k then d.dropped (k - 8192) else d) = d := by
  split_ifs with hk
  · exact if_neg fun hc => by omega
  · rfl

theorem recordEvent_dump_idle {p : Port} (h : (s.ports.get p).dump.status ≠ .streaming) :
    (s.recordEvent.ports.get p).dump = (s.ports.get p).dump := by
  have hdropped (k : Nat) : (s.ports.get p).dump.dropped k = (s.ports.get p).dump := if_neg fun hc => h hc.1
  rw [recordEvent_dump, hdropped, ite_self]
  exact fetch_of_not_mayFetch (Bool.eq_false_iff.mpr fun hmay => h ((mayFetch_iff _ _).mp hmay).1)

theorem recordEvent_dump_lost {p : Port} (h : (s.ports.get p).dump.status = .streaming) (hk : 8192 ≤ s.rcd.next)
    (hn : (s.ports.get p).dump.next ≤ s.rcd.next - 8192) :
    (s.recordEvent.ports.get p).dump = { (s.ports.get p).dump with status := .ended, reason := some .lost } := by
  rw [recordEvent_dump, if_pos hk, DumpContext.dropped, if_pos ⟨h, hn⟩]
  exact fetch_of_not_mayFetch (Bool.eq_false_iff.mpr fun hmay => nomatch ((mayFetch_iff _ _).mp hmay).1)

section
variable {p : Port} (h : s.rcd.next < 8192 ∨ s.rcd.next - 8192 < (s.ports.get p).dump.next)
include h

theorem recordEvent_dump_waits (hw : 6 < (s.ports.get p).dump.queue.length ∨ (s.ports.get p).dump.last < (s.ports.get p).dump.next ∨
      s.rcd.next < (s.ports.get p).dump.next ∨ s.recordEvent.rcd.sampleNumber (s.ports.get p).dump.next = none) :
    (s.recordEvent.ports.get p).dump = (s.ports.get p).dump := by
  obtain ⟨-, -, hnext, -⟩ := recordEvent_history s
  rw [recordEvent_dump, dropped_of_kept h, DumpContext.fetch]
  split_ifs with hmay
  · obtain ⟨-, hroom, hlast, hbelow⟩ := (mayFetch_iff _ _).mp hmay
    obtain hw | hw | hw | hw := hw
    · omega
    · omega
    · omega
    · rw [hw]
  · rfl

theorem recordEvent_dump_fetches (hs : (s.ports.get p).dump.status = .streaming) {x : Sample}
    (hroom : (s.ports.get p).dump.queue.length ≤ 6)
    (hlast : (s.ports.get p).dump.next ≤ (s.ports.get p).dump.last) (hnext : (s.ports.get p).dump.next ≤ s.rcd.next)
    (hx : s.recordEvent.rcd.sampleNumber (s.ports.get p).dump.next = some x) :
    (s.recordEvent.ports.get p).dump = { (s.ports.get p).dump with
      queue := (s.ports.get p).dump.queue ++ x.words, next := (s.ports.get p).dump.next + 1
      status := if (s.ports.get p).dump.next = (s.ports.get p).dump.last then .ended else .streaming
      reason := if (s.ports.get p).dump.next = (s.ports.get p).dump.last then some .done
        else (s.ports.get p).dump.reason } := by
  obtain ⟨-, -, hnewest, -⟩ := recordEvent_history s
  rw [recordEvent_dump, dropped_of_kept h]
  exact fetch_of_mayFetch ((mayFetch_iff _ _).mpr ⟨hs, by omega, hlast, by omega⟩) hx

end

/-! ### The recorder's state and timer after a sample (R162, R163) -/

theorem completes_iff (s : State) :
    (∃ id, (s.recordEvent.rcd.table.get id).state ≠ (s.rcd.table.get id).state ∧
      (s.recordEvent.rcd.table.get id).state = .complete) ↔ ∃ id, (s.rcd.table.get id).CompletesAt s.rcd.next := by
  obtain ⟨htable, -⟩ := recordEvent_history s
  refine exists_congr fun id => ?_
  rw [htable, sampledTable_get, completesAt_iff]
  constructor
  · rintro ⟨hne, hc⟩
    exact ⟨fun h => hne (hc.trans h.symm), hc⟩
  · rintro ⟨hne, hc⟩
    exact ⟨fun h => hne (h.symm.trans hc), hc⟩

theorem recordEvent_frozen (h : s.rcd.state = .recording) (hf : s.recordEvent.rcd.table.frozen = true)
    (hc : ∃ id, (s.rcd.table.get id).CompletesAt s.rcd.next) :
    s.recordEvent.rcd.state = .frozen ∧ s.recordEvent.rcd.due = none := by
  obtain ⟨htable, -⟩ := recordEvent_history s
  rw [htable] at hf
  have hstate : s.sampledRecorder.state = .recording := h
  have hnew : recorderState s.sampledRecorder.table s.rc.runState = .frozen := recorderState_frozen hf _
  rw [recordEvent_completing hc, settled_leaving _ (by simp [hnew, hstate]) (by simp [hnew])]
  exact ⟨hnew, rfl⟩

theorem recordEvent_records (h : s.rcd.state = .recording)
    (hr : (∀ id, ¬ (s.rcd.table.get id).CompletesAt s.rcd.next) ∨
      s.recordEvent.rcd.table.frozen = false ∧ (s.rc.runState = .standby ∨ s.rc.runState = .active)) :
    s.recordEvent.rcd.state = .recording ∧ s.recordEvent.rcd.due = some (s.now + s.recordEvent.rcd.level.period) := by
  have hrecords : s.recordEvent.rcd = s.sampledRecorder := by
    by_cases hc : ∃ id, (s.rcd.table.get id).CompletesAt s.rcd.next
    · obtain hno | ⟨hf, hrun⟩ := hr
      · obtain ⟨id, hid⟩ := hc
        exact absurd hid (hno id)
      · obtain ⟨htable, -⟩ := recordEvent_history s
        rw [htable] at hf
        have hnew : recorderState s.sampledRecorder.table s.rc.runState = .recording := recorderState_driving hf hrun
        rw [recordEvent_completing hc]
        exact if_pos (hnew.trans h.symm)
    · exact recordEvent_quiet fun id hid => hc ⟨id, hid⟩
  rw [hrecords]
  exact ⟨h, rfl⟩

theorem nextLevel_since (x : SamplingLevel) (e n : Nat) : (nextLevel x (some e) true n).2 = some e := by
  simp only [nextLevel, if_true]
  split_ifs <;> rfl

/-! ### The sample event -/

theorem exec_sample_due {d : Nat} (hrun : s.running = true) (hd : s.rcd.due = some d) :
    exec .sample s = .next (s.setNow (max s.now d)).sampleEvent := next_timed_due hrun hd _

theorem sampleEvent_records (h : s.rcd.state = .recording) (hn : s.rcd.next ≤ 4294967295) :
    s.sampleEvent = s.recordEvent := if_pos ⟨h, hn⟩

theorem isStill_iff (s : State) : s.isStill = true ↔ s.env.brake.v = 0 ∧ s.env.vehicle.tDrv = 0 ∧
    (s.stale .brake = true ∨ s.env.brake.tRr = 0) ∧ s.split.tMc = 0 := by
  simp [State.isStill, State.takenTRr]

theorem setNow_isStill (s : State) (n : Nat) : (s.setNow n).isStill = s.isStill := rfl

theorem setNow_changes (s : State) (n : Nat) : Changes [.clock] s (s.setNow n) := by
  intro b hb
  cases b <;> simp [Block.Same] at hb ⊢

theorem recordEvent_allNoticed_complete {id : BitVec 2} (hs : (s.rcd.table.get id).state = .collecting)
    (h : (s.rcd.table.get id).last ≤ s.rcd.next) : s.recordEvent.AllNoticed .snapshotComplete := fun p =>
  (recordEvent_hasNotice s p _).mpr (.inr ⟨⟨id, hs, h⟩, rfl⟩)

theorem recordEvent_allNoticed_lost {id : BitVec 2} (hs : (s.rcd.table.get id).state = .complete)
    (h : 8192 ≤ s.rcd.next ∧ (s.rcd.table.get id).first ≤ s.rcd.next - 8192) :
    s.recordEvent.AllNoticed .snapshotOverwritten := fun p =>
  (recordEvent_hasNotice s p _).mpr (.inl (.inr ⟨⟨id, hs, h⟩, rfl⟩))

/-- Settles O52: the ring and the level, then the descriptors with their notices, the timer, and the dumps. -/
theorem sampleRecorded : Obligations.SampleRecorded := by
  intro d s hrun hd
  rw [exec_sample_due hrun hd]
  constructor
  · intro h
    have hidle : (s.setNow (max s.now d)).sampleEvent = s.setNow (max s.now d) :=
      if_neg fun hc => h.elim (fun hs => hs hc.1) fun hn => absurd hc.2 (Nat.not_le.mpr hn)
    rw [hidle]
    exact ⟨_, rfl, rfl, setNow_changes s _⟩
  intro hstate hbelow
  generalize hm : max s.now d = n
  have hevent : (s.setNow n).sampleEvent = (s.setNow n).recordEvent := sampleEvent_records hstate hbelow
  rw [hevent]
  obtain ⟨htable, hring, hnext, hempty⟩ := recordEvent_history (s.setNow n)
  obtain ⟨hlevel, hstill⟩ := recordEvent_level (s := s.setNow n) hstate
  have hnow : (s.setNow n).recordEvent.now = n := by simp
  have hget (id : BitVec 2) : (s.setNow n).recordEvent.rcd.table.get id = (s.rcd.table.get id).sampled s.rcd.next := by
    rw [htable]
    exact sampledTable_get (s.setNow n) id
  obtain ⟨hhead, hnewest⟩ := sampleNumber_newest (s.setNow n) (r := (s.setNow n).recordEvent.rcd) hring
  refine ⟨_, rfl, hnow, hring, hnext, hempty, ⟨fun h => ?moving, fun h hno => ?stopped, fun e h he => ?still⟩,
    fun id => ⟨fun h => ?unused, fun h hl => ?lost, fun h hl => ?kept, fun h hl => ?completes, fun h hl => ?collects⟩,
    recordEvent_noticesWithin (s.setNow n), fun p => ⟨?noticeComplete, ?noticeLost⟩, fun hf hc => ?frozen, fun hr hno => ?records,
    ⟨rfl, rfl, rfl⟩, fun p => recordEvent_dump_idle (s := s.setNow n), fun p => recordEvent_dump_lost (s := s.setNow n),
    fun p hs hat hroom hlast => ?dumpNewest, fun p hs hold => ⟨fun h => ?dumpWaits, fun x h1 h2 h3 h4 => ?dumpFetches⟩,
    fun p => recordEvent_portChanges (s.setNow n) p, changes_trans (changes_mono (setNow_changes s n) (by simp))
      (changes_mono (recordEvent_changes (s.setNow n)) (by simp))⟩
  case moving =>
    have hno : (s.setNow n).isStill = false := Bool.eq_false_iff.mpr fun hc => h ((isStill_iff s).mp hc)
    rw [hlevel, hstill, hno]
    exact ⟨rfl, rfl⟩
  case stopped =>
    have hyes : (s.setNow n).isStill = true := (isStill_iff s).mpr h
    have hnone : (s.setNow n).rcd.still = none := hno
    rw [hlevel, hstill, hyes, hnone, hnow]
    exact ⟨rfl, rfl⟩
  case still =>
    have hyes : (s.setNow n).isStill = true := (isStill_iff s).mpr h
    have hsome : (s.setNow n).rcd.still = some e := he
    rw [hlevel, hstill, hyes, hsome, hnow]
    refine ⟨?_, fun hlong => ?_, fun hshort hlong hrunLevel => ?_, fun hshort hother => ?_⟩
    · exact nextLevel_since _ _ _
    · exact congrArg Prod.fst (nextLevel_long hlong)
    · exact congrArg Prod.fst (nextLevel_short hshort hlong hrunLevel)
    · exact congrArg Prod.fst (nextLevel_same hshort hother)
  case unused => exact (hget id).trans (sampled_unused h)
  case lost => exact ⟨(hget id).trans (sampled_lost h hl), recordEvent_allNoticed_lost (s := s.setNow n) h hl⟩
  case kept => exact (hget id).trans (sampled_kept h hl)
  case completes => exact ⟨(hget id).trans (sampled_completed h hl), recordEvent_allNoticed_complete (s := s.setNow n) h hl⟩
  case collects => exact (hget id).trans (sampled_collecting h hl)
  case noticeComplete =>
    simp only [recordEvent_hasNotice, hget, ← completesAt_iff]
    simp
  case noticeLost =>
    simp only [recordEvent_hasNotice, hget, ← lostAt_iff]
    simp
  case frozen => exact recordEvent_frozen (s := s.setNow n) hstate hf ((completes_iff (s.setNow n)).mp hc)
  case records =>
    rw [hnow]
    refine recordEvent_records (s := s.setNow n) hstate ?_
    by_cases hc : ∃ id, (s.rcd.table.get id).CompletesAt s.rcd.next
    · have hf : (s.setNow n).recordEvent.rcd.table.frozen = false :=
        Bool.eq_false_iff.mpr fun hf => hno ⟨hf, (completes_iff (s.setNow n)).mpr hc⟩
      obtain ⟨id, hid⟩ := hc
      obtain hr | hr | hr := hr
      · exact .inr ⟨hf, .inl hr⟩
      · exact .inr ⟨hf, .inr hr⟩
      · exact absurd hid.1 (hr id)
    · exact .inl fun id hid => hc ⟨id, hid⟩
  case dumpNewest =>
    have hnumber : (s.setNow n).recordEvent.rcd.sampleNumber (s.ports.get p).dump.next = some (s.setNow n).takeSample := by
      rw [hat]
      exact hnewest
    have hold : s.rcd.next < 8192 ∨ s.rcd.next - 8192 < (s.ports.get p).dump.next := by omega
    have hdump := recordEvent_dump_fetches (s := s.setNow n) hold hs hroom
      (hat.trans_le hlast) hat.le hnumber
    rw [hdump]
    refine ⟨⟨_, hhead, rfl⟩, ?_, rfl, rfl, fun h => ?_, fun h => ?_⟩
    · exact congrArg (· + 1) hat
    · exact ⟨if_pos (hat.trans h.symm), if_pos (hat.trans h.symm)⟩
    · have hne : (s.ports.get p).dump.next ≠ (s.ports.get p).dump.last := fun hc => h (hc.symm.trans hat)
      exact ⟨if_neg hne, if_neg hne⟩
  case dumpWaits => exact recordEvent_dump_waits (s := s.setNow n) hold h
  case dumpFetches => exact recordEvent_dump_fetches (s := s.setNow n) hold hs h1 h2 h3 h4

end Sys2Proof.Machine
end

section
/-! PROOFS. Parity, the fields of a request frame, and a frame read back (R181, R189, R194). -/

namespace Sys2Proof.Machine

variable {s t u v : State}

/-! ### Parity (R181) -/

theorem foldl_xor_init (g : Nat → Bool) (l : List Nat) (b : Bool) :
    l.foldl (fun c i => c ^^ g i) b = (b ^^ l.foldl (fun c i => c ^^ g i) false) := by
  induction l generalizing b with
  | nil => simp
  | cons i l ih =>
    rw [List.foldl_cons, List.foldl_cons, ih (b ^^ g i), ih (false ^^ g i)]
    simp

theorem foldl_xor_xor (g h : Nat → Bool) (l : List Nat) :
    l.foldl (fun c i => c ^^ (g i ^^ h i)) false =
      (l.foldl (fun c i => c ^^ g i) false ^^ l.foldl (fun c i => c ^^ h i) false) := by
  induction l with
  | nil => rfl
  | cons i l ih =>
    rw [List.foldl_cons, List.foldl_cons, List.foldl_cons, foldl_xor_init, foldl_xor_init g, foldl_xor_init h, ih]
    cases g i <;> cases h i <;> simp

theorem bitParity_xor {n : Nat} (x y : BitVec n) : bitParity (x ^^^ y) = (bitParity x ^^ bitParity y) := by
  simp only [bitParity, BitVec.getLsbD_xor]
  exact foldl_xor_xor _ _ _

/-- A bit put below the others is one more bit to count. -/
theorem bitParity_append_ofBool {n : Nat} (x : BitVec n) (b : Bool) :
    bitParity (x ++ BitVec.ofBool b) = (b ^^ bitParity x) := by
  unfold bitParity
  rw [List.range_succ_eq_map, List.foldl_cons, List.foldl_map, foldl_xor_init]
  simp only [BitVec.getLsbD_append]
  simp

theorem bitParity_withParity (body : BitVec 31) : bitParity (withParity body) = false := by
  rw [withParity, bitParity_append_ofBool, Bool.xor_self]

theorem bitParity_frameOf (c : BitVec 4) (advance : Bool) (a : Address) (w : Word) :
    bitParity (frameOf c advance a w) = false := bitParity_withParity _

theorem bitParity_response (r : Response) : bitParity r.frame = false := bitParity_withParity _

/-! ### The fields of a request frame (R189, R194) -/

section
variable (c : BitVec 4) (advance : Bool) (a : Address) (w : Word)

theorem frameOf_bit (j : Nat) : (frameOf c advance a w).getLsbD (j + 1) =
    if j < 16 then w.getLsbD j else if j < 26 then a.getLsbD (j - 16) else if j = 26 then advance
      else c.getLsbD (j - 27) := by
  have hbody : ¬ j + 1 < 1 := by omega
  simp only [frameOf, withParity, BitVec.getLsbD_append, hbody, if_false, Nat.add_sub_cancel]
  rcases lt_trichotomy j 26 with h | rfl | h
  · by_cases hw : j < 16
    · simp [hw]
    · have hlow : j - 16 < 10 := by omega
      simp [hw, hlow, h]
  · simp
  · have hw : ¬ j < 16 := by omega
    have ha : ¬ j < 26 := by omega
    have hlow : ¬ j - 16 < 10 := by omega
    have hc : ¬ j - 16 - 10 < 1 := by omega
    have hj : j ≠ 26 := by omega
    have hsub : j - 16 - 10 - 1 = j - 27 := by omega
    simp [hw, ha, hlow, hc, hj, hsub]

@[simp] theorem frameOf_command : (frameOf c advance a w).command = c := by
  refine BitVec.eq_of_getLsbD_eq fun i hi => ?_
  rw [Frame.command, BitVec.getLsbD_extractLsb', show 28 + i = (27 + i) + 1 by omega, frameOf_bit, if_neg (by omega),
    if_neg (by omega), if_neg (by omega), Nat.add_sub_cancel_left]
  simp [hi]

@[simp] theorem frameOf_advance : (frameOf c advance a w).advance = advance := by
  rw [Frame.advance, frameOf_bit]
  rfl

@[simp] theorem frameOf_argument : (frameOf c advance a w).argument = a := by
  refine BitVec.eq_of_getLsbD_eq fun i hi => ?_
  rw [Frame.argument, BitVec.getLsbD_extractLsb', show 17 + i = (16 + i) + 1 by omega, frameOf_bit, if_neg (by omega),
    if_pos (by omega), Nat.add_sub_cancel_left]
  simp [hi]

@[simp] theorem frameOf_payload : (frameOf c advance a w).payload = w := by
  refine BitVec.eq_of_getLsbD_eq fun i hi => ?_
  rw [Frame.payload, BitVec.getLsbD_extractLsb', show 1 + i = i + 1 by omega, frameOf_bit, if_pos hi]
  simp [hi]

end

theorem requestCode_eq (f : Frame) : f.requestCode = f.argument.extractLsb' 5 5 := by
  refine BitVec.eq_of_getLsbD_eq fun i hi => ?_
  have hlow : 5 + i < 10 := by omega
  simp only [Frame.requestCode, Frame.argument, BitVec.getLsbD_extractLsb', hi, hlow, decide_true, Bool.true_and]
  congr 1
  omega

theorem operand_eq (f : Frame) : f.operand = f.argument.extractLsb' 0 5 := by
  refine BitVec.eq_of_getLsbD_eq fun i hi => ?_
  have hlow : 0 + i < 10 := by omega
  simp only [Frame.operand, Frame.argument, BitVec.getLsbD_extractLsb', hi, hlow, decide_true, Bool.true_and]
  congr 1
  omega

theorem requestFrame_fields (code operand : BitVec 5) :
    (requestFrame code operand).requestCode = code ∧ (requestFrame code operand).operand = operand := by
  rw [requestCode_eq, operand_eq, requestFrame, frameOf_argument]
  constructor <;> refine BitVec.eq_of_getLsbD_eq fun i hi => ?_
  · rw [BitVec.getLsbD_extractLsb']
    refine (congrArg _ (BitVec.getLsbD_append ..)).trans ?_
    simp [hi]
  · rw [BitVec.getLsbD_extractLsb']
    refine (congrArg _ (BitVec.getLsbD_append ..)).trans ?_
    simp [hi]

/-! ### A frame read back (R181, R189, R194) -/

section
variable (p : Port) (readAt writeAt : Address)

theorem decode_poll (advance : Bool) (a : Address) (w : Word) :
    decodeFrame p readAt writeAt (frameOf 0#4 advance a w) = .poll p := by
  simp [decodeFrame, bitParity_frameOf]

theorem decode_cursor (advance : Bool) (a : Address) (w : Word) :
    decodeFrame p readAt writeAt (frameOf 1#4 advance a w) = .cursor p a w := by
  simp [decodeFrame, bitParity_frameOf]

theorem decode_read (advance : Bool) (a : Address) (w : Word) :
    decodeFrame p readAt writeAt (frameOf 2#4 advance a w) = readRow p readAt advance := by
  simp [decodeFrame, bitParity_frameOf]

theorem decode_write (advance : Bool) (a : Address) (w : Word) :
    decodeFrame p readAt writeAt (frameOf 3#4 advance a w) = writeRow p writeAt advance w := by
  simp [decodeFrame, bitParity_frameOf]

theorem decode_request {code operand : BitVec 5} {i : Instr} (h : requestRow p code operand = some i) :
    decodeFrame p readAt writeAt (requestFrame code operand) = i := by
  obtain ⟨hcode, hoperand⟩ := requestFrame_fields code operand
  have hparity : bitParity (requestFrame code operand) = false := bitParity_frameOf ..
  have hcommand : (requestFrame code operand).command = 4#4 := frameOf_command ..
  simp [decodeFrame, hparity, hcommand, hcode, hoperand, h]

theorem decode_of_parity {f : Frame} (h : bitParity f = true) : decodeFrame p readAt writeAt f = .badframe p f.command :=
  if_pos h

theorem requestRow_unknown {code operand : BitVec 5} (h : 13 < code.toNat) : requestRow p code operand = none := by
  unfold requestRow
  split <;> first | omega | rfl

theorem decode_unknown {f : Frame} (h : 4 < f.command.toNat ∨ f.command = 4#4 ∧ 13 < f.requestCode.toNat) :
    decodeFrame p readAt writeAt f = .badframe p f.command := by
  unfold decodeFrame
  split_ifs
  · rfl
  · obtain h | ⟨hc, hn⟩ := h
    · split <;> first | omega | rfl
    · simp [hc, requestRow_unknown p hn]

/-- The frame of a bad command: its parity bit turned over, and its command echoed. -/
theorem badFrame_fields (c : BitVec 4) (a : Address) (w : Word) : bitParity (frameOf c false a w ^^^ 1#32) = true ∧
    Frame.command (frameOf c false a w ^^^ 1#32) = c := by
  constructor
  · rw [bitParity_xor, bitParity_frameOf]
    decide
  · refine Eq.trans ?_ (frameOf_command c false a w)
    refine BitVec.eq_of_getLsbD_eq fun i hi => ?_
    simp only [Frame.command, BitVec.getLsbD_extractLsb', BitVec.getLsbD_xor]
    have hone : (1#32).getLsbD (28 + i) = false := by
      simp
    rw [hone, Bool.xor_false]

end

/-- The parity of the frame that a controller sends for a command. -/
theorem encodeFrame_parity {i : Instr} {f : Frame} (h : encodeFrame i = some f) (hb : ∀ p echoed, i ≠ .badframe p echoed) :
    bitParity f = false := by
  cases i <;> cases h
  case badframe p e => exact absurd rfl (hb p e)
  all_goals exact bitParity_frameOf ..

theorem decode_encode {i : Instr} {p : Port} {f : Frame} {readAt writeAt : Address} (h : encodeFrame i = some f)
    (hp : i.port = some p) (hr : ∀ advance, IsRead i p advance → i = readRow p readAt advance)
    (hw : ∀ advance word, IsWrite i p advance word → i = writeRow p writeAt advance word) :
    decodeFrame p readAt writeAt f = i := by
  cases i <;> cases h <;> cases hp
  case badframe e =>
    obtain ⟨hparity, hcommand⟩ := badFrame_fields e 0#10 0#16
    rw [decode_of_parity _ _ _ hparity, hcommand]
  case poll => exact decode_poll ..
  case cursor => exact decode_cursor ..
  case write => exact (decode_write ..).trans (hw _ _ (by simp [IsWrite])).symm
  case reportWordWrite => exact (decode_write ..).trans (hw _ _ (by simp [IsWrite])).symm
  case stagedSettingWrite => exact (decode_write ..).trans (hw _ _ (by simp [IsWrite])).symm
  case dumpRangeRecordWrite => exact (decode_write ..).trans (hw _ _ (by simp [IsWrite])).symm
  case capture => exact (decode_read ..).trans (hr _ (by simp [IsRead])).symm
  case counterCapture => exact (decode_read ..).trans (hr _ (by simp [IsRead])).symm
  case latchCapture => exact (decode_read ..).trans (hr _ (by simp [IsRead])).symm
  case noticeCapture => exact (decode_read ..).trans (hr _ (by simp [IsRead])).symm
  case wearStatusCapture => exact (decode_read ..).trans (hr _ (by simp [IsRead])).symm
  case dumpStreamRead => exact (decode_read ..).trans (hr _ (by simp [IsRead])).symm
  all_goals exact decode_request _ _ _ rfl

/-- Settles O22: each frame by its command and its request code. -/
theorem frameRoundTrip : Obligations.FrameRoundTrip := by
  refine ⟨fun i p f readAt writeAt h hp hr hw => ⟨decode_encode h hp hr hw, fun hb => encodeFrame_parity h ?_⟩,
    fun p f readAt writeAt h => ?_, fun p echoed s hrun => ⟨_, rfl, exchange_same hrun p echoed ⟨.badframe, 0#16⟩⟩,
    bitParity_response⟩
  · rintro q echoed rfl
    cases hp
    exact hb echoed rfl
  · obtain h | h := h
    · exact decode_of_parity p readAt writeAt h
    · exact decode_unknown p readAt writeAt h

end Sys2Proof.Machine
end

section
/-! PROOFS. The fields of a report: their values, the clamped-field set, and the envelope with a report taken (R20, R22, R28). -/

namespace Sys2Proof.Machine

variable {s t u v : State}

/-! ### The clamped-field set (R28) -/

/-- A flag stands at its place and past the list there is none. -/
theorem flagBits_bit (l : List Bool) (k : Nat) {j : Nat} (hj : j < 6) :
    (flagBits l k).getLsbD j = (decide (k ≤ j) && l.getD (j - k) false) := by
  induction l generalizing k with
  | nil => simp [flagBits]
  | cons b l ih =>
    have hbit : (if b then 1#6 <<< k else 0#6).getLsbD j = (b && decide (j = k)) := by
      cases b with
      | false => simp
      | true =>
        simp only [if_true, BitVec.getLsbD_shiftLeft, BitVec.getLsbD_one, hj, decide_true, Bool.true_and]
        rw [Bool.eq_iff_iff]
        simp
        omega
    rw [flagBits, BitVec.getLsbD_or, hbit, ih]
    rcases lt_trichotomy j k with h | rfl | h
    · have hle : ¬ k ≤ j := by omega
      have hsucc : ¬ k + 1 ≤ j := by omega
      simp [hle, hsucc, h.ne]
    · simp
    · have hle : k ≤ j := h.le
      have hsub : j - k = (j - (k + 1)) + 1 := by omega
      have hsucc : k + 1 ≤ j := h
      simp [hle, hsub, hsucc, h.ne']

theorem clampedSet_bit {r : Role} {words : List Word} {f : ReportField} {k : Nat} {w : Word}
    (hf : (reportFields r)[k]? = some f) (hw : words[k]? = some w) : (clampedSet r words).getLsbD k = f.clamps w := by
  have hk : k < 6 := by
    obtain ⟨hlt, -⟩ := List.getElem?_eq_some_iff.mp hf
    have : (reportFields r).length ≤ 6 := by cases r <;> decide
    omega
  have hget : ((reportFields r).zipWith ReportField.clamps words)[k]? = some (f.clamps w) :=
    List.getElem?_zipWith_eq_some.mpr ⟨f, w, hf, hw, rfl⟩
  rw [clampedSet, flagBits_bit _ _ hk, Nat.sub_zero, List.getD_eq_getElem?_getD, hget]
  simp

theorem clampedSet_beyond {r : Role} (words : List Word) {k : Nat} (h : reportLength r ≤ k) :
    (clampedSet r words).getLsbD k = false := by
  by_cases hk : k < 6
  · have hnone : ((reportFields r).zipWith ReportField.clamps words)[k]? = none := by
      rw [List.getElem?_eq_none_iff, List.length_zipWith]
      exact Nat.min_le_left _ _ |>.trans h
    rw [clampedSet, flagBits_bit _ _ hk, Nat.sub_zero, List.getD_eq_getElem?_getD, hnone]
    simp
  · exact BitVec.getLsbD_of_ge _ _ (Nat.not_lt.mp hk)

/-! ### The values of a report's fields (R22) -/

theorem numericField_get {r : Role} {k : Nat} {lo hi : Int} (h : (r, k, lo, hi) ∈ numericFields) :
    (reportFields r)[k]? = some (.numeric lo hi) ∧ lo ≤ hi := by
  have hall : ∀ x ∈ numericFields, (reportFields x.1)[x.2.1]? = some (.numeric x.2.2.1 x.2.2.2) ∧ x.2.2.1 ≤ x.2.2.2 := by
    decide
  exact hall _ h

theorem reportValues_get {r : Role} {words : List Word} {f : ReportField} {k : Nat} {w : Word}
    (hf : (reportFields r)[k]? = some f) (hw : words[k]? = some w) : (reportValues r words)[k]? = some (f.value w) :=
  List.getElem?_zipWith_eq_some.mpr ⟨f, w, hf, hw, rfl⟩

theorem clampInt_below {x lo hi : Int} (h : x < lo) : clampInt x lo hi = lo := by
  rw [clampInt]
  omega

theorem clampInt_above {x lo hi : Int} (h : hi < x) (hle : lo ≤ hi) : clampInt x lo hi = hi := by
  rw [clampInt]
  omega

theorem clampInt_within {x lo hi : Int} (h : lo ≤ x) (h' : x ≤ hi) : clampInt x lo hi = x := by
  rw [clampInt]
  omega

theorem clamps_numeric_iff {lo hi : Int} (w : Word) (hle : lo ≤ hi) :
    (ReportField.numeric lo hi).clamps w = true ↔ w.toInt < lo ∨ hi < w.toInt := by
  rw [ReportField.clamps, bne_iff_ne]
  constructor
  · intro hne
    by_contra hno
    rw [not_or, Int.not_lt, Int.not_lt] at hno
    exact hne (clampInt_within hno.1 hno.2).symm
  · rintro (h | h)
    · rw [clampInt_below h]
      omega
    · rw [clampInt_above h hle]
      omega

/-! ### The envelope with a report taken (R28) -/

theorem withReport_book (e : Envelope) (r : Role) (values : List Int) : (e.withReport r values).book = e.book := by
  cases r <;> rfl

theorem withReport_codes (e : Envelope) (x0 x1 x2 x3 x4 : Int) :
    (∀ d ∈ [((0 : Int), Direction.neutral), (1, .forward), (2, .reverse)],
      ∀ o ∈ [((0 : Int), DoorState.closed), (1, .opened), (2, .unknown)], ∀ z ∈ [((0 : Int), false), (1, true)],
      e.withReport .vehicle [x0, x1, d.1, o.1, z.1, x2] = { e with vehicle := ⟨x0, x1, d.2, o.2, z.2, x2⟩ }) ∧
    (∀ g ∈ [((0 : Int), GensetState.off), (1, .cranking), (2, .warmup), (3, .ready), (4, .cooldown), (5, .fault)],
      e.withReport .genset [g.1, x0, x1, x2] = { e with genset := ⟨g.2, x0, x1, x2⟩ }) ∧
    e.withReport .storage [x0, x1, x2, x3, x4] = { e with storage := ⟨x0, x1, x2, x3, x4⟩ } ∧
    e.withReport .traction [x0, x1, x2] = { e with traction := ⟨x0, x1, x2⟩ } ∧
    ∀ b ∈ [((0 : Int), false), (1, true)],
      e.withReport .brake [x0, x1, b.1, x2, x3, x4] = { e with brake := ⟨x0, x1, b.2, x2, x3, x4⟩ } := by
  have hdirection : ∀ d ∈ [((0 : Int), Direction.neutral), (1, .forward), (2, .reverse)], directionOf d.1 = d.2 := by
    decide
  have hdoor : ∀ o ∈ [((0 : Int), DoorState.closed), (1, .opened), (2, .unknown)], doorOf o.1 = o.2 := by decide
  have hflag : ∀ z ∈ [((0 : Int), false), (1, true)], decide (z.1 = 1) = z.2 := by decide
  have hgenset : ∀ g ∈ [((0 : Int), GensetState.off), (1, .cranking), (2, .warmup), (3, .ready), (4, .cooldown), (5, .fault)],
      gensetStateOf g.1 = g.2 := by decide
  refine ⟨fun d hd o ho z hz => ?_, fun g hg => ?_, rfl, rfl, fun b hb => ?_⟩
  · rw [← hdirection d hd, ← hdoor o ho, ← hflag z hz]
    rfl
  · rw [← hgenset g hg]
    rfl
  · rw [← hflag b hb]
    rfl

theorem reportFields_read (r : Role) (words : List Word) :
    (∀ k lo hi w, (r, k, lo, hi) ∈ numericFields → words[k]? = some w →
      (w.toInt < lo → (reportValues r words)[k]? = some lo) ∧
      (hi < w.toInt → (reportValues r words)[k]? = some hi) ∧
      (lo ≤ w.toInt → w.toInt ≤ hi → (reportValues r words)[k]? = some w.toInt) ∧
      ((clampedSet r words).getLsbD k = true ↔ w.toInt < lo ∨ hi < w.toInt)) ∧
    (∀ k last w, (r, k, last) ∈ enumerationFields → words[k]? = some w →
      (reportValues r words)[k]? = some (w.toNat : Int) ∧ (clampedSet r words).getLsbD k = false) ∧
    ∀ k, reportLength r ≤ k → (clampedSet r words).getLsbD k = false := by
  refine ⟨fun k lo hi w hmem hw => ?_, fun k last w hmem hw => ?_, fun k => clampedSet_beyond words⟩
  · obtain ⟨hf, hle⟩ := numericField_get hmem
    rw [reportValues_get hf hw, clampedSet_bit hf hw]
    exact ⟨fun h => congrArg some (clampInt_below h), fun h => congrArg some (clampInt_above h hle),
      fun h h' => congrArg some (clampInt_within h h'), clamps_numeric_iff w hle⟩
  · have hf := (enumerationField_iff r k last).mp hmem
    exact ⟨reportValues_get hf hw, clampedSet_bit hf hw⟩

end Sys2Proof.Machine
end

section
/-! PROOFS. What an operation brings besides its own values: causes, notices, port fields and blocks, put together from the
parts of a commit (R28, R29). -/

namespace Sys2Proof.Machine

variable {s t u v : State}

/-! ### What an operation brings -/

/-- What an operation leaves alone but for the named causes, kinds of notice, port fields and blocks, its causes told. -/
structure State.Brings (causes : List Cause) (kinds : List NoticeKind) (fields : List PortField) (blocks : List Block)
    (s t : State) : Prop where
  told : s.CausesTold t
  apart : ∀ c, c ∉ causes → t.causeActive c = s.causeActive c
  cut : t.cut = { s.cut with live := t.cut.live, slipTimer := t.cut.slipTimer }
  within : State.NoticesWithin kinds s t
  port : ∀ q, PortChanges fields s t q
  blocks : Changes blocks s t

section
variable {causes causes' : List Cause} {kinds kinds' : List NoticeKind} {fields fields' : List PortField}
  {blocks blocks' : List Block}

theorem State.Brings.mono (h : State.Brings causes kinds fields blocks s t) (hc : causes ⊆ causes') (hk : kinds ⊆ kinds')
    (hf : fields ⊆ fields') (hb : blocks ⊆ blocks') : State.Brings causes' kinds' fields' blocks' s t :=
  ⟨h.told, fun c hn => h.apart c fun hm => hn (hc hm), h.cut, noticesWithin_mono h.within hk,
    fun q => portChanges_mono (h.port q) hf, changes_mono h.blocks hb⟩

theorem State.Brings.trans (h : State.Brings causes kinds fields blocks s t)
    (g : State.Brings causes' kinds fields blocks t u) (hd : ∀ c ∈ causes, c ∉ causes') :
    State.Brings (causes ++ causes') kinds fields blocks s u where
  told := h.told.trans g.told fun c => by
    by_cases hc : c ∈ causes
    · exact .inr (g.apart c (hd c hc))
    · exact .inl (h.apart c hc)
  apart c hc := by
    rw [List.mem_append, not_or] at hc
    rw [g.apart c hc.2, h.apart c hc.1]
  cut := by
    rw [g.cut, h.cut]
  within := noticesWithin_trans h.within g.within
  port q := portChanges_trans (h.port q) (g.port q)
  blocks := changes_trans h.blocks g.blocks

end

theorem brings_refl (s : State) : State.Brings [] [] [] [] s s :=
  ⟨causesTold_refl s, fun _ _ => rfl, rfl, noticesWithin_refl s _, fun _ => portChanges_of_ports _ rfl, changes_refl _⟩

/-- Operations that leave the causes, the slip timer and the ports alone. -/
theorem brings_of_blocks {blocks : List Block} (hb : Changes blocks s t) (hcut : t.cut = s.cut) (hp : t.ports = s.ports) :
    State.Brings [] [] [] blocks s t := by
  refine ⟨State.SameCauses.told ⟨by rw [hcut], fun p => ?_⟩, fun c _ => causeActive_of_cut (by rw [hcut]) c, by rw [hcut],
    fun p k => ?_, fun q => portChanges_of_ports _ (by rw [hp]), hb⟩
  · rw [hp]
    exact ⟨rfl, rfl⟩
  · rw [hp]
    exact ⟨id, fun _ => rfl⟩

theorem brings_clear (s : State) (c : Cause) : State.Brings [c] [.cutbackChange] [.notices] [.cutback, .ports] s (s.clear c) :=
  ⟨clear_causesTold s c, fun d hd => by simp [List.mem_singleton.not.mp hd], by simp,
    clear_noticesWithin (s := s) (u := s) rfl c, clear_portChanges s c, clear_changes s c⟩

theorem raise_soft_changes {c : Cause} (h : c.hard = false) : Changes [.cutback, .recorder, .ports] s (s.raise c) := by
  intro b hb
  cases b <;> simp [Block.Same, h] at hb ⊢

theorem brings_raise (s : State) {c : Cause} (h : c.hard = false) :
    State.Brings [c] [.cutbackChange, .snapshotComplete, .triggerMissed] [.notices, .missed, .latch]
      [.cutback, .recorder, .ports] s (s.raise c) :=
  ⟨raise_causesTold s c, fun d hd => by simp [List.mem_singleton.not.mp hd], by simp, raise_noticesWithin s c,
    raise_portChanges s c, raise_soft_changes h⟩

theorem brings_setCause_untriggered (s : State) {c : Cause} (b : Bool) (hh : c.hard = false)
    (h : c.historyTrigger = none) :
    State.Brings [c] [.cutbackChange] [.notices, .latch] [.cutback, .ports] s (s.setCause c b) := by
  cases b with
  | false => exact (brings_clear s c).mono (List.Subset.refl _) (List.Subset.refl _) (by simp) (by simp)
  | true =>
    refine ⟨raise_causesTold s c, fun d hd => ?_, ?_, raise_noticesWithin_untriggered s h, fun q f hf => ?_, fun b hb => ?_⟩
    · simp [State.setCause, List.mem_singleton.not.mp hd]
    · simp [State.setCause]
    · cases hm : f with
      | missed => exact raise_missed_untriggered s h q
      | _ =>
        subst hm
        simp [PortField.Same, State.setCause] at hf ⊢
    · cases b <;> simp [Block.Same, State.setCause, hh, h] at hb ⊢

theorem brings_noticeAll (s : State) (k : NoticeKind) (h : k ≠ .cutbackChange) :
    State.Brings [] [k] [.notices] [.ports] s (s.noticeAll k) := by
  refine ⟨State.SameCauses.told ⟨by simp, fun p => ⟨by simp, by simp [h.symm]⟩⟩,
    fun c _ => causeActive_of_cut (by simp) c, by simp, fun p j => ⟨fun hj => by simp [hj], fun hj => ?_⟩,
    fun q f hf => ?_, fun b hb => ?_⟩
  · simp [List.mem_singleton.not.mp hj]
  · cases f <;> simp [PortField.Same] at hf ⊢
  · cases b <;> simp [Block.Same] at hb ⊢

theorem brings_trigger (s : State) (c : TriggerCause) :
    State.Brings [] [.snapshotComplete, .triggerMissed] [.notices, .missed] [.recorder, .ports] s (s.trigger c) :=
  ⟨(trigger_sameCauses s c (triggerTells_ne s c (by decide) (by decide))).told, fun d _ => by simp, by simp,
    trigger_noticesWithin s c, trigger_portChanges s c, trigger_changes s c⟩

theorem brings_returnLevel (s : State) : State.Brings [] [] [] [.recorder] s s.returnLevel := by
  refine brings_of_blocks (fun b hb => ?_) (by simp) (by simp [returnLevel_eq])
  cases b <;> simp [Block.Same] at hb ⊢

theorem brings_worsenCodes (s : State) : State.Brings [] [] [.codes] [.ports] s s.worsenCodes := by
  refine ⟨State.SameCauses.told ⟨by simp, fun p => ⟨by simp, by simp [PortState.hasNotice]⟩⟩, fun c _ => by simp, by simp,
    fun p k => ⟨fun h => ?_, fun _ => ?_⟩, fun q f hf => ?_, fun b hb => ?_⟩
  · simpa [PortState.hasNotice] using h
  · simp [PortState.hasNotice]
  · cases f <;> simp [PortField.Same] at hf ⊢
  · cases b <;> simp [Block.Same] at hb ⊢

theorem brings_recomputeLevels (s : State) :
    State.Brings [.wearStoreFault] [.wearLevel, .cutbackChange, .storeFault, .snapshotComplete, .triggerMissed]
      [.notices, .missed, .latch, .codes] [.wear, .store, .recorder, .cutback, .ports] s s.recomputeLevels := by
  have h := recomputeLevels_formed s
  refine ⟨h.causes, fun c hc => h.others c (List.mem_singleton.not.mp hc), ?_, h.within, h.port, h.blocks⟩
  rw [h.cut]

end Sys2Proof.Machine
end

section
/-! PROOFS. The entry that a commit writes, and a VEHICLE commit handed on (R28, R29, R49, R50, R116, R117, R165). -/

namespace Sys2Proof.Machine

variable {s t u v : State} {r : Role} {values : List Int} {clamped : BitVec 6}

/-! ### The entry written (R28) -/

/-- The entry written and the cause of a stale link ended. -/
def State.entered (s : State) (r : Role) (values : List Int) (clamped : BitVec 6) : State :=
  if s.stale r then (s.writeEntry r values clamped).clear (linkCause r) else s.writeEntry r values clamped

theorem commit_eq (s : State) (r : Role) (values : List Int) (clamped : BitVec 6) : s.commit r values clamped =
    ((s.entered r values clamped).handOn r s.env (s.deltaT r)).worsenCodes := rfl

@[simp] theorem entered_untouched :
    (s.entered r values clamped).powered = s.powered ∧ (s.entered r values clamped).resetAsserted = s.resetAsserted ∧
    (s.entered r values clamped).now = s.now ∧ (s.entered r values clamped).freeCount = s.freeCount ∧
    (s.entered r values clamped).rc = s.rc ∧
    (s.entered r values clamped).env = (s.writeEntry r values clamped).env ∧
    (s.entered r values clamped).split = s.split ∧ (s.entered r values clamped).gen = s.gen ∧
    (s.entered r values clamped).wear = s.wear ∧ (s.entered r values clamped).store = s.store ∧
    (s.entered r values clamped).rcd = s.rcd ∧ (s.entered r values clamped).pending = s.pending := by
  unfold State.entered
  split_ifs <;> simp [State.writeEntry]

theorem entered_causeActive (c : Cause) : (s.entered r values clamped).causeActive c =
    (s.causeActive c && !(decide (c = linkCause r) && s.stale r)) := by
  have hentry : (s.writeEntry r values clamped).causeActive c = s.causeActive c := rfl
  unfold State.entered
  split_ifs with h
  · rw [clear_causeActive, hentry, h]
    by_cases hc : c = linkCause r <;> simp [hc]
  · rw [hentry]
    simp [h]

theorem brings_entered (s : State) (r : Role) (values : List Int) (clamped : BitVec 6) :
    State.Brings [linkCause r] [.cutbackChange] [.notices] [.envelope, .cutback, .ports] s (s.entered r values clamped) := by
  have hentry : State.Brings [] [] [] [.envelope] s (s.writeEntry r values clamped) :=
    brings_of_blocks (fun b hb => by cases b <;> simp [Block.Same, State.writeEntry] at hb ⊢) rfl rfl
  have hentry' : State.Brings [] [.cutbackChange] [.notices] [.envelope, .cutback, .ports] s
      (s.writeEntry r values clamped) := hentry.mono (by simp) (by simp) (by simp) (by simp)
  unfold State.entered
  split_ifs
  · exact hentry'.trans ((brings_clear _ _).mono (List.Subset.refl _) (by simp) (by simp) (by simp)) nofun
  · exact hentry'.mono (by simp) (by simp) (by simp) (by simp)

theorem entered_slipTimer : (s.entered r values clamped).cut.slipTimer = s.cut.slipTimer := by
  unfold State.entered
  split_ifs <;> simp [State.writeEntry]

/-- Notices of other kinds than the causes' stand with an entry. -/
theorem entered_hasNotice {k : NoticeKind} (hk : k ≠ .cutbackChange) (p : Port) :
    ((s.entered r values clamped).ports.get p).hasNotice k = (s.ports.get p).hasNotice k :=
  ((brings_entered s r values clamped).within p k).2 (List.mem_singleton.not.mpr hk)

theorem entered_recordedAs (s : State) (r : Role) (values : List Int) (clamped : BitVec 6) :
    s.RecordedAs (s.entered r values clamped) :=
  ⟨by simp, fun p => ⟨(brings_entered s r values clamped).port p .missed (by simp), entered_hasNotice (by decide) p,
    entered_hasNotice (by decide) p⟩⟩

theorem entered_sameLevels (s : State) (r : Role) (values : List Int) (clamped : BitVec 6) :
    s.SameLevels (s.entered r values clamped) :=
  ⟨fun i => by simp, by simp, by simp,
    (brings_entered s r values clamped).apart _ (by cases r <;> decide),
    fun p => ⟨entered_hasNotice (by decide) p, entered_hasNotice (by decide) p⟩⟩

/-! ### The zone rule at a commit (R49, R116, R117) -/

theorem settleZoneBreach_stopped (hm : s.gen.mgr = .off ∨ s.gen.mgr = .stopRequested) (hz : s.env.vehicle.zone = true) :
    s.settleZoneBreach = s := by
  rw [State.settleZoneBreach, if_pos hz, if_neg]
  obtain h | h := hm <;> simp [h]

theorem settleZoneBreach_running (hm : s.gen.mgr = .startRequested ∨ s.gen.mgr = .run) (hz : s.env.vehicle.zone = true) :
    s.settleZoneBreach = s.raiseZoneBreach := by
  rw [State.settleZoneBreach, if_pos hz, if_pos hm]

theorem zoneAtCommit_left (hz : s.env.vehicle.zone = false) : s.zoneAtCommit = s.clear .zoneBreach := by
  simp [State.zoneAtCommit, hz, State.settleZoneBreach]

theorem zoneAtCommit_stopped (hz : s.env.vehicle.zone = true) (hm : s.gen.mgr = .off ∨ s.gen.mgr = .stopRequested) :
    s.zoneAtCommit = s := by
  have hsettle := settleZoneBreach_stopped hm hz
  obtain h | h := hm <;> simp [State.zoneAtCommit, hz, h, hsettle]

/-- The zone rule stops the genset, and in OFF or STOP_REQUESTED there is no breach. -/
theorem zoneAtCommit_stops (hz : s.env.vehicle.zone = true)
    (hm : s.gen.mgr = .startRequested ∨ s.gen.mgr = .run ∨ s.gen.mgr = .absorb) (hs : s.zoneStops = true) :
    s.zoneAtCommit = s.sendStop := by
  have hsettle : s.sendStop.settleZoneBreach = s.sendStop :=
    settleZoneBreach_stopped sendStop_mgr (by simpa using hz)
  obtain h | h | h := hm <;> simp [State.zoneAtCommit, hz, h, hs, hsettle]

/-- ABSORB left for RUN, the setpoint 0 (R116). -/
def State.absorbLeft (s : State) : State := s.setGen { s.gen with mgr := .run, setpoint := 0, absExit := none }

/-- The state in which a breach is settled when the zone rule does not stop the genset. -/
def State.zoneHeld (s : State) : State := if s.gen.mgr = .absorb then s.absorbLeft else s

theorem zoneAtCommit_breach (hz : s.env.vehicle.zone = true)
    (hm : s.gen.mgr = .startRequested ∨ s.gen.mgr = .run ∨ s.gen.mgr = .absorb) (hs : s.zoneStops = false) :
    s.zoneAtCommit = s.zoneHeld.raiseZoneBreach := by
  obtain h | h | h := hm
  · have hsettle := settleZoneBreach_running (.inl h) hz
    simp [State.zoneAtCommit, hz, h, hs, hsettle, State.zoneHeld]
  · have hsettle := settleZoneBreach_running (.inr h) hz
    simp [State.zoneAtCommit, hz, h, hs, hsettle, State.zoneHeld]
  · have hsettle : s.absorbLeft.settleZoneBreach = s.absorbLeft.raiseZoneBreach :=
      settleZoneBreach_running (.inr rfl) hz
    have hleft : s.leaveAbsorb.setGen { s.leaveAbsorb.gen with setpoint := 0 } = s.absorbLeft := rfl
    simp [State.zoneAtCommit, hz, h, hs, State.zoneHeld, hleft, hsettle]

theorem zoneHeld_eq (s : State) : s.zoneHeld = s.setGen s.zoneHeld.gen := by
  unfold State.zoneHeld
  split_ifs <;> rfl

/-! ### What the zone rule brings -/

theorem changes_setGen (s : State) (g : Genset) : Changes [.genset] s (s.setGen g) := by
  intro b hb
  cases b <;> simp [Block.Same] at hb ⊢

theorem brings_setGen (s : State) (g : Genset) : State.Brings [] [] [] [.genset] s (s.setGen g) :=
  brings_of_blocks (changes_setGen s g) rfl rfl

theorem brings_enterOff (s : State) :
    State.Brings [.zoneBreach] [.cutbackChange] [.notices] [.genset, .cutback, .ports] s s.enterOff := by
  have hset := (brings_setGen s { s.gen with
    mgr := .off, setpoint := 0, minRun := none, start := none, absExit := none
    minOff := some (s.now + s.rc.applied.tMinOff * 1000) }).mono (kinds' := [.cutbackChange]) (fields' := [.notices])
      (blocks' := [.genset, .cutback, .ports]) (List.Subset.refl _) (by simp) (by simp) (by simp)
  exact hset.trans ((brings_clear _ .zoneBreach).mono (List.Subset.refl _) (by simp) (by simp) (by simp)) nofun

theorem brings_sendStop (s : State) :
    State.Brings [.zoneBreach] [.cutbackChange] [.notices] [.genset, .cutback, .ports] s s.sendStop := by
  unfold State.sendStop
  split_ifs
  · exact brings_enterOff s
  · exact (brings_setGen s _).mono (by simp) (by simp) (by simp) (by simp)

theorem brings_raiseZoneBreach (s : State) : State.Brings [.zoneBreach] [.cutbackChange, .zoneBreach] [.notices, .latch]
    [.cutback, .ports] s s.raiseZoneBreach := by
  unfold State.raiseZoneBreach
  split_ifs
  · exact (brings_refl s).mono (by simp) (by simp) (by simp) (by simp)
  · exact ((brings_setCause_untriggered s (c := .zoneBreach) true rfl rfl).mono (List.Subset.refl _)
      (kinds' := [.cutbackChange, .zoneBreach]) (by simp) (by simp) (by simp)).trans
      ((brings_noticeAll _ .zoneBreach (by decide)).mono (List.Subset.refl _) (by simp) (by simp) (by simp)) nofun

theorem brings_zoneAtCommit (s : State) : State.Brings [.zoneBreach] [.cutbackChange, .zoneBreach] [.notices, .latch]
    [.genset, .cutback, .ports] s s.zoneAtCommit := by
  cases hz : s.env.vehicle.zone with
  | false =>
    rw [zoneAtCommit_left hz]
    exact (brings_clear s _).mono (by simp) (by simp) (by simp) (by simp)
  | true =>
    by_cases hm : s.gen.mgr = .off ∨ s.gen.mgr = .stopRequested
    · rw [zoneAtCommit_stopped hz hm]
      exact (brings_refl s).mono (by simp) (by simp) (by simp) (by simp)
    · have hruns : s.gen.mgr = .startRequested ∨ s.gen.mgr = .run ∨ s.gen.mgr = .absorb := by
        cases h : s.gen.mgr <;> simp [h] at hm ⊢
      cases hs : s.zoneStops with
      | true =>
        rw [zoneAtCommit_stops hz hruns hs]
        exact (brings_sendStop s).mono (by simp) (by simp) (by simp) (by simp)
      | false =>
        rw [zoneAtCommit_breach hz hruns hs, zoneHeld_eq]
        exact ((brings_setGen s _).mono (List.Subset.refl _) (kinds' := [.cutbackChange, .zoneBreach])
          (fields' := [.notices, .latch]) (blocks' := [.genset, .cutback, .ports]) (by simp) (by simp) (by simp)).trans
          ((brings_raiseZoneBreach _).mono (List.Subset.refl _) (by simp) (by simp) (by simp)) nofun

/-! ### A VEHICLE commit handed on (R29, R50, R165) -/

/-- The door read, and a drive command returning the sampling level. -/
def State.driverRead (s : State) : State := if 0 < s.readDoor.env.vehicle.tDrv then s.readDoor.returnLevel else s.readDoor

theorem vehicleCommitted_eq (s : State) : s.vehicleCommitted = s.driverRead.zoneAtCommit := rfl

theorem readDoor_kept (s : State) : s.readDoor.gen = s.gen ∧ s.readDoor.rcd = s.rcd := by
  have h := (brings_setCause_untriggered s (c := .doorInterlock) (s.env.vehicle.door ≠ .closed) rfl rfl).blocks
  exact ⟨h .genset (by simp), h .recorder (by simp)⟩

@[simp] theorem driverRead_untouched (s : State) :
    s.driverRead.now = s.now ∧ s.driverRead.rc = s.rc ∧ s.driverRead.env = s.env ∧ s.driverRead.gen = s.gen := by
  unfold State.driverRead
  split_ifs <;> simp

theorem brings_driverRead (s : State) : State.Brings [.doorInterlock] [.cutbackChange] [.notices, .latch]
    [.cutback, .recorder, .ports] s s.driverRead := by
  have hdoor : State.Brings [.doorInterlock] [.cutbackChange] [.notices, .latch] [.cutback, .recorder, .ports] s
      s.readDoor := (brings_setCause_untriggered s (c := .doorInterlock) _ rfl rfl).mono (List.Subset.refl _)
        (List.Subset.refl _) (List.Subset.refl _) (by simp)
  unfold State.driverRead
  split_ifs
  · exact (hdoor.trans ((brings_returnLevel _).mono (List.Subset.refl _) (by simp) (by simp) (by simp)) (by simp)).mono
      (by simp) (List.Subset.refl _) (List.Subset.refl _) (List.Subset.refl _)
  · exact hdoor

theorem driverRead_door (s : State) : s.driverRead.causeActive .doorInterlock = true ↔ s.env.vehicle.door ≠ .closed := by
  have hdoor : s.driverRead.causeActive .doorInterlock = s.readDoor.causeActive .doorInterlock := by
    unfold State.driverRead
    split_ifs <;> simp
  rw [hdoor]
  simp [State.readDoor]

theorem driverRead_rcd (s : State) : s.driverRead.rcd =
    if 0 < s.env.vehicle.tDrv then s.rcd.returned s.now else s.rcd := by
  obtain ⟨-, hrcd⟩ := readDoor_kept s
  have hnow : s.readDoor.now = s.now := by simp
  have henv : s.readDoor.env = s.env := by simp
  unfold State.driverRead
  rw [henv]
  split_ifs
  · rw [returnLevel_eq, setRcd_rcd, hrcd, hnow]
  · exact hrcd

end Sys2Proof.Machine
end

section
/-! PROOFS. What an operation leaves of the levels and of the recorder, slip, wear and heat at a commit (R51, R52, R130, R133,
R135 to R139, R166). -/

namespace Sys2Proof.Machine

variable {s t u v : State}

/-! ### What an operation leaves of the levels and of the recorder -/

section
variable {causes : List Cause} {kinds : List NoticeKind} {fields : List PortField} {blocks : List Block}

theorem State.Brings.sameLevels (h : State.Brings causes kinds fields blocks s t) (hc : .wearStoreFault ∉ causes)
    (hk : .wearLevel ∉ kinds ∧ .storeFault ∉ kinds) (hb : .store ∉ blocks ∧ .clock ∉ blocks)
    (hi : ∀ i, (t.wear.items.get i).level = (s.wear.items.get i).level) : s.SameLevels t :=
  ⟨hi, h.blocks .store hb.1, h.blocks .clock hb.2, h.apart _ hc,
    fun p => ⟨(h.within p _).2 hk.1, (h.within p _).2 hk.2⟩⟩

theorem State.Brings.markedAs (h : State.Brings causes kinds fields blocks s t)
    (hk : .snapshotComplete ∉ kinds ∧ .triggerMissed ∉ kinds) (hf : .missed ∉ fields) : s.MarkedAs t := fun p =>
  ⟨h.port p .missed hf, (h.within p _).2 hk.1, (h.within p _).2 hk.2⟩

theorem State.Brings.recordedAs (h : State.Brings causes kinds fields blocks s t)
    (hk : .snapshotComplete ∉ kinds ∧ .triggerMissed ∉ kinds) (hf : .missed ∉ fields) (hb : .recorder ∉ blocks) :
    s.RecordedAs t := ⟨h.blocks .recorder hb, h.markedAs hk hf⟩

end

theorem changes_setWear (s : State) (w : Wear) : Changes [.wear] s (s.setWear w) := by
  intro b hb
  cases b <;> simp [Block.Same] at hb ⊢

theorem brings_setWear (s : State) (w : Wear) : State.Brings [] [] [] [.wear] s (s.setWear w) :=
  brings_of_blocks (changes_setWear s w) rfl rfl

theorem fired_append (s : State) (l m : List TriggerCause) : s.fired (l ++ m) = (s.fired l).fired m := List.foldl_append

theorem fired_untouched (s : State) (l : List TriggerCause) : (s.fired l).now = s.now ∧ (s.fired l).rc = s.rc := by
  induction l generalizing s with
  | nil => exact ⟨rfl, rfl⟩
  | cons c l ih =>
    obtain ⟨hnow, hrc⟩ := ih (s.trigger c)
    exact ⟨hnow.trans (by simp), hrc.trans (by simp)⟩

/-- Triggers fired in a state that the recorder cannot tell from another. -/
theorem fired_recordedAs (l : List TriggerCause) (h : s.RecordedAs t) (hn : t.now = s.now) (hrc : t.rc = s.rc) :
    (s.fired l).RecordedAs (t.fired l) := by
  induction l generalizing s t with
  | nil => exact h
  | cons c l ih => exact ih (trigger_recordedAs c h hn hrc) (by simpa using hn) (by simpa using hrc)

/-! ### Slip at a BRAKE commit (R51, R52) -/

theorem brings_setSlipTimer (s : State) (x : SlipTimer) : State.Brings [] [] [] [.cutback] s (s.setSlipTimer x) := by
  refine ⟨State.SameCauses.told ⟨rfl, fun _ => ⟨rfl, rfl⟩⟩, fun c _ => rfl, rfl, fun p k => ⟨id, fun _ => rfl⟩,
    fun q => portChanges_of_ports _ rfl, fun b hb => ?_⟩
  cases b <;> simp [Block.Same, State.setSlipTimer] at hb ⊢

theorem brings_readSlip (s : State) : State.Brings [.slip] [.cutbackChange, .snapshotComplete, .triggerMissed]
    [.notices, .missed, .latch] [.cutback, .recorder, .ports] s s.readSlip := by
  unfold State.readSlip
  split_ifs
  · exact (brings_raise s (c := .slip) rfl).trans
      ((brings_setSlipTimer _ _).mono (List.Subset.refl _) (by simp) (by simp) (by simp)) (by simp)
  · exact ((brings_clear s .slip).mono (List.Subset.refl _) (by simp) (by simp) (by simp)).trans
      ((brings_setSlipTimer _ _).mono (List.Subset.refl _) (by simp) (by simp) (by simp)) (by simp)
  · exact (brings_refl s).mono (by simp) (by simp) (by simp) (by simp)

theorem readSlip_slipping (h : s.env.brake.slip = true) : s.readSlip.causeActive .slip = true ∧
    s.readSlip.cut.slipTimer = .running (s.now + s.rc.applied.tSlipHold) := by
  rw [State.readSlip, if_pos h]
  exact ⟨by simp, rfl⟩

theorem readSlip_ended (h : s.env.brake.slip = false) (he : s.cut.slipTimer = .expired) :
    s.readSlip.causeActive .slip = false ∧ (s.causeActive .slip = true → s.readSlip.cut.slipTimer = .idle) := by
  cases ha : s.causeActive .slip with
  | false => simp [State.readSlip, h, ha]
  | true =>
    have heq : s.readSlip = (s.clear .slip).setSlipTimer .idle := by simp [State.readSlip, h, he, ha]
    rw [heq]
    exact ⟨by simp, fun _ => rfl⟩

theorem readSlip_held (h : s.env.brake.slip = false) (he : s.cut.slipTimer ≠ .expired) : s.readSlip = s := by
  simp [State.readSlip, h, he]

/-- A slip that begins fires its trigger, and nothing else at the slip flag does. -/
theorem readSlip_recordedAs {slipped : Bool}
    (h : slipped = true ↔ s.env.brake.slip = true ∧ s.causeActive .slip = false) :
    (s.fired (if slipped then [.slipCut] else [])).RecordedAs s.readSlip := by
  have htimer (x : State) (y : SlipTimer) : x.RecordedAs (x.setSlipTimer y) := ⟨rfl, fun _ => ⟨rfl, rfl, rfl⟩⟩
  have hsame (hno : ¬ (s.env.brake.slip = true ∧ s.causeActive .slip = false)) : s.RecordedAs s.readSlip := by
    unfold State.readSlip
    split_ifs with hs he
    · have ha : s.causeActive .slip = true := by
        rw [← Bool.not_eq_false]
        exact fun hf => hno ⟨hs, hf⟩
      rw [raise_of_active s ha]
      exact htimer s _
    · exact recordedAs_trans ((brings_clear s .slip).recordedAs (by simp) (by simp) (by simp)) (htimer _ _)
    · exact recordedAs_refl s
  cases slipped with
  | true =>
    obtain ⟨hs, ha⟩ := h.mp rfl
    have hraised := raise_recordedAs s ha
    rw [State.readSlip, if_pos hs]
    exact recordedAs_trans hraised (htimer _ _)
  | false => exact hsame fun hc => nomatch h.mpr hc

/-! ### Levels formed anew at a commit (R138, R139, R142) -/

theorem recomputeLevels_fired {risen : Bool} (h : risen = true ↔ s.LevelRises s.recomputeLevels) :
    (s.fired (if risen then [.wearLevel] else [])).RecordedAs s.recomputeLevels := by
  have hformed := recomputeLevels_formed s
  cases risen with
  | true => exact hformed.risen (h.mp rfl)
  | false =>
    have hno : ¬ s.LevelRises s.recomputeLevels := fun hr => nomatch h.mpr hr
    exact (hformed.unrisen hno).1

/-! ### The linings' heat and the friction energy (R124, R130, R133) -/

/-- The linings of a BRAKE commit (R130). -/
def State.heatedLinings (s : State) (dt : Nat) : PerGroup Lining :=
  let up (x : Lining) (pf : Int) := x.updated pf s.env.vehicle.ambient dt s.rc.applied.cHeat s.rc.applied.tau
  ⟨up s.wear.lining.front s.env.brake.pfFront, up s.wear.lining.middle s.env.brake.pfMid,
    up s.wear.lining.rear s.env.brake.pfRear⟩

/-- The linings heated, nothing told yet. -/
def State.lined (s : State) (dt : Nat) : State := s.setWear { s.wear with lining := s.heatedLinings dt }

theorem heatLinings_steady {dt : Nat} (h : (s.heatedLinings dt).map Lining.level = s.wear.lining.map Lining.level) :
    s.heatLinings dt = s.lined dt := if_pos h

theorem heatLinings_changed {dt : Nat} (h : (s.heatedLinings dt).map Lining.level ≠ s.wear.lining.map Lining.level) :
    s.heatLinings dt =
      ((s.lined dt).noticeAll .thermalLevel).setCause .liningCritical (isCritical (s.heatedLinings dt)) := if_neg h

theorem brings_heatLinings (s : State) (dt : Nat) :
    State.Brings [.liningCritical] [.thermalLevel, .cutbackChange] [.notices, .latch] [.wear, .cutback, .ports] s
      (s.heatLinings dt) := by
  have hlined := (brings_setWear s { s.wear with lining := s.heatedLinings dt }).mono
    (kinds' := [.thermalLevel, .cutbackChange]) (fields' := [.notices, .latch]) (blocks' := [.wear, .cutback, .ports])
    (List.Subset.refl _) (by simp) (by simp) (by simp)
  by_cases h : (s.heatedLinings dt).map Lining.level = s.wear.lining.map Lining.level
  · rw [heatLinings_steady h]
    exact hlined.mono (by simp) (by simp) (by simp) (by simp)
  · rw [heatLinings_changed h]
    exact (hlined.trans ((brings_noticeAll (s.lined dt) .thermalLevel (by decide)).mono (List.Subset.refl _) (by simp)
      (by simp) (by simp)) nofun).trans
      ((brings_setCause_untriggered _ _ rfl rfl).mono (List.Subset.refl _) (by simp) (by simp) (by simp)) nofun

@[simp] theorem heatLinings_wear (s : State) (dt : Nat) :
    (s.heatLinings dt).wear = { s.wear with lining := s.heatedLinings dt } := by
  by_cases h : (s.heatedLinings dt).map Lining.level = s.wear.lining.map Lining.level
  · rw [heatLinings_steady h]
    rfl
  · rw [heatLinings_changed h]
    simp [State.lined]

theorem brings_countFriction (s : State) (dt : Nat) : State.Brings [] [] [.counters] [.ports] s (s.countFriction dt) := by
  refine ⟨State.SameCauses.told ⟨rfl, fun p => ?_⟩, fun c _ => rfl, rfl, fun p k => ?_, fun q f hf => ?_, fun b hb => ?_⟩
  · simp [State.countFriction, PortState.hasNotice]
  · simp [State.countFriction, PortState.hasNotice]
  · cases f <;> simp [PortField.Same, State.countFriction] at hf ⊢
  · cases b <;> simp [Block.Same, State.countFriction] at hb ⊢

theorem countFriction_counters (s : State) (dt : Nat) (q : Port) : ((s.countFriction dt).ports.get q).counters =
    { (s.ports.get q).counters with
      fric := (s.ports.get q).counters.fric.add
        (((s.env.brake.pfFront + s.env.brake.pfMid + s.env.brake.pfRear) * dt).tdiv 10) } := by
  simp [State.countFriction]

end Sys2Proof.Machine
end

section
/-! PROOFS. What a commit brings, role by role, and the frame that completes a report (R28, R29). -/

namespace Sys2Proof.Machine

variable {s t u v : State} {i : Instr} {p : Port} {advance : Bool} {w : Word} {r : Role} {values : List Int}
  {clamped : BitVec 6}

/-! ### What a commit handed on brings (R29) -/

/-- The causes that a commit handed on may raise or clear. -/
def handedCauses : Role → List Cause
  | .vehicle => [.doorInterlock, .zoneBreach]
  | .genset | .storage => [.wearStoreFault]
  | .traction => []
  | .brake => [.slip, .wearStoreFault, .liningCritical]

/-- The kinds of notice that a commit may bring. -/
def handedKinds : Role → List NoticeKind
  | .vehicle => [.cutbackChange, .zoneBreach]
  | .genset | .storage => [.cutbackChange, .wearLevel, .storeFault, .snapshotComplete, .triggerMissed]
  | .traction => [.cutbackChange]
  | .brake => [.cutbackChange, .wearLevel, .thermalLevel, .storeFault, .snapshotComplete, .triggerMissed]

/-- The port fields that a commit may change. -/
def handedFields : Role → List PortField
  | .vehicle | .traction => [.notices, .latch, .codes]
  | .genset | .storage => [.notices, .missed, .latch, .codes]
  | .brake => [.notices, .missed, .latch, .codes, .counters]

/-- The blocks that a commit handed on may change. -/
def handedBlocks : Role → List Block
  | .vehicle => [.cutback, .genset, .recorder, .ports]
  | .traction => [.cutback, .ports]
  | .genset | .storage | .brake => [.cutback, .wear, .store, .recorder, .ports]

section
variable {causes causes' : List Cause} {kinds kinds' : List NoticeKind} {fields fields' : List PortField}
  {blocks blocks' : List Block}

/-- One more operation, that brings nothing of a new sort. -/
theorem State.Brings.then (h : State.Brings causes kinds fields blocks s t)
    (g : State.Brings causes' kinds' fields' blocks' t u) (hd : ∀ c ∈ causes, c ∉ causes') (hk : kinds' ⊆ kinds)
    (hf : fields' ⊆ fields) (hb : blocks' ⊆ blocks) : State.Brings (causes ++ causes') kinds fields blocks s u :=
  h.trans (g.mono (List.Subset.refl _) hk hf hb) hd

end

theorem brings_vehicleCommitted (s : State) : State.Brings [.doorInterlock, .zoneBreach] [.cutbackChange, .zoneBreach]
    [.notices, .latch, .codes] [.cutback, .genset, .recorder, .ports] s s.vehicleCommitted :=
  ((brings_driverRead s).mono (List.Subset.refl _) (by simp) (by simp) (by simp)).then (brings_zoneAtCommit _)
    (by simp) (by simp) (by simp) (by simp)

/-- An item's wear changed and the levels formed anew. -/
theorem brings_reworn (s : State) (x : Wear) : State.Brings [.wearStoreFault]
    [.cutbackChange, .wearLevel, .storeFault, .snapshotComplete, .triggerMissed] [.notices, .missed, .latch, .codes]
    [.cutback, .wear, .store, .recorder, .ports] s (s.setWear x).recomputeLevels :=
  ((brings_setWear s x).mono (List.Subset.refl _) (by simp) (by simp) (by simp)).then (brings_recomputeLevels _)
    (by simp) (by simp) (by simp) (by simp)

/-- The harsh trigger of a BRAKE commit, where T_rr crosses T_harsh (R166). -/
def State.harshFired (s : State) (before : Int) : State := if s.harshBrake before then s.trigger .harshBrake else s

/-- The sampling level returned while the vehicle moves or brakes (R165). -/
def State.motionRead (s : State) : State := if 0 < s.env.brake.v ∨ 0 < s.env.brake.tRr then s.returnLevel else s

theorem brings_harshFired (s : State) (before : Int) : State.Brings [] [.snapshotComplete, .triggerMissed]
    [.notices, .missed] [.recorder, .ports] s (s.harshFired before) := by
  unfold State.harshFired
  split_ifs
  · exact brings_trigger s _
  · exact (brings_refl s).mono (by simp) (by simp) (by simp) (by simp)

theorem brings_motionRead (s : State) : State.Brings [] [] [] [.recorder] s s.motionRead := by
  unfold State.motionRead
  split_ifs
  · exact brings_returnLevel s
  · exact (brings_refl s).mono (by simp) (by simp) (by simp) (by simp)

/-- The wear of the linings and the levels, after the slip flag. -/
def State.brakeReworn (s : State) (dt : Nat) : State := (s.readSlip.addLiningWear dt).recomputeLevels

/-- The heat and the friction energy, after the levels. -/
def State.brakeHeated (s : State) (dt : Nat) : State := ((s.brakeReworn dt).heatLinings dt).countFriction dt

theorem brakeCommitted_eq (s : State) (before : BrakeReport) (dt : Nat) :
    s.brakeCommitted before dt = ((s.brakeHeated dt).harshFired before.tRr).motionRead := rfl

theorem brings_brakeReworn (s : State) (dt : Nat) : State.Brings [.slip, .wearStoreFault]
    [.cutbackChange, .wearLevel, .storeFault, .snapshotComplete, .triggerMissed] [.notices, .missed, .latch, .codes]
    [.cutback, .wear, .store, .recorder, .ports] s (s.brakeReworn dt) :=
  ((brings_readSlip s).mono (List.Subset.refl _) (by simp) (by simp) (by simp)).then (brings_reworn _ _)
    (by simp) (by simp) (by simp) (by simp)

/-- What comes after the levels brings nothing that a level does. -/
theorem brings_brakeHeated (s : State) (dt : Nat) : State.Brings [.liningCritical] [.thermalLevel, .cutbackChange]
    [.notices, .latch, .counters] [.wear, .cutback, .ports] (s.brakeReworn dt) (s.brakeHeated dt) :=
  ((brings_heatLinings _ dt).mono (fields' := [.notices, .latch, .counters]) (List.Subset.refl _) (List.Subset.refl _)
    (by simp) (List.Subset.refl _)).then (brings_countFriction _ dt) (by simp) (by simp) (by simp) (by simp)

theorem brings_brakeClosed (s : State) (before : Int) (dt : Nat) : State.Brings [] [.snapshotComplete, .triggerMissed]
    [.notices, .missed] [.recorder, .ports] (s.brakeHeated dt) ((s.brakeHeated dt).harshFired before).motionRead :=
  (brings_harshFired _ before).then (brings_motionRead _) nofun (by simp) (by simp) (by simp)

theorem brings_brakeCommitted (s : State) (before : BrakeReport) (dt : Nat) :
    State.Brings [.slip, .wearStoreFault, .liningCritical]
      [.cutbackChange, .wearLevel, .thermalLevel, .storeFault, .snapshotComplete, .triggerMissed]
      [.notices, .missed, .latch, .codes, .counters] [.cutback, .wear, .store, .recorder, .ports] s
      (s.brakeCommitted before dt) :=
  ((((brings_brakeReworn s dt).mono (List.Subset.refl _) (by simp) (by simp) (List.Subset.refl _)).then
    (brings_brakeHeated s dt) (by simp) (by simp) (by simp) (by simp)).then (brings_brakeClosed s before.tRr dt) nofun
      (by simp) (by simp) (by simp)).mono (by simp) (List.Subset.refl _) (List.Subset.refl _) (List.Subset.refl _)

theorem brings_handOn (s : State) (r : Role) (before : Envelope) (dt : Nat) :
    State.Brings (handedCauses r) (handedKinds r) (handedFields r) (handedBlocks r) s (s.handOn r before dt) := by
  cases r with
  | vehicle => exact brings_vehicleCommitted s
  | genset => exact brings_reworn s _
  | storage => exact brings_reworn s _
  | traction => exact (brings_refl s).mono (by simp) (by simp) (by simp) (by simp)
  | brake => exact brings_brakeCommitted s before.brake dt

/-- From the entry to the end of a commit. -/
theorem brings_handed (s : State) (r : Role) (values : List Int) (clamped : BitVec 6) :
    State.Brings (handedCauses r) (handedKinds r) (handedFields r) (handedBlocks r) (s.entered r values clamped)
      (s.commit r values clamped) := by
  have h := (brings_handOn (s.entered r values clamped) r s.env (s.deltaT r)).then (brings_worsenCodes _) nofun
    (by simp) (by cases r <;> simp [handedFields]) (by cases r <;> simp [handedBlocks])
  exact h.mono (by simp) (List.Subset.refl _) (List.Subset.refl _) (List.Subset.refl _)

theorem brings_commit (s : State) (r : Role) (values : List Int) (clamped : BitVec 6) :
    State.Brings (linkCause r :: handedCauses r) (handedKinds r) (handedFields r) (.envelope :: handedBlocks r) s
      (s.commit r values clamped) := by
  have hentered := (brings_entered s r values clamped).mono (kinds' := handedKinds r) (fields' := handedFields r)
    (blocks' := .envelope :: handedBlocks r) (List.Subset.refl _) (by cases r <;> simp [handedKinds])
    (by cases r <;> simp [handedFields]) (by cases r <;> simp [handedBlocks])
  exact hentered.then (brings_handed s r values clamped) (by cases r <;> simp [linkCause])
    (List.Subset.refl _) (List.Subset.refl _) (by simp)

theorem commit_env (s : State) (r : Role) (values : List Int) (clamped : BitVec 6) :
    (s.commit r values clamped).env = (s.writeEntry r values clamped).env := by
  have h : (s.commit r values clamped).env = (s.entered r values clamped).env :=
    (brings_handed s r values clamped).blocks .envelope (by cases r <;> simp [handedBlocks])
  rw [h]
  simp

theorem commit_link (s : State) (r q : Role) (values : List Int) (clamped : BitVec 6) :
    (s.commit r values clamped).causeActive (linkCause q) =
      (s.causeActive (linkCause q) && !(decide (q = r) && s.stale r)) := by
  have hlink : linkCause q = linkCause r ↔ q = r := by cases q <;> cases r <;> decide
  rw [(brings_handed s r values clamped).apart _ (by cases r <;> cases q <;> simp [handedCauses, linkCause]),
    entered_causeActive]
  simp only [hlink]

/-! ### The frame that completes a report -/

/-- The data shifted out and the assembly discarded, before the report is committed. -/
def State.unassembled (s : State) (p : Port) : State := (s.modPort p PortState.shiftOut).discardAssembly p

theorem brings_modPort (s : State) (p : Port) {f : PortState → PortState} {fields : List PortField}
    (hf : ∀ y, ∀ g ∉ fields, g.Same y (f y)) (hn : .notices ∉ fields) (hl : .latch ∉ fields) :
    State.Brings [] [] fields [.ports] s (s.modPort p f) := by
  have hport (q : Port) : PortChanges fields s (s.modPort p f) q := by
    intro g hg
    rw [modPort_get]
    split_ifs
    · exact hf _ g hg
    · cases g <;> simp [PortField.Same]
  have hnotices (q : Port) (k : NoticeKind) : ((s.modPort p f).ports.get q).hasNotice k = (s.ports.get q).hasNotice k := by
    have h : ((s.modPort p f).ports.get q).notices = (s.ports.get q).notices := hport q .notices hn
    rw [PortState.hasNotice, h]
    rfl
  refine ⟨State.SameCauses.told ⟨rfl, fun q => ⟨hport q .latch hl, hnotices q _⟩⟩, fun c _ => rfl, rfl, fun q k => ?_,
    hport, fun b hb => ?_⟩
  · rw [hnotices]
    exact ⟨id, fun _ => rfl⟩
  · cases b <;> simp [Block.Same] at hb ⊢

theorem brings_shiftOut (s : State) (p : Port) : State.Brings [] [] [.frame] [.ports] s (s.modPort p PortState.shiftOut) :=
  brings_modPort s p (fun y g hg => by cases g <;> simp [PortField.Same, PortState.shiftOut] at hg ⊢) (by simp) (by simp)

theorem brings_discardAssembly (s : State) (p : Port) :
    State.Brings [] [] [.assembly] [.ports] s (s.discardAssembly p) :=
  brings_modPort s p (fun y g hg => by cases g <;> simp [PortField.Same] at hg ⊢) (by simp) (by simp)

theorem brings_unassembled (s : State) (p : Port) :
    State.Brings [] [] [.assembly, .frame] [.ports] s (s.unassembled p) :=
  ((brings_shiftOut s p).mono (fields' := [.assembly, .frame]) (List.Subset.refl _) (List.Subset.refl _) (by simp)
    (List.Subset.refl _)).then (brings_discardAssembly _ p) nofun (by simp) (by simp) (by simp)

/-- The answer to a WRITE that was taken. -/
def State.writeAnswered (s : State) (p : Port) (advance : Bool) (r : Reply) : State :=
  (s.modPort p (PortState.advancedIf advance)).respond p 3#4 r

theorem brings_respond (s : State) (p : Port) (c : BitVec 4) (r : Reply) :
    State.Brings [] [] [.frame] [.ports] s (s.respond p c r) :=
  brings_modPort s p (fun y g hg => by cases g <;> simp [PortField.Same] at hg ⊢) (by simp) (by simp)

theorem brings_advancedIf (s : State) (p : Port) (advance : Bool) :
    State.Brings [] [] [.cursors] [.ports] s (s.modPort p (PortState.advancedIf advance)) :=
  brings_modPort s p (fun y g hg => by cases g <;> simp [PortField.Same] at hg ⊢) (by simp) (by simp)

theorem brings_writeAnswered (s : State) (p : Port) (advance : Bool) (r : Reply) :
    State.Brings [] [] [.cursors, .frame] [.ports] s (s.writeAnswered p advance r) :=
  ((brings_advancedIf s p advance).mono (fields' := [.cursors, .frame]) (List.Subset.refl _) (List.Subset.refl _)
    (by simp) (List.Subset.refl _)).then (brings_respond _ p 3#4 r) nofun (by simp) (by simp) (by simp)

theorem writeAnswered_other (s : State) {p q : Port} (advance : Bool) (r : Reply) (h : q ≠ p) :
    (s.writeAnswered p advance r).ports.get q = s.ports.get q := by
  simp [State.writeAnswered, State.respond, h]

theorem unassembled_other (s : State) {p q : Port} (h : q ≠ p) : (s.unassembled p).ports.get q = s.ports.get q := by
  simp [State.unassembled, State.discardAssembly, h]

theorem completeReport_commits {ws : List Word} (h : firstOutside r ws = none) : s.completeReport p r ws =
    ((s.discardAssembly p).commit r (reportValues r ws) (clampedSet r ws), .ok ((clampedSet r ws).setWidth 16)) := by
  simp [State.completeReport, h]

/-- What a completed report is told to bring, besides what the commit brings of itself. -/
theorem exec_completing {ws : List Word} (hi : IsWrite i p advance w) (h : s.Completing p r ws w) :
    exec i s = .next (((s.unassembled p).commit r (reportValues r (ws ++ [w])) (clampedSet r (ws ++ [w]))).writeAnswered p
      advance (.ok ((clampedSet r (ws ++ [w])).setWidth 16))) ∧
    Answered s (((s.unassembled p).commit r (reportValues r (ws ++ [w])) (clampedSet r (ws ++ [w]))).writeAnswered p
      advance (.ok ((clampedSet r (ws ++ [w])).setWidth 16))) p 3#4 .ok ((clampedSet r (ws ++ [w])).setWidth 16) := by
  obtain ⟨hl, hr, hlength, ha, hws, hno⟩ := h
  have h0 : 0 < ws.length := by
    have hmany : 1 < reportLength r := by cases r <;> decide
    omega
  rw [← shiftOut_assembly] at hws
  have hwrite : (s.modPort p PortState.shiftOut).writeAt p (s.ports.get p).cursors.writeAddress.toNat w =
      ((s.unassembled p).commit r (reportValues r (ws ++ [w])) (clampedSet r (ws ++ [w])),
        .ok ((clampedSet r (ws ++ [w])).setWidth 16)) :=
    (writeAt_report ha).trans ((writeReportWord_last (s := s.modPort p PortState.shiftOut) hr (by omega)
      (expects_held hws rfl h0) hlength).trans (completeReport_commits hno))
  refine exec_write_ok hi hl hwrite ?_
  have hframe : (((s.unassembled p).commit r (reportValues r (ws ++ [w])) (clampedSet r (ws ++ [w]))).ports.get p).dataOut =
      ((s.unassembled p).ports.get p).dataOut :=
    ((brings_commit (s.unassembled p) r _ _).port p .frame (by cases r <;> simp [handedFields])).2
  rw [hframe, State.unassembled, State.discardAssembly, modPort_get_same]
  exact shiftOut_dataOut s p

end Sys2Proof.Machine
end

section
/-! PROOFS. A commit as it is seen from the frame that completes a report (R20, R28, R32). -/

namespace Sys2Proof.Machine

variable {s t u v : State} {i : Instr} {p : Port} {advance : Bool} {w : Word} {r : Role} {values : List Int}
  {clamped : BitVec 6}

/-! ### The envelope's entry (R20, R28, R32) -/

/-- The book's entry that a commit writes. -/
def State.bookEntry (s : State) (r : Role) (clamped : BitVec 6) : RoleBook where
  received := true
  stale := false
  clamped := clamped != 0#6
  clampedSet := clamped
  commitAt := some s.now
  deadline := s.deadlineAfterCommit r

theorem writeEntry_env (s : State) (r : Role) (values : List Int) (clamped : BitVec 6) :
    (s.writeEntry r values clamped).env = { s.env.withReport r values with
      book := s.env.book.set r (s.bookEntry r clamped) } := by
  rw [← withReport_book s.env r values]
  rfl

theorem deadlineAfterCommit_eq (h : s.rc.runState ≠ .selfCheck) (r : Role) : s.deadlineAfterCommit r =
    if s.rc.runState = .halted then none else some (s.now + s.rc.applied.deadline.get r) := by
  unfold State.deadlineAfterCommit
  cases hr : s.rc.runState with
  | selfCheck => exact absurd hr h
  | halted => rfl
  | standby => rfl
  | active => rfl

/-- The committed state that the frame answers from. -/
def State.reported (s : State) (p : Port) (r : Role) (ws : List Word) : State :=
  (s.unassembled p).commit r (reportValues r ws) (clampedSet r ws)

/-- The state after the frame. -/
def State.reportTaken (s : State) (p : Port) (advance : Bool) (r : Role) (ws : List Word) : State :=
  (s.reported p r ws).writeAnswered p advance (.ok ((clampedSet r ws).setWidth 16))

theorem reportTaken_env (s : State) (p : Port) (advance : Bool) (r : Role) (ws : List Word) :
    (s.reportTaken p advance r ws).env = { s.env.withReport r (reportValues r ws) with
      book := s.env.book.set r (s.bookEntry r (clampedSet r ws)) } := by
  have hanswered : (s.reportTaken p advance r ws).env = (s.reported p r ws).env :=
    (brings_writeAnswered _ p advance _).blocks .envelope (by simp)
  rw [hanswered, State.reported, commit_env, writeEntry_env]
  rfl

/-- A completed report from the state before the frame to the one after it. -/
theorem brings_reportTaken (s : State) (p : Port) (advance : Bool) (r : Role) (ws : List Word) :
    State.Brings (linkCause r :: handedCauses r) (handedKinds r) (.cursors :: .assembly :: .frame :: handedFields r)
      (.envelope :: handedBlocks r) s (s.reportTaken p advance r ws) := by
  have hfirst := (brings_unassembled s p).mono (kinds' := handedKinds r)
    (fields' := .cursors :: .assembly :: .frame :: handedFields r) (blocks' := .envelope :: handedBlocks r)
    (List.Subset.refl _) (by simp) (by simp) (by cases r <;> simp [handedBlocks])
  exact ((hfirst.then (brings_commit (s.unassembled p) r _ _) nofun (List.Subset.refl _)
    (by cases r <;> simp [handedFields]) (List.Subset.refl _)).then (brings_writeAnswered _ p advance _) (fun _ _ => List.not_mem_nil) (by simp) (by simp)
      (by cases r <;> simp [handedBlocks])).mono (by simp) (List.Subset.refl _) (List.Subset.refl _) (List.Subset.refl _)

theorem reportTaken_other (s : State) {p q : Port} (advance : Bool) (r : Role) (ws : List Word) (h : q ≠ p) :
    PortChanges (handedFields r) s (s.reportTaken p advance r ws) q := by
  have hfirst : PortChanges (handedFields r) s (s.unassembled p) q := portChanges_of_ports _ (unassembled_other s h)
  have hlast : PortChanges (handedFields r) (s.reported p r ws) (s.reportTaken p advance r ws) q :=
    portChanges_of_ports _ (writeAnswered_other _ advance _ h)
  exact portChanges_trans (portChanges_trans hfirst ((brings_commit (s.unassembled p) r _ _).port q)) hlast

theorem reportTaken_link (s : State) (p : Port) (advance : Bool) (r q : Role) (ws : List Word) :
    (s.reportTaken p advance r ws).causeActive (linkCause q) =
      (s.causeActive (linkCause q) && !(decide (q = r) && s.stale r)) :=
  ((brings_writeAnswered _ p advance _).apart _ (by simp)).trans (commit_link (s.unassembled p) r q _ _)

theorem reportTaken_assembly (s : State) (p : Port) (advance : Bool) (r : Role) (ws : List Word) :
    ((s.reportTaken p advance r ws).ports.get p).assembly = none := by
  have hlast : ((s.reportTaken p advance r ws).ports.get p).assembly = ((s.reported p r ws).ports.get p).assembly :=
    (brings_writeAnswered _ p advance _).port p .assembly (by simp)
  have hcommit : ((s.reported p r ws).ports.get p).assembly = ((s.unassembled p).ports.get p).assembly :=
    (brings_commit (s.unassembled p) r _ _).port p .assembly (by cases r <;> simp [handedFields])
  rw [hlast, hcommit, State.unassembled, State.discardAssembly, modPort_get_same]

/-- Settles O24: the fields of a report, the envelope with it taken, and what the commit changes. -/
theorem reportCommitted : Obligations.ReportCommitted := by
  refine ⟨fun r words _ => reportFields_read r words, withReport_codes, fun i p advance w r ws s hi h => ?_⟩
  obtain ⟨hexec, hanswer⟩ := exec_completing hi h
  obtain ⟨⟨-, hstate⟩, -⟩ := h
  have henv := reportTaken_env s p advance r (ws ++ [w])
  have hbrings := brings_reportTaken s p advance r (ws ++ [w])
  have hblocks := hbrings.blocks
  refine ⟨s.reportTaken p advance r (ws ++ [w]), hexec, hanswer, reportTaken_assembly s p advance r _, ?report, ?entry,
    fun q hq => ?others, fun q => reportTaken_link s p advance r q _, fun q hq => ?otherPorts, ?port, ?blocks,
    fun hr => ?traction, fun hr => ?vehicle, fun hr => ?wearing, fun hr => ?brake⟩
  case report =>
    rw [henv, ← withReport_book s.env r (reportValues r (ws ++ [w]))]
  case entry =>
    rw [henv, ← deadlineAfterCommit_eq hstate]
    exact role_get_set_same _ _ _
  case others =>
    rw [henv]
    exact role_get_set_other _ _ _ _ hq
  case otherPorts =>
    exact portChanges_mono (reportTaken_other s advance r _ hq) (by cases r <;> simp [handedFields])
  case port => exact portChanges_mono (hbrings.port p) (by cases r <;> simp [handedFields])
  case blocks => exact changes_mono hblocks (by cases r <;> simp [handedBlocks])
  case traction =>
    subst hr
    exact hblocks
  case vehicle =>
    subst hr
    exact hblocks
  case wearing =>
    obtain rfl | rfl := hr <;> exact changes_mono hblocks (by simp [handedBlocks])
  case brake =>
    subst hr
    exact changes_mono hblocks (by simp [handedBlocks])

end Sys2Proof.Machine
end

section
/-! PROOFS. The wear of a commit: the state in which the levels are formed, and what it brings (R40, R130, R132, R135 to R139,
R142). -/

namespace Sys2Proof.Machine

variable {s t u v : State} {i : Instr} {p : Port} {advance : Bool} {w : Word} {r : Role} {values : List Int}
  {clamped : BitVec 6}

/-! ### Δt and the thermal levels (R40, R132, R135) -/

theorem deltaT_none (h : (s.env.book.get r).commitAt = none) : s.deltaT r = 0 := by
  rw [State.deltaT, h]

theorem deltaT_stale (h : s.stale r = true) : s.deltaT r = 0 := by
  unfold State.deltaT
  dsimp only
  split
  · rfl
  · exact if_pos h

theorem deltaT_some {c : Nat} (h : (s.env.book.get r).commitAt = some c) (hs : s.stale r = false) :
    s.deltaT r = min (max (s.now - c) 1) (s.rc.applied.deadline.get r) := by
  have hstale : ¬ (s.env.book.get r).stale = true := Bool.eq_false_iff.mp hs
  rw [State.deltaT, h]
  exact if_neg hstale

theorem countAtOrBelow_eq_length (theta a b c : Int) :
    countAtOrBelow theta a b c = ([a, b, c].filter fun y : Int => decide (y ≤ theta)).length := by
  unfold countAtOrBelow
  simp only [List.filter_cons, List.filter_nil, decide_eq_true_eq]
  split_ifs <;> rfl

theorem thermalLevelOf_code {n : Nat} (h : n ≤ 3) : (thermalLevelOf n).code = n := by
  interval_cases n <;> rfl

theorem countAtOrBelow_le (theta a b c : Int) : countAtOrBelow theta a b c ≤ 3 := by
  unfold countAtOrBelow
  split_ifs <;> omega

theorem settledLevel_code (x : ThermalLevel) (theta : Int) :
    (settledLevel x theta).code =
      if x.code < countAtOrBelow theta 300 450 600 then countAtOrBelow theta 300 450 600
      else if countAtOrBelow theta 280 430 580 < x.code then countAtOrBelow theta 280 430 580 else x.code := by
  unfold settledLevel
  dsimp only
  split_ifs
  · exact thermalLevelOf_code (countAtOrBelow_le ..)
  · exact thermalLevelOf_code (countAtOrBelow_le ..)
  · rfl

theorem isCritical_iff (x : PerGroup Lining) : isCritical x = true ↔
    x.front.level = .critical ∨ x.middle.level = .critical ∨ x.rear.level = .critical := by
  simp [isCritical, PerGroup.toList]

/-! ### The state in which the levels are formed -/

/-- The wear of a commit added, the levels still as they were. -/
def State.reworn (s : State) (r : Role) (values : List Int) (clamped : BitVec 6) : State :=
  let e := s.entered r values clamped
  match r with
  | .vehicle | .traction => e
  | .genset => e.setWear { e.wear with items := { e.wear.items with
      gensetStarts := { e.wear.items.gensetStarts with
        total := if s.env.genset.state = .off ∧ e.env.genset.state = .cranking then
            min Config.maxTotal (e.wear.items.gensetStarts.total + 1)
          else e.wear.items.gensetStarts.total
        evaluated := true } } }
  | .storage => e.setWear { e.wear with items := { e.wear.items with
      battery := e.wear.items.battery.addEnergy 1000000
        (batteryEnergy e.env.storage (s.deltaT .storage) e.rc.applied.socHiTaper) } }
  | .brake => e.readSlip.addLiningWear (s.deltaT .brake)

/-- The roles whose commits wear something. -/
def WearRole (r : Role) : Prop := r = .brake ∨ r = .storage ∨ r = .genset

theorem brings_addLiningWear (s : State) (dt : Nat) : State.Brings [] [] [] [.wear] s (s.addLiningWear dt) :=
  brings_setWear s _

theorem addLiningWear_levels (s : State) (dt : Nat) (item : WearItem) :
    ((s.addLiningWear dt).wear.items.get item).level = (s.wear.items.get item).level := by
  cases item <;> rfl

theorem reworn_sameLevels (s : State) (r : Role) (values : List Int) (clamped : BitVec 6) :
    s.SameLevels (s.reworn r values clamped) := by
  have hentered := entered_sameLevels s r values clamped
  cases r with
  | vehicle => exact hentered
  | traction => exact hentered
  | genset =>
    exact hentered.trans ((brings_setWear _ _).sameLevels (by simp) (by simp) (by simp) fun item => by cases item <;> rfl)
  | storage =>
    exact hentered.trans ((brings_setWear _ _).sameLevels (by simp) (by simp) (by simp) fun item => by cases item <;> rfl)
  | brake =>
    exact (hentered.trans ((brings_readSlip _).sameLevels (by simp) (by simp) (by simp) fun item => by simp)).trans
      ((brings_addLiningWear _ _).sameLevels (by simp) (by simp) (by simp) (addLiningWear_levels _ _))

theorem reworn_untouched (s : State) (r : Role) (values : List Int) (clamped : BitVec 6) :
    (s.reworn r values clamped).rc = s.rc ∧ (s.reworn r values clamped).env = (s.entered r values clamped).env ∧
      (s.reworn r values clamped).wear.lining = s.wear.lining ∧
      ∀ q, ((s.reworn r values clamped).ports.get q).codes = (s.ports.get q).codes := by
  have hcodes (q : Port) : ((s.entered r values clamped).ports.get q).codes = (s.ports.get q).codes :=
    (brings_entered s r values clamped).port q .codes (by simp)
  cases r with
  | vehicle => exact ⟨by simp [State.reworn], rfl, by simp [State.reworn], hcodes⟩
  | traction => exact ⟨by simp [State.reworn], rfl, by simp [State.reworn], hcodes⟩
  | genset => exact ⟨by simp [State.reworn], rfl, by simp [State.reworn], hcodes⟩
  | storage => exact ⟨by simp [State.reworn], rfl, by simp [State.reworn], hcodes⟩
  | brake =>
    refine ⟨by simp [State.reworn], by simp [State.reworn], by simp [State.reworn, State.addLiningWear], fun q => ?_⟩
    have hslip : ((s.entered .brake values clamped).readSlip.ports.get q).codes =
        ((s.entered .brake values clamped).ports.get q).codes := (brings_readSlip _).port q .codes (by simp)
    exact hslip.trans (hcodes q)

/-! ### What follows the levels leaves them -/

theorem worsenCodes_sameLevels (s : State) : s.SameLevels s.worsenCodes :=
  (brings_worsenCodes s).sameLevels (by simp) (by simp) (by simp) fun item => by simp

theorem brakeHeated_wear (s : State) (dt : Nat) : (s.brakeHeated dt).wear =
    { (s.brakeReworn dt).wear with lining := (s.brakeReworn dt).heatedLinings dt } :=
  ((brings_countFriction _ dt).blocks .wear (by simp)).trans (heatLinings_wear _ _)

theorem brakeCommitted_wear (s : State) (before : BrakeReport) (dt : Nat) :
    (s.brakeCommitted before dt).wear = (s.brakeHeated dt).wear :=
  (brings_brakeClosed s before.tRr dt).blocks .wear (by simp)

theorem brakeCommitted_sameLevels (s : State) (before : BrakeReport) (dt : Nat) :
    (s.brakeReworn dt).SameLevels (s.brakeCommitted before dt) :=
  ((brings_brakeHeated s dt).sameLevels (by simp) (by simp) (by simp) fun item => by rw [brakeHeated_wear]).trans
    ((brings_brakeClosed s before.tRr dt).sameLevels (by simp) (by simp) (by simp) fun item => by
      rw [← brakeCommitted_eq, brakeCommitted_wear])

/-- The commit of a role that wears something, from the levels on. -/
theorem commit_formed (hr : WearRole r) (s : State) (values : List Int) (clamped : BitVec 6) :
    (s.reworn r values clamped).recomputeLevels.SameLevels (s.commit r values clamped) ∧
      (s.commit r values clamped).wear.items = (s.reworn r values clamped).recomputeLevels.wear.items ∧
      (s.commit r values clamped).env = (s.reworn r values clamped).recomputeLevels.env := by
  obtain rfl | rfl | rfl := hr
  · refine ⟨(brakeCommitted_sameLevels _ _ _).trans (worsenCodes_sameLevels _), ?_, ?_⟩
    · have h : (s.commit .brake values clamped).wear =
        ((s.entered .brake values clamped).brakeCommitted s.env.brake (s.deltaT .brake)).wear :=
          (brings_worsenCodes _).blocks .wear (by simp)
      rw [h, brakeCommitted_wear, brakeHeated_wear]
      rfl
    · rw [commit_env]
      simp [State.reworn]
  · refine ⟨worsenCodes_sameLevels _, ?_, ?_⟩
    · exact congrArg Wear.items ((brings_worsenCodes _).blocks .wear (by simp))
    · rw [commit_env]
      simp [State.reworn]
  · refine ⟨worsenCodes_sameLevels _, ?_, ?_⟩
    · exact congrArg Wear.items ((brings_worsenCodes _).blocks .wear (by simp))
    · rw [commit_env]
      simp [State.reworn]

end Sys2Proof.Machine
end

section
/-! PROOFS. What a commit brings of wear, levels, codes and heat (R130, R132, R133, R135 to R139, R142, R157). -/

namespace Sys2Proof.Machine

variable {s t u v : State} {i : Instr} {p : Port} {advance : Bool} {w : Word} {r : Role} {values : List Int}
  {clamped : BitVec 6}

/-! ### Levels, faults and codes (R138, R139, R142, R157) -/

theorem commit_levelsTold (hr : WearRole r) (s : State) (values : List Int) (clamped : BitVec 6) :
    s.LevelsTold (s.commit r values clamped) := by
  obtain ⟨hlevels, hitems, -⟩ := commit_formed hr s values clamped
  refine levelsTold_congr (recomputeLevels_formed (s.reworn r values clamped)).told (reworn_sameLevels s r values clamped)
    hlevels ?_
  rw [State.totals, State.totals, hitems]

theorem commit_items (hr : WearRole r) (s : State) (values : List Int) (clamped : BitVec 6) :
    (s.commit r values clamped).wear.items =
      leveled (s.reworn r values clamped).wear.items s.rc.applied.thresholds := by
  obtain ⟨-, hitems, -⟩ := commit_formed hr s values clamped
  obtain ⟨hrc, -⟩ := reworn_untouched s r values clamped
  rw [hitems, recomputeLevels_items, hrc]

/-- A role that wears something, or one of the other two. -/
theorem wearRole_cases (r : Role) : WearRole r ∨ r = .vehicle ∨ r = .traction := by
  cases r <;> simp [WearRole]

theorem commit_wear_of_other (hr : r = .vehicle ∨ r = .traction) (s : State) (values : List Int) (clamped : BitVec 6) :
    (s.commit r values clamped).wear = s.wear ∧ (s.commit r values clamped).store = s.store := by
  have hblocks := (brings_commit s r values clamped).blocks
  obtain rfl | rfl := hr <;>
    exact ⟨hblocks .wear (by simp [handedBlocks]), hblocks .store (by simp [handedBlocks])⟩

theorem commit_sameLevels_of_other (hr : r = .vehicle ∨ r = .traction) (s : State) (values : List Int)
    (clamped : BitVec 6) : s.SameLevels (s.commit r values clamped) := by
  obtain ⟨hwear, -⟩ := commit_wear_of_other hr s values clamped
  have hbrings := brings_commit s r values clamped
  obtain rfl | rfl := hr <;>
    exact hbrings.sameLevels (by simp [handedCauses, linkCause]) (by simp [handedKinds]) (by simp [handedBlocks])
      fun item => by rw [hwear]

theorem sameLevels_refl (s : State) : s.SameLevels s := ⟨fun _ => rfl, rfl, rfl, rfl, fun _ => ⟨rfl, rfl⟩⟩

theorem commit_faultTold (s : State) (r : Role) (values : List Int) (clamped : BitVec 6) :
    s.FaultTold (s.commit r values clamped) := by
  obtain hr | hr := wearRole_cases r
  · obtain ⟨-, -, -, hfault⟩ := commit_levelsTold hr s values clamped
    exact hfault
  · exact faultTold_congr (faultTold_refl s) (sameLevels_refl s) (commit_sameLevels_of_other hr s values clamped)

/-- The codes worsened once more by the same statuses. -/
theorem codesWorsened_again (h : s.CodesWorsened t) : s.CodesWorsened t.worsenCodes := by
  intro q item
  rw [worsenCodes_codes, worsenCodes_wearStatus, h q item]
  omega

theorem codesWorsened_first (h : ∀ q, (t.ports.get q).codes = (s.ports.get q).codes) : s.CodesWorsened t.worsenCodes := by
  intro q item
  rw [worsenCodes_codes, worsenCodes_wearStatus, h q]

/-- The codes after the levels, and nothing of them after that but once more. -/
theorem commit_codesWorsened (s : State) (r : Role) (values : List Int) (clamped : BitVec 6) :
    s.CodesWorsened (s.commit r values clamped) := by
  have hformed : s.CodesWorsened (s.reworn r values clamped).recomputeLevels := by
    obtain ⟨-, -, -, hcodes⟩ := reworn_untouched s r values clamped
    exact codesWorsened_congr (recomputeLevels_codesWorsened _) hcodes (fun _ => rfl) rfl fun _ => rfl
  have hentered (q : Port) : ((s.entered r values clamped).ports.get q).codes = (s.ports.get q).codes :=
    (brings_entered s r values clamped).port q .codes (by simp)
  rw [commit_eq]
  cases r with
  | vehicle =>
    refine codesWorsened_first fun q => ?_
    have hdriver : (((s.entered .vehicle values clamped).driverRead).ports.get q).codes = _ :=
      (brings_driverRead _).port q .codes (by simp)
    have hzone : (((s.entered .vehicle values clamped).driverRead).zoneAtCommit.ports.get q).codes = _ :=
      (brings_zoneAtCommit _).port q .codes (by simp)
    exact (hzone.trans hdriver).trans (hentered q)
  | traction => exact codesWorsened_first hentered
  | genset => exact codesWorsened_again hformed
  | storage => exact codesWorsened_again hformed
  | brake =>
    refine codesWorsened_again (codesWorsened_congr hformed (fun _ => rfl) (fun q => ?_) ?_ fun q => ?_)
    · have hheat : (((s.entered .brake values clamped).brakeHeated (s.deltaT .brake)).ports.get q).codes = _ :=
        (brings_brakeHeated _ _).port q .codes (by simp)
      have hclosed : (((s.entered .brake values clamped).brakeCommitted s.env.brake (s.deltaT .brake)).ports.get q).codes = _ :=
        (brings_brakeClosed _ s.env.brake.tRr _).port q .codes (by simp)
      exact hclosed.trans hheat
    · have hwear := brakeCommitted_wear (s.entered .brake values clamped) s.env.brake (s.deltaT .brake)
      rw [State.handOn, hwear, brakeHeated_wear]
      rfl
    · have hclosed : ((s.entered .brake values clamped).brakeCommitted s.env.brake (s.deltaT .brake)).env = _ :=
        (brings_brakeClosed _ s.env.brake.tRr _).blocks .envelope (by simp)
      have hheat : ((s.entered .brake values clamped).brakeHeated (s.deltaT .brake)).env = _ :=
        (brings_brakeHeated _ _).blocks .envelope (by simp)
      have henv := hclosed.trans hheat
      rw [State.stale, State.handOn, henv]
      rfl

/-! ### The items (R135 to R137) -/

/-- An item to which energy is added in units (R137). -/
def ItemState.Worn (x y : ItemState) (unit energy : Nat) : Prop :=
  y.residual = (x.residual + energy) % unit ∧ y.total = min 4294967295 (x.total + (x.residual + energy) / unit) ∧
    y.evaluated = true

/-- An item whose wear stands. -/
def ItemState.WearKept (x y : ItemState) : Prop :=
  y.residual = x.residual ∧ y.total = x.total ∧ y.evaluated = x.evaluated

theorem commit_env_entered (s : State) (r : Role) (values : List Int) (clamped : BitVec 6) :
    (s.commit r values clamped).env = (s.entered r values clamped).env := by
  rw [commit_env]
  simp

section
variable (s : State) (values : List Int) (clamped : BitVec 6)

theorem commit_item (hr : WearRole r) (item : WearItem) : (s.commit r values clamped).wear.items.get item =
    { (s.reworn r values clamped).wear.items.get item with
      level := levelOf (s.rc.applied.thresholds.get item) ((s.reworn r values clamped).wear.items.get item).total } := by
  rw [commit_items hr, leveled_get]

theorem commit_item_level (hr : WearRole r) (item : WearItem) : ((s.commit r values clamped).wear.items.get item).level =
    levelOf (s.rc.applied.thresholds.get item) ((s.commit r values clamped).wear.items.get item).total := by
  rw [commit_item s values clamped hr]

/-- Energy added before the levels are formed. -/
theorem commit_worn (hr : WearRole r) {item : WearItem} {unit energy : Nat}
    (h : (s.reworn r values clamped).wear.items.get item = ItemState.addEnergy unit energy (s.wear.items.get item)) :
    ItemState.Worn (s.wear.items.get item) ((s.commit r values clamped).wear.items.get item) unit energy := by
  rw [commit_item s values clamped hr, h]
  exact ⟨rfl, rfl, rfl⟩

theorem commit_wearKept (hr : WearRole r) {item : WearItem}
    (h : (s.reworn r values clamped).wear.items.get item = s.wear.items.get item) :
    ItemState.WearKept (s.wear.items.get item) ((s.commit r values clamped).wear.items.get item) := by
  rw [commit_item s values clamped hr, h]
  exact ⟨rfl, rfl, rfl⟩

theorem reworn_brake_items : (s.reworn .brake values clamped).wear.items = { s.wear.items with
    liningFront := ItemState.addEnergy 1000 ((liningEnergy (s.commit .brake values clamped).env.brake.pfFront
      (s.deltaT .brake)).toNat * s.wear.lining.front.level.wearFactor) s.wear.items.liningFront
    liningMid := ItemState.addEnergy 1000 ((liningEnergy (s.commit .brake values clamped).env.brake.pfMid
      (s.deltaT .brake)).toNat * s.wear.lining.middle.level.wearFactor) s.wear.items.liningMid
    liningRear := ItemState.addEnergy 1000 ((liningEnergy (s.commit .brake values clamped).env.brake.pfRear
      (s.deltaT .brake)).toNat * s.wear.lining.rear.level.wearFactor) s.wear.items.liningRear } := by
  rw [commit_env_entered]
  simp [State.reworn, State.addLiningWear]

theorem reworn_storage_items : (s.reworn .storage values clamped).wear.items = { s.wear.items with
    battery := s.wear.items.battery.addEnergy 1000000 (batteryEnergy (s.commit .storage values clamped).env.storage
      (s.deltaT .storage) s.rc.applied.socHiTaper) } := by
  rw [commit_env_entered]
  simp [State.reworn]

theorem reworn_genset_items : (s.reworn .genset values clamped).wear.items = { s.wear.items with
    gensetStarts := { s.wear.items.gensetStarts with
      total := if s.env.genset.state = .off ∧ (s.commit .genset values clamped).env.genset.state = .cranking then
          min Config.maxTotal (s.wear.items.gensetStarts.total + 1)
        else s.wear.items.gensetStarts.total
      evaluated := true } } := by
  rw [commit_env_entered]
  simp [State.reworn]

end

/-! ### The linings' heat (R130, R132, R133) -/

/-- One lining's estimate after a commit (R130, R132). -/
def Lining.Heated (s : State) (x y : Lining) (pf : Int) : Prop :=
  y.fine = max 0 (min (x.fine + (((pf * s.deltaT .brake).tdiv 10) * 256).tdiv s.rc.applied.cHeat -
    ((x.fine - s.env.vehicle.ambient * 256) * s.deltaT .brake).tdiv s.rc.applied.tau) 230400) ∧
  y.level = settledLevel x.level (y.fine.tdiv 256)

section
variable (s : State) (values : List Int) (clamped : BitVec 6)

theorem brakeReworn_kept (u : State) (dt : Nat) : (u.brakeReworn dt).rc = u.rc ∧ (u.brakeReworn dt).env = u.env ∧
    (u.brakeReworn dt).wear.lining = u.wear.lining :=
  ⟨(brings_brakeReworn u dt).blocks .runControl (by simp), (brings_brakeReworn u dt).blocks .envelope (by simp),
    by rw [State.brakeReworn, recomputeLevels_lining]; simp [State.addLiningWear]⟩

theorem heatedLinings_congr {u : State} (dt : Nat) (hrc : u.rc = s.rc) (henv : u.env = t.env)
    (hl : u.wear.lining = s.wear.lining) : u.heatedLinings dt =
      ⟨s.wear.lining.front.updated t.env.brake.pfFront t.env.vehicle.ambient dt s.rc.applied.cHeat s.rc.applied.tau,
        s.wear.lining.middle.updated t.env.brake.pfMid t.env.vehicle.ambient dt s.rc.applied.cHeat s.rc.applied.tau,
        s.wear.lining.rear.updated t.env.brake.pfRear t.env.vehicle.ambient dt s.rc.applied.cHeat s.rc.applied.tau⟩ := by
  rw [State.heatedLinings, hrc, henv, hl]

theorem commit_brake_wear : (s.commit .brake values clamped).wear =
    ((s.entered .brake values clamped).brakeHeated (s.deltaT .brake)).wear := by
  have h : (s.commit .brake values clamped).wear =
      ((s.entered .brake values clamped).brakeCommitted s.env.brake (s.deltaT .brake)).wear :=
    (brings_worsenCodes _).blocks .wear (by simp)
  rw [h, brakeCommitted_wear]

theorem commit_brake_lining : (s.commit .brake values clamped).wear.lining =
    ((s.entered .brake values clamped).brakeReworn (s.deltaT .brake)).heatedLinings (s.deltaT .brake) := by
  rw [commit_brake_wear, brakeHeated_wear]

theorem commit_lining_eq : (s.commit .brake values clamped).wear.lining =
    ⟨s.wear.lining.front.updated (s.commit .brake values clamped).env.brake.pfFront s.env.vehicle.ambient
        (s.deltaT .brake) s.rc.applied.cHeat s.rc.applied.tau,
      s.wear.lining.middle.updated (s.commit .brake values clamped).env.brake.pfMid s.env.vehicle.ambient
        (s.deltaT .brake) s.rc.applied.cHeat s.rc.applied.tau,
      s.wear.lining.rear.updated (s.commit .brake values clamped).env.brake.pfRear s.env.vehicle.ambient
        (s.deltaT .brake) s.rc.applied.cHeat s.rc.applied.tau⟩ := by
  obtain ⟨hrc, henv, hl⟩ := brakeReworn_kept (s.entered .brake values clamped) (s.deltaT .brake)
  have hambient : (s.commit .brake values clamped).env.vehicle.ambient = s.env.vehicle.ambient := by
    rw [commit_env, writeEntry_env]
    rfl
  rw [commit_brake_lining, heatedLinings_congr s (t := s.commit .brake values clamped) (s.deltaT .brake)
    (hrc.trans (by simp)) (henv.trans (commit_env_entered s .brake values clamped).symm) (hl.trans (by simp)), hambient]

theorem commit_linings_heated :
    Lining.Heated s s.wear.lining.front (s.commit .brake values clamped).wear.lining.front
      (s.commit .brake values clamped).env.brake.pfFront ∧
    Lining.Heated s s.wear.lining.middle (s.commit .brake values clamped).wear.lining.middle
      (s.commit .brake values clamped).env.brake.pfMid ∧
    Lining.Heated s s.wear.lining.rear (s.commit .brake values clamped).wear.lining.rear
      (s.commit .brake values clamped).env.brake.pfRear := by
  rw [commit_lining_eq]
  exact ⟨⟨rfl, rfl⟩, ⟨rfl, rfl⟩, ⟨rfl, rfl⟩⟩

end

end Sys2Proof.Machine
end

section
/-! PROOFS. What a changed thermal level brings, and the wear of a commit from the frame that completes the report (R120, R130,
R132, R133, R135 to R139, R142). -/

namespace Sys2Proof.Machine

variable {s t u v : State} {i : Instr} {p : Port} {advance : Bool} {w : Word} {r : Role} {values : List Int}
  {clamped : BitVec 6}

/-! ### Thermal levels (R133) -/

theorem brakeHeated_changed {dt : Nat}
    (h : ((s.brakeReworn dt).heatedLinings dt).map Lining.level ≠ (s.brakeReworn dt).wear.lining.map Lining.level) :
    (s.brakeHeated dt).AllNoticed .thermalLevel ∧
      (s.brakeHeated dt).causeActive .liningCritical = isCritical ((s.brakeReworn dt).heatedLinings dt) := by
  have hheat := heatLinings_changed h
  have hcounted := brings_countFriction ((s.brakeReworn dt).heatLinings dt) dt
  refine ⟨fun q => ((hcounted.within q _).1 ?_), ?_⟩
  · rw [hheat]
    refine ((brings_setCause_untriggered _ _ rfl rfl).within q _).1 ?_
    simp
  · have hcause : (s.brakeHeated dt).causeActive .liningCritical =
        ((s.brakeReworn dt).heatLinings dt).causeActive .liningCritical := hcounted.apart _ (by simp)
    rw [hcause, hheat]
    simp

theorem brakeHeated_steady {dt : Nat}
    (h : ((s.brakeReworn dt).heatedLinings dt).map Lining.level = (s.brakeReworn dt).wear.lining.map Lining.level) :
    State.Brings [] [] [.counters] [.wear, .ports] (s.brakeReworn dt) (s.brakeHeated dt) := by
  have hheat : State.Brings [] [] [.counters] [.wear, .ports] (s.brakeReworn dt) ((s.brakeReworn dt).heatLinings dt) := by
    rw [heatLinings_steady h]
    exact (brings_setWear _ _).mono (by simp) (by simp) (by simp) (by simp)
  exact hheat.then (brings_countFriction _ dt) nofun (by simp) (by simp) (by simp)

section
variable (s : State) (values : List Int) (clamped : BitVec 6)

/-- From the entry of a BRAKE commit to its levels nothing thermal changes, and after the heat nothing more. -/
theorem commit_thermal_before (dt : Nat) (q : Port) :
    ((s.entered .brake values clamped).brakeReworn dt).causeActive .liningCritical = s.causeActive .liningCritical ∧
      ((((s.entered .brake values clamped).brakeReworn dt).ports.get q).hasNotice .thermalLevel =
        (s.ports.get q).hasNotice .thermalLevel) := by
  have hentered := brings_entered s .brake values clamped
  have hreworn := brings_brakeReworn (s.entered .brake values clamped) dt
  exact ⟨(hreworn.apart _ (by simp)).trans (hentered.apart _ (by simp [linkCause])),
    ((hreworn.within q _).2 (by simp)).trans ((hentered.within q _).2 (by simp))⟩

theorem commit_thermal_after (q : Port) :
    (s.commit .brake values clamped).causeActive .liningCritical =
        ((s.entered .brake values clamped).brakeHeated (s.deltaT .brake)).causeActive .liningCritical ∧
      (((s.commit .brake values clamped).ports.get q).hasNotice .thermalLevel =
        (((s.entered .brake values clamped).brakeHeated (s.deltaT .brake)).ports.get q).hasNotice .thermalLevel) := by
  have hclosed := (brings_brakeClosed (s.entered .brake values clamped) s.env.brake.tRr (s.deltaT .brake)).mono
    (fields' := [.notices, .missed, .codes]) (List.Subset.refl _) (List.Subset.refl _) (by simp) (List.Subset.refl _)
  have hafter := hclosed.then (brings_worsenCodes _) nofun (by simp) (by simp) (by simp)
  exact ⟨hafter.apart _ (by simp), (hafter.within q _).2 (by simp)⟩

theorem commit_thermal_changed
    (h : (s.commit .brake values clamped).wear.lining.map Lining.level ≠ s.wear.lining.map Lining.level) :
    (s.commit .brake values clamped).AllNoticed .thermalLevel ∧
      (s.commit .brake values clamped).causeActive .liningCritical =
        isCritical (s.commit .brake values clamped).wear.lining := by
  obtain ⟨-, -, hl⟩ := brakeReworn_kept (s.entered .brake values clamped) (s.deltaT .brake)
  have hlining : ((s.entered .brake values clamped).brakeReworn (s.deltaT .brake)).wear.lining = s.wear.lining :=
    hl.trans (by simp)
  rw [commit_brake_lining, ← hlining] at h
  obtain ⟨hnoticed, hcause⟩ := brakeHeated_changed h
  refine ⟨fun q => ?_, ?_⟩
  · rw [(commit_thermal_after s values clamped q).2]
    exact hnoticed q
  · rw [(commit_thermal_after s values clamped .p0).1, hcause, commit_brake_lining]

theorem commit_thermal_steady
    (h : (s.commit .brake values clamped).wear.lining.map Lining.level = s.wear.lining.map Lining.level) :
    (s.commit .brake values clamped).causeActive .liningCritical = s.causeActive .liningCritical ∧
      ∀ q, ((s.commit .brake values clamped).ports.get q).hasNotice .thermalLevel =
        (s.ports.get q).hasNotice .thermalLevel := by
  obtain ⟨-, -, hl⟩ := brakeReworn_kept (s.entered .brake values clamped) (s.deltaT .brake)
  have hlining : ((s.entered .brake values clamped).brakeReworn (s.deltaT .brake)).wear.lining = s.wear.lining :=
    hl.trans (by simp)
  rw [commit_brake_lining, ← hlining] at h
  have hsteady := brakeHeated_steady h
  refine ⟨?_, fun q => ?_⟩
  · rw [(commit_thermal_after s values clamped .p0).1, hsteady.apart _ (by simp), (commit_thermal_before s values clamped _ .p0).1]
  · rw [(commit_thermal_after s values clamped q).2, (hsteady.within q _).2 (by simp), (commit_thermal_before s values clamped _ q).2]

/-- A commit of another role than BRAKE leaves the linings and LINING_CRITICAL. -/
theorem commit_lining_of_other (hr : r ≠ .brake) :
    (s.commit r values clamped).causeActive .liningCritical = s.causeActive .liningCritical :=
  (brings_commit s r values clamped).apart _ (by cases r <;> simp [handedCauses, linkCause] at hr ⊢)

theorem commit_lining_kept (hr : r = .storage ∨ r = .genset) :
    (s.commit r values clamped).wear.lining = s.wear.lining := by
  have hlast (x : State) : x.worsenCodes.wear.lining = x.wear.lining :=
    congrArg Wear.lining ((brings_worsenCodes x).blocks .wear (by simp))
  obtain ⟨-, -, hreworn, -⟩ := reworn_untouched s r values clamped
  obtain rfl | rfl := hr <;> exact (hlast _).trans ((recomputeLevels_lining _).trans hreworn)

end

/-! ### The wear from the state before the frame to the one after it -/

theorem writeAnswered_sameLevels (v : State) (p : Port) (advance : Bool) (x : Reply) :
    v.SameLevels (v.writeAnswered p advance x) :=
  (brings_writeAnswered v p advance x).sameLevels (by simp) (by simp) (by simp) fun _ => rfl

theorem unassembled_sameLevels (s : State) (p : Port) : s.SameLevels (s.unassembled p) :=
  (brings_unassembled s p).sameLevels (by simp) (by simp) (by simp) fun _ => rfl

section
variable (s : State) (p : Port) (advance : Bool) (ws : List Word)

theorem reportTaken_levelsTold (hr : WearRole r) : s.LevelsTold (s.reportTaken p advance r ws) :=
  levelsTold_congr (commit_levelsTold hr (s.unassembled p) _ _) (unassembled_sameLevels s p)
    (writeAnswered_sameLevels _ p advance _) rfl

theorem reportTaken_faultTold (r : Role) : s.FaultTold (s.reportTaken p advance r ws) :=
  faultTold_congr (commit_faultTold (s.unassembled p) r _ _) (unassembled_sameLevels s p)
    (writeAnswered_sameLevels _ p advance _)

theorem reportTaken_codesWorsened (r : Role) : s.CodesWorsened (s.reportTaken p advance r ws) :=
  codesWorsened_congr (commit_codesWorsened (s.unassembled p) r _ _)
    (fun q => (brings_unassembled s p).port q .codes (by simp))
    (fun q => (brings_writeAnswered _ p advance _).port q .codes (by simp)) rfl fun _ => rfl

end

end Sys2Proof.Machine
end

section
/-! PROOFS. The wear of a commit, and the statement about it (R40, R120, R130, R132, R135 to R139, R142). -/

namespace Sys2Proof.Machine

variable {s t u v : State} {i : Instr} {p : Port} {advance : Bool} {w : Word} {r : Role} {values : List Int}
  {clamped : BitVec 6}

section
variable (s : State) (values : List Int) (clamped : BitVec 6)

theorem commit_brake_worn :
    ItemState.Worn s.wear.items.liningFront (s.commit .brake values clamped).wear.items.liningFront 1000
      ((liningEnergy (s.commit .brake values clamped).env.brake.pfFront (s.deltaT .brake)).toNat *
        s.wear.lining.front.level.wearFactor) ∧
    ItemState.Worn s.wear.items.liningMid (s.commit .brake values clamped).wear.items.liningMid 1000
      ((liningEnergy (s.commit .brake values clamped).env.brake.pfMid (s.deltaT .brake)).toNat *
        s.wear.lining.middle.level.wearFactor) ∧
    ItemState.Worn s.wear.items.liningRear (s.commit .brake values clamped).wear.items.liningRear 1000
      ((liningEnergy (s.commit .brake values clamped).env.brake.pfRear (s.deltaT .brake)).toNat *
        s.wear.lining.rear.level.wearFactor) ∧
    ItemState.WearKept s.wear.items.battery (s.commit .brake values clamped).wear.items.battery ∧
    ItemState.WearKept s.wear.items.gensetStarts (s.commit .brake values clamped).wear.items.gensetStarts := by
  have hitems := reworn_brake_items s values clamped
  have hwears : WearRole .brake := .inl rfl
  refine ⟨commit_worn (item := .liningFront) s values clamped hwears ?_,
    commit_worn (item := .liningMid) s values clamped hwears ?_,
    commit_worn (item := .liningRear) s values clamped hwears ?_,
    commit_wearKept (item := .battery) s values clamped hwears ?_,
    commit_wearKept (item := .gensetStarts) s values clamped hwears ?_⟩ <;> rw [hitems] <;> rfl

theorem commit_storage_worn :
    ItemState.Worn s.wear.items.battery (s.commit .storage values clamped).wear.items.battery 1000000
      (batteryEnergy (s.commit .storage values clamped).env.storage (s.deltaT .storage) s.rc.applied.socHiTaper) ∧
    ItemState.WearKept s.wear.items.liningFront (s.commit .storage values clamped).wear.items.liningFront ∧
    ItemState.WearKept s.wear.items.liningMid (s.commit .storage values clamped).wear.items.liningMid ∧
    ItemState.WearKept s.wear.items.liningRear (s.commit .storage values clamped).wear.items.liningRear ∧
    ItemState.WearKept s.wear.items.gensetStarts (s.commit .storage values clamped).wear.items.gensetStarts := by
  have hitems := reworn_storage_items s values clamped
  have hwears : WearRole .storage := .inr (.inl rfl)
  refine ⟨commit_worn (item := .battery) s values clamped hwears ?_,
    commit_wearKept (item := .liningFront) s values clamped hwears ?_,
    commit_wearKept (item := .liningMid) s values clamped hwears ?_,
    commit_wearKept (item := .liningRear) s values clamped hwears ?_,
    commit_wearKept (item := .gensetStarts) s values clamped hwears ?_⟩ <;> rw [hitems] <;> rfl

theorem commit_genset_worn :
    ((s.commit .genset values clamped).wear.items.gensetStarts.total =
      (if s.env.genset.state = .off ∧ (s.commit .genset values clamped).env.genset.state = .cranking then
        min 4294967295 (s.wear.items.gensetStarts.total + 1)
      else s.wear.items.gensetStarts.total) ∧
    (s.commit .genset values clamped).wear.items.gensetStarts.evaluated = true ∧
    (s.commit .genset values clamped).wear.items.gensetStarts.residual = s.wear.items.gensetStarts.residual) ∧
    ItemState.WearKept s.wear.items.liningFront (s.commit .genset values clamped).wear.items.liningFront ∧
    ItemState.WearKept s.wear.items.liningMid (s.commit .genset values clamped).wear.items.liningMid ∧
    ItemState.WearKept s.wear.items.liningRear (s.commit .genset values clamped).wear.items.liningRear ∧
    ItemState.WearKept s.wear.items.battery (s.commit .genset values clamped).wear.items.battery := by
  have hitems := reworn_genset_items s values clamped
  have hwears : WearRole .genset := .inr (.inr rfl)
  refine ⟨?_, commit_wearKept (item := .liningFront) s values clamped hwears ?_,
    commit_wearKept (item := .liningMid) s values clamped hwears ?_,
    commit_wearKept (item := .liningRear) s values clamped hwears ?_,
    commit_wearKept (item := .battery) s values clamped hwears ?_⟩
  · have hitem := commit_item s values clamped hwears .gensetStarts
    rw [hitems] at hitem
    have hstarts : (s.commit .genset values clamped).wear.items.gensetStarts = _ := hitem
    rw [hstarts]
    exact ⟨rfl, rfl, rfl⟩
  all_goals
    rw [hitems]
    rfl

end

/-! ### The wear as it is seen after the frame -/

section
variable (s : State) (p : Port) (advance : Bool) (ws : List Word)

theorem reportTaken_seen (r : Role) :
    (s.reportTaken p advance r ws).wear =
        ((s.unassembled p).commit r (reportValues r ws) (clampedSet r ws)).wear ∧
      (s.reportTaken p advance r ws).env =
        ((s.unassembled p).commit r (reportValues r ws) (clampedSet r ws)).env ∧
      (s.reportTaken p advance r ws).store =
        ((s.unassembled p).commit r (reportValues r ws) (clampedSet r ws)).store := by
  have hblocks := (brings_writeAnswered (s.reported p r ws) p advance (.ok ((clampedSet r ws).setWidth 16))).blocks
  exact ⟨hblocks .wear (by simp), hblocks .envelope (by simp), hblocks .store (by simp)⟩

theorem reportTaken_causeActive (r : Role) (c : Cause) : (s.reportTaken p advance r ws).causeActive c =
    ((s.unassembled p).commit r (reportValues r ws) (clampedSet r ws)).causeActive c :=
  (brings_writeAnswered _ p advance _).apart c (by simp)

theorem reportTaken_hasNotice (r : Role) (q : Port) (k : NoticeKind) :
    ((s.reportTaken p advance r ws).ports.get q).hasNotice k =
      (((s.unassembled p).commit r (reportValues r ws) (clampedSet r ws)).ports.get q).hasNotice k :=
  ((brings_writeAnswered _ p advance _).within q k).2 (by simp)

theorem reportTaken_brake_worn :
    ItemState.Worn s.wear.items.liningFront (s.reportTaken p advance .brake ws).wear.items.liningFront 1000
      ((liningEnergy (s.reportTaken p advance .brake ws).env.brake.pfFront (s.deltaT .brake)).toNat *
        s.wear.lining.front.level.wearFactor) ∧
    ItemState.Worn s.wear.items.liningMid (s.reportTaken p advance .brake ws).wear.items.liningMid 1000
      ((liningEnergy (s.reportTaken p advance .brake ws).env.brake.pfMid (s.deltaT .brake)).toNat *
        s.wear.lining.middle.level.wearFactor) ∧
    ItemState.Worn s.wear.items.liningRear (s.reportTaken p advance .brake ws).wear.items.liningRear 1000
      ((liningEnergy (s.reportTaken p advance .brake ws).env.brake.pfRear (s.deltaT .brake)).toNat *
        s.wear.lining.rear.level.wearFactor) ∧
    ItemState.WearKept s.wear.items.battery (s.reportTaken p advance .brake ws).wear.items.battery ∧
    ItemState.WearKept s.wear.items.gensetStarts (s.reportTaken p advance .brake ws).wear.items.gensetStarts := by
  obtain ⟨hwear, henv, -⟩ := reportTaken_seen s p advance ws .brake
  rw [hwear, henv]
  exact commit_brake_worn (s.unassembled p) _ _

theorem reportTaken_brake_heated :
    Lining.Heated s s.wear.lining.front (s.reportTaken p advance .brake ws).wear.lining.front
      (s.reportTaken p advance .brake ws).env.brake.pfFront ∧
    Lining.Heated s s.wear.lining.middle (s.reportTaken p advance .brake ws).wear.lining.middle
      (s.reportTaken p advance .brake ws).env.brake.pfMid ∧
    Lining.Heated s s.wear.lining.rear (s.reportTaken p advance .brake ws).wear.lining.rear
      (s.reportTaken p advance .brake ws).env.brake.pfRear := by
  obtain ⟨hwear, henv, -⟩ := reportTaken_seen s p advance ws .brake
  rw [hwear, henv]
  exact commit_linings_heated (s.unassembled p) _ _

theorem reportTaken_thermal_changed
    (h : (s.reportTaken p advance .brake ws).wear.lining.map Lining.level ≠ s.wear.lining.map Lining.level) :
    (s.reportTaken p advance .brake ws).AllNoticed .thermalLevel ∧
      (s.reportTaken p advance .brake ws).causeActive .liningCritical =
        isCritical (s.reportTaken p advance .brake ws).wear.lining := by
  obtain ⟨hwear, -⟩ := reportTaken_seen s p advance ws .brake
  rw [hwear] at h ⊢
  obtain ⟨hall, hcritical⟩ := commit_thermal_changed (s.unassembled p) _ _ h
  exact ⟨fun q => (reportTaken_hasNotice s p advance ws .brake q _).trans (hall q),
    (reportTaken_causeActive s p advance ws .brake _).trans hcritical⟩

theorem reportTaken_thermal_steady
    (h : (s.reportTaken p advance .brake ws).wear.lining.map Lining.level = s.wear.lining.map Lining.level) :
    (s.reportTaken p advance .brake ws).causeActive .liningCritical = s.causeActive .liningCritical ∧
      ∀ q, ((s.reportTaken p advance .brake ws).ports.get q).hasNotice .thermalLevel =
        (s.ports.get q).hasNotice .thermalLevel := by
  obtain ⟨hwear, -⟩ := reportTaken_seen s p advance ws .brake
  rw [hwear] at h
  obtain ⟨hcritical, hall⟩ := commit_thermal_steady (s.unassembled p) _ _ h
  have hbefore := brings_unassembled s p
  exact ⟨(reportTaken_causeActive s p advance ws .brake _).trans (hcritical.trans (hbefore.apart _ (by simp))),
    fun q => (reportTaken_hasNotice s p advance ws .brake q _).trans ((hall q).trans ((hbefore.within q _).2 (by simp)))⟩

theorem reportTaken_storage_worn :
    ItemState.Worn s.wear.items.battery (s.reportTaken p advance .storage ws).wear.items.battery 1000000
      (batteryEnergy (s.reportTaken p advance .storage ws).env.storage (s.deltaT .storage) s.rc.applied.socHiTaper) ∧
    ItemState.WearKept s.wear.items.liningFront (s.reportTaken p advance .storage ws).wear.items.liningFront ∧
    ItemState.WearKept s.wear.items.liningMid (s.reportTaken p advance .storage ws).wear.items.liningMid ∧
    ItemState.WearKept s.wear.items.liningRear (s.reportTaken p advance .storage ws).wear.items.liningRear ∧
    ItemState.WearKept s.wear.items.gensetStarts (s.reportTaken p advance .storage ws).wear.items.gensetStarts := by
  obtain ⟨hwear, henv, -⟩ := reportTaken_seen s p advance ws .storage
  rw [hwear, henv]
  exact commit_storage_worn (s.unassembled p) _ _

theorem reportTaken_genset_worn :
    ((s.reportTaken p advance .genset ws).wear.items.gensetStarts.total =
      (if s.env.genset.state = .off ∧ (s.reportTaken p advance .genset ws).env.genset.state = .cranking then
        min 4294967295 (s.wear.items.gensetStarts.total + 1)
      else s.wear.items.gensetStarts.total) ∧
    (s.reportTaken p advance .genset ws).wear.items.gensetStarts.evaluated = true ∧
    (s.reportTaken p advance .genset ws).wear.items.gensetStarts.residual = s.wear.items.gensetStarts.residual) ∧
    ItemState.WearKept s.wear.items.liningFront (s.reportTaken p advance .genset ws).wear.items.liningFront ∧
    ItemState.WearKept s.wear.items.liningMid (s.reportTaken p advance .genset ws).wear.items.liningMid ∧
    ItemState.WearKept s.wear.items.liningRear (s.reportTaken p advance .genset ws).wear.items.liningRear ∧
    ItemState.WearKept s.wear.items.battery (s.reportTaken p advance .genset ws).wear.items.battery := by
  obtain ⟨hwear, henv, -⟩ := reportTaken_seen s p advance ws .genset
  rw [hwear, henv]
  exact commit_genset_worn (s.unassembled p) _ _

theorem reportTaken_lining_kept (hr : r = .storage ∨ r = .genset) :
    (s.reportTaken p advance r ws).wear.lining = s.wear.lining := by
  obtain ⟨hwear, -⟩ := reportTaken_seen s p advance ws r
  rw [hwear]
  exact commit_lining_kept (s.unassembled p) _ _ hr

theorem reportTaken_wear_of_other (hr : r = .vehicle ∨ r = .traction) :
    (s.reportTaken p advance r ws).wear = s.wear ∧ (s.reportTaken p advance r ws).store = s.store := by
  obtain ⟨hwear, -, hstore⟩ := reportTaken_seen s p advance ws r
  rw [hwear, hstore]
  exact commit_wear_of_other hr (s.unassembled p) _ _

theorem reportTaken_critical_of_other (hr : r ≠ .brake) :
    (s.reportTaken p advance r ws).causeActive .liningCritical = s.causeActive .liningCritical :=
  (brings_reportTaken s p advance r ws).apart _ (by cases r <;> simp [handedCauses, linkCause] at hr ⊢)

theorem reportTaken_level (hr : WearRole r) (item : WearItem) : ((s.reportTaken p advance r ws).wear.items.get item).level =
    levelOf (s.rc.applied.thresholds.get item) ((s.reportTaken p advance r ws).wear.items.get item).total := by
  obtain ⟨hwear, -⟩ := reportTaken_seen s p advance ws r
  rw [hwear]
  exact commit_item_level (s.unassembled p) _ _ hr item

end

/-- Settles O26: Δt and the thermal levels, then the wear of each role's commit with what its levels bring. -/
theorem commitAddsWear : Obligations.CommitAddsWear := by
  refine ⟨rfl, fun x theta => ?settled, isCritical_iff, fun r s => ⟨deltaT_none, deltaT_stale, fun c => deltaT_some⟩,
    fun i p advance w r ws s hi h => ?commit⟩
  case settled =>
    dsimp only
    rw [← countAtOrBelow_eq_length, ← countAtOrBelow_eq_length]
    exact settledLevel_code x theta
  case commit =>
    obtain ⟨hexec, -⟩ := exec_completing hi h
    refine ⟨s.reportTaken p advance r (ws ++ [w]), hexec, fun hr => ?brake, fun hr => ?storage, fun hr => ?genset,
      reportTaken_wear_of_other s p advance _, reportTaken_critical_of_other s p advance _,
      reportTaken_levelsTold s p advance _, reportTaken_faultTold s p advance _ r, reportTaken_level s p advance _,
      reportTaken_codesWorsened s p advance _ r⟩
    case brake =>
      subst hr
      obtain ⟨hfront, hmid, hrear, hbattery, hstarts⟩ := reportTaken_brake_worn s p advance (ws ++ [w])
      obtain ⟨hheatFront, hheatMid, hheatRear⟩ := reportTaken_brake_heated s p advance (ws ++ [w])
      exact ⟨hfront, hmid, hrear, hbattery, hstarts, hheatFront, hheatMid, hheatRear,
        reportTaken_thermal_changed s p advance _, reportTaken_thermal_steady s p advance _⟩
    case storage =>
      subst hr
      obtain ⟨hbattery, hfront, hmid, hrear, hstarts⟩ := reportTaken_storage_worn s p advance (ws ++ [w])
      exact ⟨hbattery, hfront, hmid, hrear, hstarts, reportTaken_lining_kept s p advance _ (.inl rfl)⟩
    case genset =>
      subst hr
      obtain ⟨⟨htotal, hevaluated, hresidual⟩, hfront, hmid, hrear, hbattery⟩ :=
        reportTaken_genset_worn s p advance (ws ++ [w])
      exact ⟨htotal, hevaluated, hresidual, hfront, hmid, hrear, hbattery,
        reportTaken_lining_kept s p advance _ (.inr rfl)⟩

end Sys2Proof.Machine
end

section
/-! PROOFS. The causes of a commit outside wear: the zone rule, the door, slip and friction (R45, R49 to R52, R116, R117, R124,
R125, R165). -/

namespace Sys2Proof.Machine

variable {s t u v : State} {i : Instr} {p : Port} {advance : Bool} {w : Word} {r : Role} {values : List Int}
  {clamped : BitVec 6}

/-! ### The zone rule (R49, R116, R117) -/

theorem zoneStops_iff (hz : s.env.vehicle.zone = true) :
    s.zoneStops = true ↔ (s.rc.applied.socReserve : Int) + 500 < s.env.storage.soc := by
  simp [State.zoneStops, hz]

theorem sendStop_off (h : s.env.genset.state = .off) : s.sendStop = s.enterOff := if_pos h

theorem sendStop_running (h : s.env.genset.state ≠ .off) : s.sendStop = s.setGen { s.gen with
    mgr := .stopRequested, setpoint := 0, minRun := none, start := none, absExit := none } := if_neg h

theorem enterOff_gen (s : State) : s.enterOff.gen = { s.gen with
    mgr := .off, setpoint := 0, minRun := none, start := none, absExit := none
    minOff := some (s.now + s.rc.applied.tMinOff * 1000) } := by
  simp [State.enterOff]

theorem enterOff_breach (s : State) : s.enterOff.causeActive .zoneBreach = false := by
  rw [State.enterOff, clear_causeActive]
  simp

theorem raiseZoneBreach_active (s : State) : s.raiseZoneBreach.causeActive .zoneBreach = true := by
  unfold State.raiseZoneBreach
  split_ifs with h
  · exact h
  · simp

theorem raiseZoneBreach_gen (s : State) : s.raiseZoneBreach.gen = s.gen :=
  (brings_raiseZoneBreach s).blocks .genset (by simp)

/-- A stop that the zone rule asks for (R116, R117). -/
theorem sendStop_gen (s : State) :
    s.sendStop.gen = { s.gen with
      mgr := s.sendStop.gen.mgr, setpoint := 0, start := none, absExit := none, minRun := none
      minOff := s.sendStop.gen.minOff } ∧
    (s.env.genset.state ≠ .off → s.sendStop.gen.mgr = .stopRequested ∧ s.sendStop.gen.minOff = s.gen.minOff ∧
      s.sendStop.causeActive .zoneBreach = s.causeActive .zoneBreach) ∧
    (s.env.genset.state = .off → s.sendStop.gen.mgr = .off ∧ s.sendStop.causeActive .zoneBreach = false ∧
      s.sendStop.gen.minOff = some (s.now + s.rc.applied.tMinOff * 1000)) := by
  by_cases h : s.env.genset.state = .off
  · rw [sendStop_off h, enterOff_gen]
    exact ⟨rfl, fun hn => absurd h hn, fun _ => ⟨rfl, enterOff_breach s, rfl⟩⟩
  · rw [sendStop_running h]
    exact ⟨rfl, fun _ => ⟨rfl, rfl, rfl⟩, fun hoff => absurd hoff h⟩

/-- The notice ZONE_BREACH comes with a raise of the cause and with nothing else. -/
theorem zoneAtCommit_hasNotice (s : State) (q : Port) : (s.zoneAtCommit.ports.get q).hasNotice .zoneBreach =
    ((s.ports.get q).hasNotice .zoneBreach || (s.zoneAtCommit.causeActive .zoneBreach && !s.causeActive .zoneBreach)) := by
  have hquiet {causes : List Cause} {fields : List PortField} {blocks : List Block}
      (h : State.Brings causes [.cutbackChange] fields blocks s s.zoneAtCommit)
      (hc : s.zoneAtCommit.causeActive .zoneBreach = true → s.causeActive .zoneBreach = true) :
      (s.zoneAtCommit.ports.get q).hasNotice .zoneBreach = ((s.ports.get q).hasNotice .zoneBreach ||
        (s.zoneAtCommit.causeActive .zoneBreach && !s.causeActive .zoneBreach)) := by
    have hsame : (s.zoneAtCommit.ports.get q).hasNotice .zoneBreach = (s.ports.get q).hasNotice .zoneBreach :=
      (h.within q _).2 (by simp)
    rw [hsame]
    cases ha : s.zoneAtCommit.causeActive .zoneBreach with
    | false => simp
    | true => simp [hc ha]
  cases hz : s.env.vehicle.zone with
  | false =>
    have heq := zoneAtCommit_left hz
    refine hquiet (by rw [heq]; exact brings_clear s _) fun ha => ?_
    rw [heq] at ha
    simp at ha
  | true =>
    by_cases hm : s.gen.mgr = .off ∨ s.gen.mgr = .stopRequested
    · have heq := zoneAtCommit_stopped hz hm
      simp [heq]
    · have hruns : s.gen.mgr = .startRequested ∨ s.gen.mgr = .run ∨ s.gen.mgr = .absorb := by
        cases h : s.gen.mgr <;> simp [h] at hm ⊢
      cases hs : s.zoneStops with
      | true =>
        have heq := zoneAtCommit_stops hz hruns hs
        refine hquiet (by rw [heq]; exact brings_sendStop s) fun ha => ?_
        obtain ⟨-, hrunning, hoff⟩ := sendStop_gen s
        rw [heq] at ha
        by_cases hg : s.env.genset.state = .off
        · rw [(hoff hg).2.1] at ha
          cases ha
        · rwa [(hrunning hg).2.2] at ha
      | false =>
        have hheld : s.zoneHeld.causeActive .zoneBreach = s.causeActive .zoneBreach ∧ s.zoneHeld.ports = s.ports := by
          rw [zoneHeld_eq]
          exact ⟨rfl, rfl⟩
        obtain ⟨hcause, hports⟩ := hheld
        rw [zoneAtCommit_breach hz hruns hs, raiseZoneBreach_active, ← hcause, ← hports]
        unfold State.raiseZoneBreach
        split_ifs with ha
        · simp [ha]
        · simp [ha]

/-! ### A VEHICLE commit (R49, R50, R116, R117, R165) -/

section
variable (s : State) (values : List Int) (clamped : BitVec 6)

/-- The state in which the zone rule of a VEHICLE commit is read. -/
def State.zoneRead (s : State) (values : List Int) (clamped : BitVec 6) : State :=
  (s.entered .vehicle values clamped).driverRead

theorem commit_vehicle_eq : s.commit .vehicle values clamped = (s.zoneRead values clamped).zoneAtCommit.worsenCodes := rfl

theorem zoneRead_kept : (s.zoneRead values clamped).gen = s.gen ∧ (s.zoneRead values clamped).rc = s.rc ∧
    (s.zoneRead values clamped).now = s.now ∧ (s.zoneRead values clamped).env = (s.commit .vehicle values clamped).env ∧
    (s.zoneRead values clamped).env.storage = s.env.storage ∧ (s.zoneRead values clamped).env.genset = s.env.genset ∧
    (s.zoneRead values clamped).causeActive .zoneBreach = s.causeActive .zoneBreach := by
  obtain ⟨hnow, hrc, henv, hgen⟩ := driverRead_untouched (s.entered .vehicle values clamped)
  have hentry : (s.entered .vehicle values clamped).env = _ := (commit_env_entered s .vehicle values clamped).symm
  refine ⟨hgen.trans (by simp), hrc.trans (by simp), hnow.trans (by simp), henv.trans hentry, ?_, ?_, ?_⟩
  · rw [State.zoneRead, henv, hentry, commit_env, writeEntry_env]
    rfl
  · rw [State.zoneRead, henv, hentry, commit_env, writeEntry_env]
    rfl
  · exact ((brings_driverRead _).apart _ (by simp)).trans ((brings_entered s _ _ _).apart _ (by simp [linkCause]))

theorem commit_vehicle_zone : (s.commit .vehicle values clamped).gen = (s.zoneRead values clamped).zoneAtCommit.gen ∧
    (s.commit .vehicle values clamped).causeActive .zoneBreach =
      (s.zoneRead values clamped).zoneAtCommit.causeActive .zoneBreach :=
  ⟨(brings_worsenCodes _).blocks .genset (by simp), (brings_worsenCodes _).apart _ (by simp)⟩

theorem commit_door : (s.commit .vehicle values clamped).causeActive .doorInterlock = true ↔
    (s.commit .vehicle values clamped).env.vehicle.door ≠ .closed := by
  have hzone : (s.commit .vehicle values clamped).causeActive .doorInterlock =
      (s.zoneRead values clamped).causeActive .doorInterlock :=
    ((brings_worsenCodes _).apart _ (by simp)).trans ((brings_zoneAtCommit _).apart _ (by simp))
  rw [hzone, commit_env_entered]
  exact driverRead_door _

theorem commit_vehicle_rcd : (s.commit .vehicle values clamped).rcd =
    if 0 < (s.commit .vehicle values clamped).env.vehicle.tDrv then s.rcd.returned s.now else s.rcd := by
  have hzone : (s.commit .vehicle values clamped).rcd = (s.zoneRead values clamped).rcd :=
    ((brings_worsenCodes _).blocks .recorder (by simp)).trans ((brings_zoneAtCommit _).blocks .recorder (by simp))
  rw [hzone, commit_env_entered, State.zoneRead, driverRead_rcd]
  simp

theorem commit_zone_left (hz : (s.commit .vehicle values clamped).env.vehicle.zone = false) :
    (s.commit .vehicle values clamped).causeActive .zoneBreach = false ∧
      (s.commit .vehicle values clamped).gen = s.gen := by
  obtain ⟨hgen, -, -, henv, -⟩ := zoneRead_kept s values clamped
  obtain ⟨hafter, hbreach⟩ := commit_vehicle_zone s values clamped
  rw [← henv] at hz
  rw [hafter, hbreach, zoneAtCommit_left hz]
  simp [hgen]

theorem commit_zone_stopped (hz : (s.commit .vehicle values clamped).env.vehicle.zone = true)
    (hm : s.gen.mgr = .off ∨ s.gen.mgr = .stopRequested) : (s.commit .vehicle values clamped).gen = s.gen ∧
      (s.commit .vehicle values clamped).causeActive .zoneBreach = s.causeActive .zoneBreach := by
  obtain ⟨hgen, -, -, henv, -, -, hcause⟩ := zoneRead_kept s values clamped
  obtain ⟨hafter, hbreach⟩ := commit_vehicle_zone s values clamped
  rw [← henv] at hz
  rw [← hgen] at hm
  rw [hafter, hbreach, zoneAtCommit_stopped hz hm]
  exact ⟨hgen, hcause⟩

section
variable (hz : (s.commit .vehicle values clamped).env.vehicle.zone = true)
  (hm : s.gen.mgr = .startRequested ∨ s.gen.mgr = .run ∨ s.gen.mgr = .absorb)
include hz hm

theorem commit_zone_stops (hs : (s.rc.applied.socReserve : Int) + 500 < s.env.storage.soc) :
    (s.commit .vehicle values clamped).gen = { s.gen with
      mgr := (s.commit .vehicle values clamped).gen.mgr, setpoint := 0, start := none, absExit := none, minRun := none
      minOff := (s.commit .vehicle values clamped).gen.minOff } ∧
    (s.env.genset.state ≠ .off → (s.commit .vehicle values clamped).gen.mgr = .stopRequested ∧
      (s.commit .vehicle values clamped).gen.minOff = s.gen.minOff ∧
      (s.commit .vehicle values clamped).causeActive .zoneBreach = s.causeActive .zoneBreach) ∧
    (s.env.genset.state = .off → (s.commit .vehicle values clamped).gen.mgr = .off ∧
      (s.commit .vehicle values clamped).causeActive .zoneBreach = false ∧
      (s.commit .vehicle values clamped).gen.minOff = some (s.now + s.rc.applied.tMinOff * 1000)) := by
  obtain ⟨hgen, hrc, hnow, henv, hstorage, hgenset, hcause⟩ := zoneRead_kept s values clamped
  obtain ⟨hafter, hbreach⟩ := commit_vehicle_zone s values clamped
  rw [← henv] at hz
  have hstops : (s.zoneRead values clamped).zoneStops = true := by
    rw [zoneStops_iff hz, hrc, hstorage]
    exact hs
  rw [← hgen] at hm
  have h := sendStop_gen (s.zoneRead values clamped)
  rw [hafter, hbreach, zoneAtCommit_stops hz hm hstops]
  rwa [hgen, hrc, hnow, hgenset, hcause] at h

theorem commit_zone_breach (hs : s.env.storage.soc ≤ (s.rc.applied.socReserve : Int) + 500) :
    (s.commit .vehicle values clamped).causeActive .zoneBreach = true ∧
    (s.gen.mgr = .absorb → (s.commit .vehicle values clamped).gen =
      { s.gen with mgr := .run, setpoint := 0, absExit := none }) ∧
    (s.gen.mgr ≠ .absorb → (s.commit .vehicle values clamped).gen = s.gen) := by
  obtain ⟨hgen, hrc, -, henv, hstorage, -⟩ := zoneRead_kept s values clamped
  obtain ⟨hafter, hbreach⟩ := commit_vehicle_zone s values clamped
  rw [← henv] at hz
  have hstops : (s.zoneRead values clamped).zoneStops = false := by
    rw [Bool.eq_false_iff, ne_eq, zoneStops_iff hz, hrc, hstorage]
    exact Int.not_lt.mpr hs
  rw [← hgen] at hm ⊢
  rw [hafter, hbreach, zoneAtCommit_breach hz hm hstops, raiseZoneBreach_gen]
  refine ⟨raiseZoneBreach_active _, fun h => ?_, fun h => ?_⟩
  · rw [State.zoneHeld, if_pos h]
    rfl
  · rw [State.zoneHeld, if_neg h]

end

end

/-! ### The notice of a breach (R45, R49, R117) -/

theorem zoneNoticed_of_told (h : s.CausesTold t) (hn : ∀ q, (t.ports.get q).hasNotice .zoneBreach =
    ((s.ports.get q).hasNotice .zoneBreach || (t.causeActive .zoneBreach && !s.causeActive .zoneBreach))) :
    s.ZoneNoticed t := by
  obtain ⟨hcut, hlatch⟩ := h
  refine ⟨hn, fun hoff hon => ⟨fun q => ?_, fun q => ?_⟩⟩
  · have hne : t.cut.live ≠ s.cut.live := fun he => by
      rw [causeActive_of_cut he, hoff] at hon
      cases hon
    rw [hcut q, decide_eq_true hne, Bool.or_true]
  · rw [hlatch q, hon, hoff]
    simp

theorem commit_zone_hasNotice (s : State) (r : Role) (values : List Int) (clamped : BitVec 6) (q : Port) :
    ((s.commit r values clamped).ports.get q).hasNotice .zoneBreach = ((s.ports.get q).hasNotice .zoneBreach ||
      ((s.commit r values clamped).causeActive .zoneBreach && !s.causeActive .zoneBreach)) := by
  by_cases hr : r = .vehicle
  · subst hr
    have hlast : ((s.commit .vehicle values clamped).ports.get q).hasNotice .zoneBreach =
        ((s.zoneRead values clamped).zoneAtCommit.ports.get q).hasNotice .zoneBreach :=
      ((brings_worsenCodes _).within q _).2 (by simp)
    have hfirst : ((s.zoneRead values clamped).ports.get q).hasNotice .zoneBreach = (s.ports.get q).hasNotice .zoneBreach :=
      (((brings_driverRead _).within q _).2 (by simp)).trans (((brings_entered s _ _ _).within q _).2 (by simp))
    obtain ⟨-, -, -, -, -, -, hcause⟩ := zoneRead_kept s values clamped
    obtain ⟨-, hbreach⟩ := commit_vehicle_zone s values clamped
    rw [hlast, hbreach, zoneAtCommit_hasNotice, hfirst, hcause]
  · have hbrings := brings_commit s r values clamped
    have hcause : (s.commit r values clamped).causeActive .zoneBreach = s.causeActive .zoneBreach :=
      hbrings.apart _ (by cases r <;> simp [handedCauses, linkCause] at hr ⊢)
    have hnotice : ((s.commit r values clamped).ports.get q).hasNotice .zoneBreach = (s.ports.get q).hasNotice .zoneBreach :=
      (hbrings.within q _).2 (by cases r <;> simp [handedKinds] at hr ⊢)
    rw [hnotice, hcause]
    simp

end Sys2Proof.Machine
end

section
/-! PROOFS. The slip timer, the friction energy and the triggers of a commit (R51, R52, R124, R125, R139, R165, R166). -/

namespace Sys2Proof.Machine

variable {s t u v : State} {i : Instr} {p : Port} {advance : Bool} {w : Word} {r : Role} {values : List Int}
  {clamped : BitVec 6}

/-! ### The slip hold timer (R51, R52) -/

theorem raise_slipTimer (s : State) (c : Cause) : (s.raise c).cut.slipTimer = s.cut.slipTimer := by simp

theorem setCause_slipTimer (s : State) (c : Cause) (b : Bool) : (s.setCause c b).cut.slipTimer = s.cut.slipTimer := by
  cases b <;> simp [State.setCause]

theorem recomputeLevels_slipTimer (s : State) : s.recomputeLevels.cut.slipTimer = s.cut.slipTimer := by
  rw [(recomputeLevels_formed s).cut]

theorem sendStop_slipTimer (s : State) : s.sendStop.cut.slipTimer = s.cut.slipTimer := by
  unfold State.sendStop
  split_ifs <;> simp [State.enterOff]

theorem raiseZoneBreach_slipTimer (s : State) : s.raiseZoneBreach.cut.slipTimer = s.cut.slipTimer := by
  unfold State.raiseZoneBreach
  split_ifs <;> simp

theorem zoneAtCommit_slipTimer (s : State) : s.zoneAtCommit.cut.slipTimer = s.cut.slipTimer := by
  cases hz : s.env.vehicle.zone with
  | false => simp [zoneAtCommit_left hz]
  | true =>
    by_cases hm : s.gen.mgr = .off ∨ s.gen.mgr = .stopRequested
    · rw [zoneAtCommit_stopped hz hm]
    · have hruns : s.gen.mgr = .startRequested ∨ s.gen.mgr = .run ∨ s.gen.mgr = .absorb := by
        cases h : s.gen.mgr <;> simp [h] at hm ⊢
      cases hs : s.zoneStops with
      | true => rw [zoneAtCommit_stops hz hruns hs, sendStop_slipTimer]
      | false =>
        rw [zoneAtCommit_breach hz hruns hs, raiseZoneBreach_slipTimer, zoneHeld_eq]
        rfl

theorem driverRead_slipTimer (s : State) : s.driverRead.cut.slipTimer = s.cut.slipTimer := by
  unfold State.driverRead
  split_ifs
  · rw [returnLevel_eq]
    exact setCause_slipTimer s _ _
  · exact setCause_slipTimer s _ _

theorem heatLinings_slipTimer (s : State) (dt : Nat) : (s.heatLinings dt).cut.slipTimer = s.cut.slipTimer := by
  by_cases h : (s.heatedLinings dt).map Lining.level = s.wear.lining.map Lining.level
  · rw [heatLinings_steady h]
    rfl
  · rw [heatLinings_changed h, setCause_slipTimer]
    simp [State.lined]

theorem brakeReworn_slip (s : State) (dt : Nat) : (s.brakeReworn dt).causeActive .slip = s.readSlip.causeActive .slip ∧
    (s.brakeReworn dt).cut.slipTimer = s.readSlip.cut.slipTimer :=
  ⟨((brings_recomputeLevels _).apart _ (by simp)).trans ((brings_addLiningWear _ _).apart _ (by simp)),
    recomputeLevels_slipTimer _⟩

theorem brakeHeated_slipTimer (s : State) (dt : Nat) :
    (s.brakeHeated dt).cut.slipTimer = (s.brakeReworn dt).cut.slipTimer :=
  heatLinings_slipTimer (s.brakeReworn dt) dt

theorem closed_slipTimer (s : State) (before : Int) : (s.harshFired before).motionRead.cut.slipTimer = s.cut.slipTimer := by
  unfold State.motionRead State.harshFired
  split_ifs <;> simp

theorem brakeCommitted_slip (s : State) (before : BrakeReport) (dt : Nat) :
    (s.brakeCommitted before dt).causeActive .slip = s.readSlip.causeActive .slip ∧
      (s.brakeCommitted before dt).cut.slipTimer = s.readSlip.cut.slipTimer := by
  obtain ⟨hcause, htimer⟩ := brakeReworn_slip s dt
  rw [brakeCommitted_eq, closed_slipTimer, brakeHeated_slipTimer, htimer, (brings_brakeClosed s before.tRr dt).apart _ (by simp),
    (brings_brakeHeated s dt).apart _ (by simp), hcause]
  exact ⟨rfl, rfl⟩

section
variable (s : State) (values : List Int) (clamped : BitVec 6)

theorem commit_slipTimer_of_other (hr : r ≠ .brake) :
    (s.commit r values clamped).cut.slipTimer = s.cut.slipTimer := by
  have hlast (x : State) : x.worsenCodes.cut.slipTimer = x.cut.slipTimer := by simp
  rw [commit_eq, hlast]
  cases r with
  | brake => exact absurd rfl hr
  | vehicle => exact (zoneAtCommit_slipTimer _).trans ((driverRead_slipTimer _).trans entered_slipTimer)
  | genset => exact (recomputeLevels_slipTimer _).trans entered_slipTimer
  | storage => exact (recomputeLevels_slipTimer _).trans entered_slipTimer
  | traction => exact entered_slipTimer

/-- After the slip flag a BRAKE commit leaves SLIP and its timer. -/
theorem commit_brake_slip :
    (s.commit .brake values clamped).causeActive .slip = (s.entered .brake values clamped).readSlip.causeActive .slip ∧
      (s.commit .brake values clamped).cut.slipTimer = (s.entered .brake values clamped).readSlip.cut.slipTimer := by
  obtain ⟨hcause, htimer⟩ := brakeCommitted_slip (s.entered .brake values clamped) s.env.brake (s.deltaT .brake)
  have hcut (x : State) : x.worsenCodes.cut = x.cut := by simp
  rw [commit_eq, worsenCodes_causeActive, hcut]
  exact ⟨hcause, htimer⟩

/-- What the slip flag of a BRAKE commit reads. -/
theorem entered_brake_slip : (s.entered .brake values clamped).causeActive .slip = s.causeActive .slip ∧
    (s.entered .brake values clamped).cut.slipTimer = s.cut.slipTimer ∧
    (s.entered .brake values clamped).env = (s.commit .brake values clamped).env :=
  ⟨(brings_entered s _ _ _).apart _ (by simp [linkCause]), entered_slipTimer, (commit_env_entered s _ _ _).symm⟩

theorem commit_slipping (h : (s.commit .brake values clamped).env.brake.slip = true) :
    (s.commit .brake values clamped).causeActive .slip = true ∧
      (s.commit .brake values clamped).cut.slipTimer = .running (s.now + s.rc.applied.tSlipHold) := by
  obtain ⟨-, -, henv⟩ := entered_brake_slip s values clamped
  obtain ⟨hcause, htimer⟩ := commit_brake_slip s values clamped
  rw [← henv] at h
  obtain ⟨hactive, hrunning⟩ := readSlip_slipping h
  rw [hcause, htimer, hactive, hrunning]
  simp

theorem commit_slip_ended (h : (s.commit .brake values clamped).env.brake.slip = false)
    (he : s.cut.slipTimer = .expired) : (s.commit .brake values clamped).causeActive .slip = false ∧
      (s.causeActive .slip = true → (s.commit .brake values clamped).cut.slipTimer = .idle) := by
  obtain ⟨hactive, hexpired, henv⟩ := entered_brake_slip s values clamped
  obtain ⟨hcause, htimer⟩ := commit_brake_slip s values clamped
  rw [← henv] at h
  obtain ⟨hoff, hidle⟩ := readSlip_ended h (hexpired.trans he)
  rw [hcause, htimer, hoff]
  exact ⟨rfl, fun ha => hidle (hactive.trans ha)⟩

theorem commit_slip_held (h : (s.commit .brake values clamped).env.brake.slip = false)
    (he : s.cut.slipTimer ≠ .expired) :
    (s.commit .brake values clamped).causeActive .slip = s.causeActive .slip ∧
      (s.commit .brake values clamped).cut.slipTimer = s.cut.slipTimer := by
  obtain ⟨hactive, hexpired, henv⟩ := entered_brake_slip s values clamped
  obtain ⟨hcause, htimer⟩ := commit_brake_slip s values clamped
  rw [← henv] at h
  rw [hcause, htimer, readSlip_held h (hexpired.trans_ne he)]
  exact ⟨hactive, hexpired⟩

/-! ### Friction energy (R124, R125) -/

theorem commit_brake_counters (q : Port) : ((s.commit .brake values clamped).ports.get q).counters =
    { (s.ports.get q).counters with
      fric := (s.ports.get q).counters.fric.add
        ((((s.commit .brake values clamped).env.brake.pfFront + (s.commit .brake values clamped).env.brake.pfMid +
          (s.commit .brake values clamped).env.brake.pfRear) * s.deltaT .brake).tdiv 10) } := by
  have hfirst : (((s.entered .brake values clamped).brakeReworn (s.deltaT .brake)).ports.get q).counters =
      (s.ports.get q).counters :=
    ((brings_brakeReworn _ _).port q .counters (by simp)).trans ((brings_entered s _ _ _).port q .counters (by simp))
  have hheat : ((((s.entered .brake values clamped).brakeReworn (s.deltaT .brake)).heatLinings (s.deltaT .brake)).ports.get q).counters =
      (s.ports.get q).counters := ((brings_heatLinings _ _).port q .counters (by simp)).trans hfirst
  have henv : (((s.entered .brake values clamped).brakeReworn (s.deltaT .brake)).heatLinings (s.deltaT .brake)).env =
      (s.commit .brake values clamped).env := by
    obtain ⟨-, hreworn, -⟩ := brakeReworn_kept (s.entered .brake values clamped) (s.deltaT .brake)
    exact ((brings_heatLinings _ _).blocks .envelope (by simp)).trans
      (hreworn.trans (commit_env_entered s .brake values clamped).symm)
  have hlast : ((s.commit .brake values clamped).ports.get q).counters =
      (((s.entered .brake values clamped).brakeHeated (s.deltaT .brake)).ports.get q).counters :=
    ((brings_worsenCodes _).port q .counters (by simp)).trans ((brings_brakeClosed _ s.env.brake.tRr _).port q .counters (by simp))
  rw [hlast, State.brakeHeated, countFriction_counters, hheat, henv]

/-! ### The triggers of a commit (R139, R165, R166) -/

theorem commit_levelRises (hr : WearRole r) : s.LevelRises (s.commit r values clamped) ↔
    (s.reworn r values clamped).LevelRises (s.reworn r values clamped).recomputeLevels := by
  obtain ⟨hlevels, -⟩ := commit_formed hr s values clamped
  exact levelRises_sameLevels (reworn_sameLevels s r values clamped) hlevels

theorem worsenCodes_recordedAs (x : State) : x.RecordedAs x.worsenCodes :=
  (brings_worsenCodes x).recordedAs (by simp) (by simp) (by simp)

theorem commit_worn_recordedAs (hr : r = .storage ∨ r = .genset) {risen : Bool}
    (h : risen = true ↔ s.LevelRises (s.commit r values clamped)) :
    (s.fired (if risen then [.wearLevel] else [])).RecordedAs (s.commit r values clamped) := by
  have hwears : WearRole r := .inr hr
  have hbefore : s.RecordedAs (s.reworn r values clamped) := by
    have hentered := entered_recordedAs s r values clamped
    obtain rfl | rfl := hr <;>
      exact recordedAs_trans hentered ((brings_setWear _ _).recordedAs (by simp) (by simp) (by simp))
  have hrc := (reworn_untouched s r values clamped).1
  have hnow : (s.reworn r values clamped).now = s.now := (reworn_sameLevels s r values clamped).2.2.1
  have hfired := recordedAs_trans (fired_recordedAs (if risen then [.wearLevel] else []) hbefore hnow hrc)
    (recomputeLevels_fired (h.trans (commit_levelRises s values clamped hwears)))
  obtain rfl | rfl := hr <;> exact recordedAs_trans hfired (worsenCodes_recordedAs _)

end

end Sys2Proof.Machine
end

section
/-! PROOFS. The triggers of a BRAKE commit, and what a commit settles outside wear (R45, R49 to R52, R116, R117, R124, R125, R139,
R165, R166). -/

namespace Sys2Proof.Machine

variable {s t u v : State} {i : Instr} {p : Port} {advance : Bool} {w : Word} {r : Role} {values : List Int}
  {clamped : BitVec 6}

/-! ### The triggers of a BRAKE commit (R139, R165, R166) -/

theorem harshFired_eq (s : State) (before : Int) {harsh : Bool}
    (h : harsh = true ↔ before < s.rc.applied.tHarsh ∧ (s.rc.applied.tHarsh : Int) ≤ s.env.brake.tRr) :
    s.harshFired before = s.fired (if harsh then [.harshBrake] else []) := by
  have hsame : s.harshBrake before = harsh := by
    rw [Bool.eq_iff_iff, h, State.harshBrake, decide_eq_true_eq]
  rw [State.harshFired, hsame]
  split_ifs <;> rfl

theorem motionRead_rcd (s : State) : s.motionRead.rcd =
    if 0 < s.env.brake.v ∨ 0 < s.env.brake.tRr then s.rcd.returned s.now else s.rcd := by
  unfold State.motionRead
  split_ifs
  · rw [returnLevel_eq, setRcd_rcd]
  · rfl

/-- The triggers that a BRAKE commit fires, in their order (entry 16). -/
def brakeTriggers (slipped risen harsh : Bool) : List TriggerCause :=
  (if slipped then [.slipCut] else []) ++ (if risen then [.wearLevel] else []) ++ (if harsh then [.harshBrake] else [])

theorem brakeHeated_kept (s : State) (dt : Nat) : (s.brakeHeated dt).now = s.now ∧ (s.brakeHeated dt).rc = s.rc ∧
    (s.brakeHeated dt).env = s.env := by
  have hheated := (brings_brakeHeated s dt).blocks
  have hreworn := (brings_brakeReworn s dt).blocks
  exact ⟨(hheated .clock (by simp)).trans (hreworn .clock (by simp)),
    (hheated .runControl (by simp)).trans (hreworn .runControl (by simp)),
    (hheated .envelope (by simp)).trans (hreworn .envelope (by simp))⟩

/-- Up to the heat: the slip trigger, then that of a risen level. -/
theorem brakeHeated_recordedAs {dt : Nat} {slipped risen : Bool}
    (hslip : slipped = true ↔ s.env.brake.slip = true ∧ s.causeActive .slip = false)
    (hrise : risen = true ↔ (s.readSlip.addLiningWear dt).LevelRises (s.brakeReworn dt)) :
    ((s.fired (if slipped then [.slipCut] else [])).fired (if risen then [.wearLevel] else [])).RecordedAs
      (s.brakeHeated dt) := by
  obtain ⟨hnow, hrc⟩ := fired_untouched s (if slipped then [.slipCut] else [])
  have hworn : (s.fired (if slipped then [.slipCut] else [])).RecordedAs (s.readSlip.addLiningWear dt) :=
    recordedAs_trans (readSlip_recordedAs hslip) ((brings_addLiningWear _ dt).recordedAs (by simp) (by simp) (by simp))
  have hnow' : (s.readSlip.addLiningWear dt).now = (s.fired (if slipped then [.slipCut] else [])).now := by
    rw [hnow]
    simp
  have hrc' : (s.readSlip.addLiningWear dt).rc = (s.fired (if slipped then [.slipCut] else [])).rc := by
    rw [hrc]
    simp
  have hlevels := recordedAs_trans (fired_recordedAs (if risen then [.wearLevel] else []) hworn hnow' hrc')
    (recomputeLevels_fired hrise)
  exact recordedAs_trans hlevels ((brings_brakeHeated s dt).recordedAs (by simp) (by simp) (by simp))

theorem brakeCommitted_recorded {before : BrakeReport} {dt : Nat} {slipped risen harsh : Bool}
    (hslip : slipped = true ↔ s.env.brake.slip = true ∧ s.causeActive .slip = false)
    (hrise : risen = true ↔ (s.readSlip.addLiningWear dt).LevelRises (s.brakeReworn dt))
    (hharsh : harsh = true ↔ before.tRr < s.rc.applied.tHarsh ∧ (s.rc.applied.tHarsh : Int) ≤ s.env.brake.tRr) :
    (s.fired (brakeTriggers slipped risen harsh)).MarkedAs (s.brakeCommitted before dt) ∧
      (s.brakeCommitted before dt).rcd =
        if 0 < s.env.brake.v ∨ 0 < s.env.brake.tRr then
          (s.fired (brakeTriggers slipped risen harsh)).rcd.returned s.now
        else (s.fired (brakeTriggers slipped risen harsh)).rcd := by
  obtain ⟨hnow, hrc, henv⟩ := brakeHeated_kept s dt
  have hfired := harshFired_eq (s.brakeHeated dt) before.tRr (harsh := harsh) (by rw [hrc, henv]; exact hharsh)
  obtain ⟨hnow1, hrc1⟩ := fired_untouched s (if slipped then [.slipCut] else [])
  obtain ⟨hnow2, hrc2⟩ := fired_untouched (s.fired (if slipped then [.slipCut] else [])) (if risen then [.wearLevel] else [])
  obtain ⟨hnow3, -⟩ := fired_untouched (s.brakeHeated dt) (if harsh then [.harshBrake] else [])
  have hrecorded := fired_recordedAs (if harsh then [.harshBrake] else []) (brakeHeated_recordedAs (dt := dt) hslip hrise)
    (hnow.trans (hnow2.trans hnow1).symm) (hrc.trans (hrc2.trans hrc1).symm)
  have hlist : s.fired (brakeTriggers slipped risen harsh) = ((s.fired (if slipped then [.slipCut] else [])).fired
      (if risen then [.wearLevel] else [])).fired (if harsh then [.harshBrake] else []) := by
    rw [brakeTriggers, fired_append, fired_append]
  rw [← hfired, ← hlist] at hrecorded
  obtain ⟨hrcd, hmarked⟩ := hrecorded
  have hharshEnv : ((s.brakeHeated dt).harshFired before.tRr).env = s.env :=
    ((brings_harshFired _ before.tRr).blocks .envelope (by simp)).trans henv
  have hharshNow : ((s.brakeHeated dt).harshFired before.tRr).now = s.now :=
    ((brings_harshFired _ before.tRr).blocks .clock (by simp)).trans hnow
  rw [brakeCommitted_eq]
  refine ⟨fun q => ?_, ?_⟩
  · obtain ⟨hmissed, hcomplete, hfull⟩ := hmarked q
    obtain ⟨hmissed', hcomplete', hfull'⟩ := (brings_motionRead _).markedAs (by simp) (by simp) q
    exact ⟨hmissed'.trans hmissed, hcomplete'.trans hcomplete, hfull'.trans hfull⟩
  · rw [motionRead_rcd, hharshEnv, hharshNow, hrcd]

section
variable (s : State) (values : List Int) (clamped : BitVec 6)

theorem commit_brake_recorded {slipped risen harsh : Bool}
    (hslip : slipped = true ↔ (s.commit .brake values clamped).env.brake.slip = true ∧ s.causeActive .slip = false)
    (hrise : risen = true ↔ s.LevelRises (s.commit .brake values clamped))
    (hharsh : harsh = true ↔ s.env.brake.tRr < s.rc.applied.tHarsh ∧
      (s.rc.applied.tHarsh : Int) ≤ (s.commit .brake values clamped).env.brake.tRr) :
    (s.fired (brakeTriggers slipped risen harsh)).MarkedAs (s.commit .brake values clamped) ∧
      (s.commit .brake values clamped).rcd =
        if 0 < (s.commit .brake values clamped).env.brake.v ∨ 0 < (s.commit .brake values clamped).env.brake.tRr then
          (s.fired (brakeTriggers slipped risen harsh)).rcd.returned s.now
        else (s.fired (brakeTriggers slipped risen harsh)).rcd := by
  obtain ⟨hactive, -, henv⟩ := entered_brake_slip s values clamped
  have hnow : (s.entered .brake values clamped).now = s.now := by simp
  have hrc : (s.entered .brake values clamped).rc = s.rc := by simp
  obtain ⟨hmarked, hrcd⟩ := brakeCommitted_recorded (s := s.entered .brake values clamped) (before := s.env.brake)
    (dt := s.deltaT .brake) (slipped := slipped) (risen := risen) (harsh := harsh) (by rw [henv, hactive]; exact hslip)
    (hrise.trans (commit_levelRises s values clamped (.inl rfl))) (by rw [hrc, henv]; exact hharsh)
  have hfired := fired_recordedAs (brakeTriggers slipped risen harsh) (entered_recordedAs s .brake values clamped) hnow hrc
  have hlast := worsenCodes_recordedAs ((s.entered .brake values clamped).brakeCommitted s.env.brake (s.deltaT .brake))
  obtain ⟨hrcdFired, hmarkedFired⟩ := hfired
  obtain ⟨hrcdLast, hmarkedLast⟩ := hlast
  rw [henv, hnow, hrcdFired] at hrcd
  refine ⟨fun q => ?_, hrcdLast.trans hrcd⟩
  obtain ⟨h1, h2, h3⟩ := hmarkedFired q
  obtain ⟨h1', h2', h3'⟩ := hmarked q
  obtain ⟨h1'', h2'', h3''⟩ := hmarkedLast q
  exact ⟨h1''.trans (h1'.trans h1), h2''.trans (h2'.trans h2), h3''.trans (h3'.trans h3)⟩

end

end Sys2Proof.Machine
end

section
/-! PROOFS. What a commit settles outside wear, seen after the frame, and the statement about it (R45, R49 to R52, R116, R117,
R124, R125, R139, R165, R166). -/

namespace Sys2Proof.Machine

variable {s t u v : State} {i : Instr} {p : Port} {advance : Bool} {w : Word} {r : Role} {values : List Int}
  {clamped : BitVec 6}

section
variable (s : State) (p : Port) (advance : Bool) (ws : List Word)

theorem writeAnswered_kept (v : State) (x : Reply) : (v.writeAnswered p advance x).cut = v.cut ∧
    (v.writeAnswered p advance x).gen = v.gen ∧ (v.writeAnswered p advance x).rcd = v.rcd := ⟨rfl, rfl, rfl⟩

theorem reportTaken_kept (r : Role) :
    (s.reportTaken p advance r ws).cut = ((s.unassembled p).commit r (reportValues r ws) (clampedSet r ws)).cut ∧
      (s.reportTaken p advance r ws).gen = ((s.unassembled p).commit r (reportValues r ws) (clampedSet r ws)).gen ∧
      (s.reportTaken p advance r ws).rcd = ((s.unassembled p).commit r (reportValues r ws) (clampedSet r ws)).rcd :=
  writeAnswered_kept p advance _ _

theorem reportTaken_counters (r : Role) (q : Port) : ((s.reportTaken p advance r ws).ports.get q).counters =
    (((s.unassembled p).commit r (reportValues r ws) (clampedSet r ws)).ports.get q).counters :=
  (brings_writeAnswered _ p advance _).port q .counters (by simp)

theorem unassembled_counters (q : Port) : ((s.unassembled p).ports.get q).counters = (s.ports.get q).counters :=
  (brings_unassembled s p).port q .counters (by simp)

/-! ### A VEHICLE commit -/

theorem reportTaken_door : (s.reportTaken p advance .vehicle ws).causeActive .doorInterlock = true ↔
    (s.reportTaken p advance .vehicle ws).env.vehicle.door ≠ .closed := by
  obtain ⟨-, henv, -⟩ := reportTaken_seen s p advance ws .vehicle
  rw [reportTaken_causeActive, henv]
  exact commit_door _ _ _

theorem reportTaken_zone_left (hz : (s.reportTaken p advance .vehicle ws).env.vehicle.zone = false) :
    (s.reportTaken p advance .vehicle ws).causeActive .zoneBreach = false ∧
      (s.reportTaken p advance .vehicle ws).gen = s.gen := by
  obtain ⟨-, henv, -⟩ := reportTaken_seen s p advance ws .vehicle
  obtain ⟨-, hgen, -⟩ := reportTaken_kept s p advance ws .vehicle
  rw [henv] at hz
  rw [reportTaken_causeActive, hgen]
  exact commit_zone_left (s.unassembled p) _ _ hz

theorem reportTaken_zone_stopped (hz : (s.reportTaken p advance .vehicle ws).env.vehicle.zone = true)
    (hm : s.gen.mgr = .off ∨ s.gen.mgr = .stopRequested) : (s.reportTaken p advance .vehicle ws).gen = s.gen ∧
      (s.reportTaken p advance .vehicle ws).causeActive .zoneBreach = s.causeActive .zoneBreach := by
  obtain ⟨-, henv, -⟩ := reportTaken_seen s p advance ws .vehicle
  obtain ⟨-, hgen, -⟩ := reportTaken_kept s p advance ws .vehicle
  rw [henv] at hz
  rw [reportTaken_causeActive, hgen]
  exact commit_zone_stopped (s.unassembled p) _ _ hz hm

section
variable (hz : (s.reportTaken p advance .vehicle ws).env.vehicle.zone = true)
  (hm : s.gen.mgr = .startRequested ∨ s.gen.mgr = .run ∨ s.gen.mgr = .absorb)
include hz hm

theorem reportTaken_zone_stops (hs : (s.rc.applied.socReserve : Int) + 500 < s.env.storage.soc) :
    (s.reportTaken p advance .vehicle ws).gen = { s.gen with
      mgr := (s.reportTaken p advance .vehicle ws).gen.mgr, setpoint := 0, start := none, absExit := none, minRun := none
      minOff := (s.reportTaken p advance .vehicle ws).gen.minOff } ∧
    (s.env.genset.state ≠ .off → (s.reportTaken p advance .vehicle ws).gen.mgr = .stopRequested ∧
      (s.reportTaken p advance .vehicle ws).gen.minOff = s.gen.minOff ∧
      (s.reportTaken p advance .vehicle ws).causeActive .zoneBreach = s.causeActive .zoneBreach) ∧
    (s.env.genset.state = .off → (s.reportTaken p advance .vehicle ws).gen.mgr = .off ∧
      (s.reportTaken p advance .vehicle ws).causeActive .zoneBreach = false ∧
      (s.reportTaken p advance .vehicle ws).gen.minOff = some (s.now + s.rc.applied.tMinOff * 1000)) := by
  obtain ⟨-, henv, -⟩ := reportTaken_seen s p advance ws .vehicle
  obtain ⟨-, hgen, -⟩ := reportTaken_kept s p advance ws .vehicle
  rw [henv] at hz
  rw [reportTaken_causeActive, hgen]
  exact commit_zone_stops (s.unassembled p) _ _ hz hm hs

theorem reportTaken_zone_breach (hs : s.env.storage.soc ≤ (s.rc.applied.socReserve : Int) + 500) :
    (s.reportTaken p advance .vehicle ws).causeActive .zoneBreach = true ∧
    (s.gen.mgr = .absorb → (s.reportTaken p advance .vehicle ws).gen =
      { s.gen with mgr := .run, setpoint := 0, absExit := none }) ∧
    (s.gen.mgr ≠ .absorb → (s.reportTaken p advance .vehicle ws).gen = s.gen) := by
  obtain ⟨-, henv, -⟩ := reportTaken_seen s p advance ws .vehicle
  obtain ⟨-, hgen, -⟩ := reportTaken_kept s p advance ws .vehicle
  rw [henv] at hz
  rw [reportTaken_causeActive, hgen]
  exact commit_zone_breach (s.unassembled p) _ _ hz hm hs

end

theorem reportTaken_vehicle_rcd : (s.reportTaken p advance .vehicle ws).rcd =
    if 0 < (s.reportTaken p advance .vehicle ws).env.vehicle.tDrv then s.rcd.returned s.now else s.rcd := by
  obtain ⟨-, henv, -⟩ := reportTaken_seen s p advance ws .vehicle
  obtain ⟨-, -, hrcd⟩ := reportTaken_kept s p advance ws .vehicle
  rw [hrcd, henv]
  exact commit_vehicle_rcd (s.unassembled p) _ _

theorem reportTaken_zoneNoticed (r : Role) : s.ZoneNoticed (s.reportTaken p advance r ws) := by
  have hbefore := brings_unassembled s p
  refine zoneNoticed_of_told (brings_reportTaken s p advance r ws).told fun q => ?_
  rw [reportTaken_hasNotice, reportTaken_causeActive, commit_zone_hasNotice, (hbefore.within q _).2 (by simp),
    hbefore.apart _ (by simp)]

/-! ### A BRAKE commit -/

theorem reportTaken_slipping (h : (s.reportTaken p advance .brake ws).env.brake.slip = true) :
    (s.reportTaken p advance .brake ws).causeActive .slip = true ∧
      (s.reportTaken p advance .brake ws).cut.slipTimer = .running (s.now + s.rc.applied.tSlipHold) := by
  obtain ⟨-, henv, -⟩ := reportTaken_seen s p advance ws .brake
  obtain ⟨hcut, -⟩ := reportTaken_kept s p advance ws .brake
  rw [henv] at h
  rw [reportTaken_causeActive, hcut]
  exact commit_slipping (s.unassembled p) _ _ h

theorem reportTaken_slip_ended (h : (s.reportTaken p advance .brake ws).env.brake.slip = false)
    (he : s.cut.slipTimer = .expired) : (s.reportTaken p advance .brake ws).causeActive .slip = false ∧
      (s.causeActive .slip = true → (s.reportTaken p advance .brake ws).cut.slipTimer = .idle) := by
  obtain ⟨-, henv, -⟩ := reportTaken_seen s p advance ws .brake
  obtain ⟨hcut, -⟩ := reportTaken_kept s p advance ws .brake
  rw [henv] at h
  rw [reportTaken_causeActive, hcut]
  exact commit_slip_ended (s.unassembled p) _ _ h he

theorem reportTaken_slip_held (h : (s.reportTaken p advance .brake ws).env.brake.slip = false)
    (he : s.cut.slipTimer ≠ .expired) :
    (s.reportTaken p advance .brake ws).causeActive .slip = s.causeActive .slip ∧
      (s.reportTaken p advance .brake ws).cut.slipTimer = s.cut.slipTimer := by
  obtain ⟨-, henv, -⟩ := reportTaken_seen s p advance ws .brake
  obtain ⟨hcut, -⟩ := reportTaken_kept s p advance ws .brake
  rw [henv] at h
  rw [reportTaken_causeActive, hcut]
  exact commit_slip_held (s.unassembled p) _ _ h he

theorem reportTaken_brake_counters (q : Port) : ((s.reportTaken p advance .brake ws).ports.get q).counters =
    { (s.ports.get q).counters with
      fric := (s.ports.get q).counters.fric.add
        ((((s.reportTaken p advance .brake ws).env.brake.pfFront + (s.reportTaken p advance .brake ws).env.brake.pfMid +
          (s.reportTaken p advance .brake ws).env.brake.pfRear) * s.deltaT .brake).tdiv 10) } := by
  obtain ⟨-, henv, -⟩ := reportTaken_seen s p advance ws .brake
  rw [reportTaken_counters, henv, ← unassembled_counters s p q]
  exact commit_brake_counters (s.unassembled p) _ _ q

theorem reportTaken_slip_of_other (hr : r ≠ .brake) :
    (s.reportTaken p advance r ws).causeActive .slip = s.causeActive .slip ∧
      (s.reportTaken p advance r ws).cut.slipTimer = s.cut.slipTimer ∧
      ∀ q, ((s.reportTaken p advance r ws).ports.get q).counters = (s.ports.get q).counters := by
  have hbrings := brings_reportTaken s p advance r ws
  obtain ⟨hcut, -⟩ := reportTaken_kept s p advance ws r
  refine ⟨hbrings.apart _ (by cases r <;> simp [handedCauses, linkCause] at hr ⊢), ?_,
    fun q => hbrings.port q .counters (by cases r <;> simp [handedFields] at hr ⊢)⟩
  rw [hcut]
  exact commit_slipTimer_of_other (s.unassembled p) _ _ hr

/-! ### The triggers -/

theorem unassembled_recordedAs : s.RecordedAs (s.unassembled p) :=
  (brings_unassembled s p).recordedAs (by simp) (by simp) (by simp)

theorem reportTaken_levelRises (r : Role) : s.LevelRises (s.reportTaken p advance r ws) ↔
    (s.unassembled p).LevelRises ((s.unassembled p).commit r (reportValues r ws) (clampedSet r ws)) :=
  levelRises_sameLevels (unassembled_sameLevels s p) (writeAnswered_sameLevels _ p advance _)

theorem reportTaken_worn_recordedAs (hr : r = .storage ∨ r = .genset) {risen : Bool}
    (h : risen = true ↔ s.LevelRises (s.reportTaken p advance r ws)) :
    (s.fired (if risen then [.wearLevel] else [])).RecordedAs (s.reportTaken p advance r ws) :=
  recordedAs_trans (recordedAs_trans (fired_recordedAs _ (unassembled_recordedAs s p) rfl rfl)
    (commit_worn_recordedAs (s.unassembled p) _ _ hr (h.trans (reportTaken_levelRises s p advance ws r))))
    ((brings_writeAnswered _ p advance _).recordedAs (by simp) (by simp) (by simp))

theorem reportTaken_brake_recorded {slipped risen harsh : Bool}
    (hslip : slipped = true ↔ (s.reportTaken p advance .brake ws).env.brake.slip = true ∧ s.causeActive .slip = false)
    (hrise : risen = true ↔ s.LevelRises (s.reportTaken p advance .brake ws))
    (hharsh : harsh = true ↔ s.env.brake.tRr < s.rc.applied.tHarsh ∧
      (s.rc.applied.tHarsh : Int) ≤ (s.reportTaken p advance .brake ws).env.brake.tRr) :
    (s.fired (brakeTriggers slipped risen harsh)).MarkedAs (s.reportTaken p advance .brake ws) ∧
      (s.reportTaken p advance .brake ws).rcd =
        if 0 < (s.reportTaken p advance .brake ws).env.brake.v ∨ 0 < (s.reportTaken p advance .brake ws).env.brake.tRr then
          (s.fired (brakeTriggers slipped risen harsh)).rcd.returned s.now
        else (s.fired (brakeTriggers slipped risen harsh)).rcd := by
  obtain ⟨-, henv, -⟩ := reportTaken_seen s p advance ws .brake
  obtain ⟨-, -, hrcd⟩ := reportTaken_kept s p advance ws .brake
  rw [henv] at hslip hharsh ⊢
  obtain ⟨hmarked, hcommit⟩ := commit_brake_recorded (s.unassembled p) _ _ hslip
    (hrise.trans (reportTaken_levelRises s p advance ws .brake)) hharsh
  obtain ⟨hrcdFired, hmarkedFired⟩ := fired_recordedAs (brakeTriggers slipped risen harsh) (unassembled_recordedAs s p) rfl rfl
  have hmarkedLast := (brings_writeAnswered (s.reported p .brake ws) p advance
    (.ok ((clampedSet .brake ws).setWidth 16))).markedAs (by simp) (by simp)
  rw [hrcdFired] at hcommit
  refine ⟨fun q => ?_, hrcd.trans hcommit⟩
  obtain ⟨h1, h2, h3⟩ := hmarkedFired q
  obtain ⟨h1', h2', h3'⟩ := hmarked q
  obtain ⟨h1'', h2'', h3''⟩ := hmarkedLast q
  exact ⟨h1''.trans (h1'.trans h1), h2''.trans (h2'.trans h2), h3''.trans (h3'.trans h3)⟩

end

/-- Settles O25: what every commit tells, then the zone rule and the door, slip and friction, and the triggers. -/
theorem commitSettlesCauses : Obligations.CommitSettlesCauses := by
  intro i p advance w r ws s hi h
  obtain ⟨hexec, -⟩ := exec_completing hi h
  have hbrings := brings_reportTaken s p advance r (ws ++ [w])
  refine ⟨s.reportTaken p advance r (ws ++ [w]), hexec, fun hr => ?vehicle, fun hr => ?notVehicle,
    reportTaken_zoneNoticed s p advance _ r, hbrings.told, fun c hc => ?apart, hbrings.cut, fun hr => ?vehicleNotices,
    fun hr => ?tractionNotices, fun hr => ?wearNotices, fun hr => ?brakeNotices, fun hr => ?brake,
    reportTaken_slip_of_other s p advance _, fun hr => ?vehicleLevel, fun hr => ?tractionLevel,
    fun slipped risen harsh hslip hrise hharsh => ⟨fun hr => reportTaken_worn_recordedAs s p advance _ hr hrise,
      fun hr => ?brakeTriggers⟩⟩
  case vehicle =>
    subst hr
    exact ⟨reportTaken_door s p advance _, reportTaken_zone_left s p advance _, reportTaken_zone_stopped s p advance _,
      fun hz hm => ⟨reportTaken_zone_stops s p advance _ hz hm, reportTaken_zone_breach s p advance _ hz hm⟩⟩
  case notVehicle =>
    constructor <;> exact hbrings.apart _ (by cases r <;> simp [handedCauses, linkCause] at hr ⊢)
  case apart =>
    refine hbrings.apart _ ?_
    obtain rfl | rfl | rfl := hc <;> cases r <;> simp [handedCauses, linkCause]
  case vehicleNotices =>
    subst hr
    exact ⟨hbrings.within, hbrings.markedAs (by simp [handedKinds]) (by simp [handedFields])⟩
  case tractionNotices =>
    subst hr
    exact ⟨hbrings.within, hbrings.markedAs (by simp [handedKinds]) (by simp [handedFields])⟩
  case wearNotices => obtain rfl | rfl := hr <;> exact hbrings.within
  case brakeNotices =>
    subst hr
    exact hbrings.within
  case brake =>
    subst hr
    exact ⟨reportTaken_slipping s p advance _, reportTaken_slip_ended s p advance _, reportTaken_slip_held s p advance _,
      reportTaken_brake_counters s p advance _⟩
  case vehicleLevel =>
    subst hr
    have hrcd := reportTaken_vehicle_rcd s p advance (ws ++ [w])
    exact ⟨fun hpos => hrcd.trans (if_pos hpos), fun hneg => hrcd.trans (if_neg (Int.not_lt.mpr hneg))⟩
  case tractionLevel =>
    subst hr
    exact hbrings.blocks .recorder (by simp [handedBlocks])
  case brakeTriggers =>
    subst hr
    obtain ⟨hmarked, hrcd⟩ := reportTaken_brake_recorded s p advance _ hslip hrise hharsh
    refine ⟨hmarked, fun hmoves => hrcd.trans (if_pos hmoves), fun hv hb => hrcd.trans (if_neg ?_)⟩
    rw [not_or]
    exact ⟨Int.not_lt.mpr hv, Int.not_lt.mpr hb⟩

end Sys2Proof.Machine
end

section
/-! PROOFS. The moves of the genset manager: which one a step makes, and what each brings (R104 to R117). -/

namespace Sys2Proof.Machine

variable {s t u v x y : State}

/-! ### The moves (R108 to R116) -/

/-- What a step of the genset manager does. -/
inductive GensetMove
  | stays | begins | stops | ends | reaches | fails | drops | absorbs | leaves | waits
  deriving DecidableEq

/-- The state after a move. -/
def State.moved (x : State) : GensetMove → State
  | .stays => x
  | .begins => x.setGen { x.gen with mgr := .startRequested, start := some (x.now + x.rc.applied.tStart * 1000) }
  | .stops => x.setGen { x.gen with mgr := .stopRequested, setpoint := 0, minRun := none, start := none, absExit := none }
  | .ends => x.enterOff
  | .reaches => x.startReached
  | .fails => x.failedStart
  | .drops => x.stoppedUnasked
  | .absorbs => x.setGen { x.gen with mgr := .absorb, absExit := none }
  | .leaves => x.leaveAbsorb
  | .waits => x.setGen { x.gen with absExit := x.absorbTimer }

/-- The move toward STOP_REQUESTED, or to OFF when the genset reports OFF. -/
def State.stopMove (x : State) : GensetMove := if x.env.genset.state = .off then .ends else .stops

/-- The move of a step in ACTIVE. -/
def State.activeMove (x : State) : GensetMove :=
  match x.gen.mgr with
  | .off => if elapsed x.gen.minOff x.now && x.startWanted then .begins else .stays
  | .startRequested =>
    if x.zoneStops then x.stopMove
    else if x.env.genset.state = .warmup ∨ x.env.genset.state = .ready then .reaches
    else if x.env.genset.state = .fault ∨ elapsed x.gen.start x.now then .fails
    else .stays
  | .run =>
    if x.gensetStopped then .drops
    else if x.zoneStops then x.stopMove
    else if x.stopWanted then x.stopMove
    else if x.absorbWanted then .absorbs
    else .stays
  | .absorb =>
    if x.gensetStopped then .drops
    else if x.zoneStops then x.stopMove
    else if x.env.vehicle.zone then .leaves
    else if x.absorbEnds then .leaves
    else .waits
  | .stopRequested => if x.gensetStopped then .ends else .stays

/-- The move of a step in STANDBY. -/
def State.standbyMove (x : State) : GensetMove :=
  match x.gen.mgr with
  | .off => .stays
  | .startRequested | .run | .absorb => x.stopMove
  | .stopRequested => if x.gensetStopped then .ends else .stays

/-- The move of a step. -/
def State.move (x : State) : GensetMove :=
  if x.stale .genset then (if x.gen.mgr = .off then .stays else .ends)
  else if x.rc.runState = .active then x.activeMove
  else x.standbyMove

theorem sendStop_moved (x : State) : x.sendStop = x.moved x.stopMove := by
  unfold State.sendStop State.stopMove
  split_ifs <;> rfl

theorem stepActive_moved (x : State) : (match x.gen.mgr with
    | .off => x.stepOff
    | .startRequested => x.stepStartRequested
    | .run => x.stepRun
    | .absorb => x.stepAbsorb
    | .stopRequested => x.stepStopRequested) = x.moved x.activeMove := by
  unfold State.activeMove
  cases x.gen.mgr with
  | off =>
    simp only [State.stepOff]
    split_ifs <;> rfl
  | startRequested =>
    simp only [State.stepStartRequested]
    split_ifs
    · exact sendStop_moved x
    all_goals rfl
  | run =>
    simp only [State.stepRun]
    split_ifs
    · rfl
    · exact sendStop_moved x
    · exact sendStop_moved x
    all_goals rfl
  | absorb =>
    simp only [State.stepAbsorb]
    split_ifs
    · rfl
    · exact sendStop_moved x
    all_goals rfl
  | stopRequested =>
    simp only [State.stepStopRequested]
    split_ifs <;> rfl

theorem stepStandby_moved (x : State) : (match x.gen.mgr with
    | .off => x
    | .startRequested | .run | .absorb => x.sendStop
    | .stopRequested => x.stepStopRequested) = x.moved x.standbyMove := by
  unfold State.standbyMove
  cases x.gen.mgr with
  | off => rfl
  | startRequested => exact sendStop_moved x
  | run => exact sendStop_moved x
  | absorb => exact sendStop_moved x
  | stopRequested =>
    simp only [State.stepStopRequested]
    split_ifs <;> rfl

/-- The model's transition is the move. -/
theorem managerTransition_eq (x : State) : x.managerTransition = x.moved x.move := by
  unfold State.managerTransition State.move
  split_ifs
  · rfl
  · rfl
  · exact stepActive_moved x
  · exact stepStandby_moved x

/-! ### From which manager state a move is made -/

/-- The manager states that a move starts from. -/
def GensetMove.From : GensetMove → ManagerState → Prop
  | .stays, m => m ≠ .absorb
  | .begins, m => m = .off
  | .stops, m => m = .startRequested ∨ m = .run ∨ m = .absorb
  | .ends, m => m ≠ .off
  | .reaches, m => m = .startRequested
  | .fails, m => m = .startRequested
  | .drops, m => m = .run ∨ m = .absorb
  | .absorbs, m => m = .run
  | .leaves, m => m = .absorb
  | .waits, m => m = .absorb

/-- The manager state after a move. -/
def GensetMove.after (m : ManagerState) : GensetMove → ManagerState
  | .stays | .waits => m
  | .begins => .startRequested
  | .stops => .stopRequested
  | .ends | .fails | .drops => .off
  | .reaches | .leaves => .run
  | .absorbs => .absorb

theorem stopMove_from {m : ManagerState} (h : m = .startRequested ∨ m = .run ∨ m = .absorb) :
    x.stopMove.From m := by
  unfold State.stopMove
  split_ifs
  · show m ≠ .off
    obtain rfl | rfl | rfl := h <;> decide
  · exact h

theorem activeMove_from (x : State) : x.activeMove.From x.gen.mgr := by
  unfold State.activeMove
  cases x.gen.mgr with
  | off =>
    dsimp only
    split_ifs <;> simp [GensetMove.From]
  | startRequested =>
    dsimp only
    split_ifs
    · exact stopMove_from (.inl rfl)
    all_goals simp [GensetMove.From]
  | run =>
    dsimp only
    split_ifs
    · simp [GensetMove.From]
    · exact stopMove_from (.inr (.inl rfl))
    · exact stopMove_from (.inr (.inl rfl))
    all_goals simp [GensetMove.From]
  | absorb =>
    dsimp only
    split_ifs
    · simp [GensetMove.From]
    · exact stopMove_from (.inr (.inr rfl))
    all_goals simp [GensetMove.From]
  | stopRequested =>
    dsimp only
    split_ifs <;> simp [GensetMove.From]

theorem standbyMove_from (x : State) : x.standbyMove.From x.gen.mgr := by
  unfold State.standbyMove
  cases x.gen.mgr with
  | off => simp [GensetMove.From]
  | startRequested => exact stopMove_from (.inl rfl)
  | run => exact stopMove_from (.inr (.inl rfl))
  | absorb => exact stopMove_from (.inr (.inr rfl))
  | stopRequested =>
    dsimp only
    split_ifs <;> simp [GensetMove.From]

theorem move_from (x : State) : x.move.From x.gen.mgr := by
  unfold State.move
  split_ifs with hs hm
  · simp [GensetMove.From, hm]
  · exact hm
  · exact activeMove_from x
  · exact standbyMove_from x

/-! ### What a move leaves of the genset manager -/

theorem startReached_gen (x : State) : x.startReached.gen = { x.gen with
    mgr := .run, failCount := 0, start := none, minRun := some (x.now + x.rc.applied.tMinRun * 1000) } := by
  simp [State.startReached]

theorem stoppedUnasked_gen (x : State) : x.stoppedUnasked.gen = x.enterOff.gen := by
  simp [State.stoppedUnasked]

/-- The failed start counted, before it is told. -/
def State.startCounted (x : State) : State := x.enterOff.setGen { x.enterOff.gen with
  failCount := x.enterOff.gen.failCount + 1
  inhibit := x.enterOff.gen.inhibit || decide (x.enterOff.rc.applied.nStartFail ≤ x.enterOff.gen.failCount + 1) }

theorem failedStart_eq (x : State) : x.failedStart =
    ((x.startCounted.raise .gensetStartFail).noticeAll .gensetEvent).trigger .gensetFail := rfl

theorem failedStart_gen (x : State) : x.failedStart.gen = { x.gen with
    mgr := .off, setpoint := 0, minRun := none, start := none, absExit := none
    minOff := some (x.now + x.rc.applied.tMinOff * 1000), failCount := x.gen.failCount + 1
    inhibit := x.gen.inhibit || decide (x.rc.applied.nStartFail ≤ x.gen.failCount + 1) } := by
  have hraised : (x.startCounted.raise .gensetStartFail).gen = x.startCounted.gen := (raise_soft (h := rfl) ..).2
  have htold : x.failedStart.gen = (x.startCounted.raise .gensetStartFail).gen := by simp [failedStart_eq]
  rw [htold, hraised]
  simp [State.startCounted, enterOff_gen]

/-- The genset manager's block after a move. -/
def State.genMoved (x : State) : GensetMove → Genset
  | .stays => x.gen
  | .begins => { x.gen with mgr := .startRequested, start := some (x.now + x.rc.applied.tStart * 1000) }
  | .stops => { x.gen with mgr := .stopRequested, setpoint := 0, minRun := none, start := none, absExit := none }
  | .ends | .drops => { x.gen with
      mgr := .off, setpoint := 0, minRun := none, start := none, absExit := none
      minOff := some (x.now + x.rc.applied.tMinOff * 1000) }
  | .reaches => { x.gen with
      mgr := .run, failCount := 0, start := none, minRun := some (x.now + x.rc.applied.tMinRun * 1000) }
  | .fails => { x.gen with
      mgr := .off, setpoint := 0, minRun := none, start := none, absExit := none
      minOff := some (x.now + x.rc.applied.tMinOff * 1000), failCount := x.gen.failCount + 1
      inhibit := x.gen.inhibit || decide (x.rc.applied.nStartFail ≤ x.gen.failCount + 1) }
  | .absorbs => { x.gen with mgr := .absorb, absExit := none }
  | .leaves => { x.gen with mgr := .run, absExit := none }
  | .waits => { x.gen with absExit := x.absorbTimer }

theorem moved_gen (x : State) (m : GensetMove) : (x.moved m).gen = x.genMoved m := by
  cases m with
  | ends => exact enterOff_gen x
  | reaches => exact startReached_gen x
  | fails => exact failedStart_gen x
  | drops => exact (stoppedUnasked_gen x).trans (enterOff_gen x)
  | _ => rfl

theorem moved_mgr (x : State) (m : GensetMove) : (x.moved m).gen.mgr = m.after x.gen.mgr := by
  rw [moved_gen]
  cases m <;> rfl

theorem moved_dAvg (x : State) (m : GensetMove) : (x.moved m).gen.dAvg = x.gen.dAvg := by
  rw [moved_gen]
  cases m <;> rfl

/-- The starts are counted where one fails or succeeds (R110, R111). -/
theorem moved_counted (x : State) {m : GensetMove} (hr : m ≠ .reaches) (hf : m ≠ .fails) :
    (x.moved m).gen.failCount = x.gen.failCount ∧ (x.moved m).gen.inhibit = x.gen.inhibit := by
  rw [moved_gen]
  cases m with
  | reaches => exact absurd rfl hr
  | fails => exact absurd rfl hf
  | _ => exact ⟨rfl, rfl⟩

/-! ### The timers of a move (R105) -/

section
variable (x : State) {m : GensetMove} (h : m.From x.gen.mgr)
include h

theorem moved_minRun : (x.moved m).gen.minRun =
    if x.gen.mgr = .startRequested ∧ m.after x.gen.mgr = .run then some (x.now + x.rc.applied.tMinRun * 1000)
    else if x.gen.mgr ≠ m.after x.gen.mgr ∧ (m.after x.gen.mgr = .off ∨ m.after x.gen.mgr = .stopRequested) then none
    else x.gen.minRun := by
  rw [moved_gen]
  cases m <;> cases hm : x.gen.mgr <;> simp_all [State.genMoved, GensetMove.From, GensetMove.after]

theorem moved_start : (x.moved m).gen.start =
    if x.gen.mgr = .off ∧ m.after x.gen.mgr = .startRequested then some (x.now + x.rc.applied.tStart * 1000)
    else if x.gen.mgr ≠ m.after x.gen.mgr ∧ (x.gen.mgr = .startRequested ∨ m.after x.gen.mgr = .off ∨
      m.after x.gen.mgr = .stopRequested) then none
    else x.gen.start := by
  rw [moved_gen]
  cases m <;> cases hm : x.gen.mgr <;> simp_all [State.genMoved, GensetMove.From, GensetMove.after]

theorem moved_absExit : (x.moved m).gen.absExit =
    if x.gen.mgr ≠ m.after x.gen.mgr ∧ (x.gen.mgr = .absorb ∨ m.after x.gen.mgr = .absorb ∨
      m.after x.gen.mgr = .off ∨ m.after x.gen.mgr = .stopRequested) then none
    else if x.gen.mgr ≠ .absorb then x.gen.absExit
    else x.absorbTimer := by
  rw [moved_gen]
  cases m <;> cases hm : x.gen.mgr <;> simp_all [State.genMoved, GensetMove.From, GensetMove.after]

theorem moved_minOff : (x.moved m).gen.minOff =
    if x.gen.mgr ≠ .off ∧ m.after x.gen.mgr = .off then some (x.now + x.rc.applied.tMinOff * 1000) else x.gen.minOff := by
  rw [moved_gen]
  cases m <;> cases hm : x.gen.mgr <;> simp_all [State.genMoved, GensetMove.From, GensetMove.after]

end

/-! ### What a move brings (R108 to R117) -/

/-- The causes that a move may raise or clear. -/
def GensetMove.causes : GensetMove → List Cause
  | .stays | .begins | .stops | .absorbs | .leaves | .waits => []
  | .ends | .drops => [.zoneBreach]
  | .reaches => [.gensetStartFail]
  | .fails => [.zoneBreach, .gensetStartFail]

/-- A move that tells of the genset (R111, R112, R114). -/
def GensetMove.tells : GensetMove → Bool
  | .fails | .drops => true
  | .stays | .begins | .stops | .ends | .reaches | .absorbs | .leaves | .waits => false

theorem brings_startReached (x : State) : State.Brings [.gensetStartFail] [.cutbackChange, .gensetEvent] [.notices]
    [.genset, .cutback, .ports] x x.startReached :=
  ((brings_setGen x _).mono (kinds' := [.cutbackChange, .gensetEvent]) (fields' := [.notices])
    (blocks' := [.genset, .cutback, .ports]) (List.Subset.refl _) (by simp) (by simp) (by simp)).then
    (brings_clear _ .gensetStartFail) nofun (by simp) (by simp) (by simp)

theorem brings_stoppedUnasked (x : State) : State.Brings [.zoneBreach] [.cutbackChange, .gensetEvent] [.notices]
    [.genset, .cutback, .ports] x x.stoppedUnasked :=
  ((brings_enterOff x).mono (kinds' := [.cutbackChange, .gensetEvent]) (List.Subset.refl _) (by simp) (List.Subset.refl _)
    (List.Subset.refl _)).then (brings_noticeAll _ .gensetEvent (by decide)) (by simp) (by simp) (by simp) (by simp)

theorem brings_startCounted (x : State) : State.Brings [.zoneBreach] [.cutbackChange] [.notices]
    [.genset, .cutback, .ports] x x.startCounted :=
  (brings_enterOff x).then (brings_setGen _ _) (by simp) (by simp) (by simp) (by simp)

/-- The failed start told, its trigger not yet fired. -/
def State.failTold (x : State) : State := (x.startCounted.raise .gensetStartFail).noticeAll .gensetEvent

theorem brings_failTold (x : State) : State.Brings [.zoneBreach, .gensetStartFail] [.cutbackChange, .gensetEvent]
    [.notices, .latch] [.genset, .cutback, .ports] x x.failTold :=
  (((brings_startCounted x).mono (kinds' := [.cutbackChange, .gensetEvent]) (fields' := [.notices, .latch])
    (List.Subset.refl _) (by simp) (by simp) (List.Subset.refl _)).then
    (brings_setCause_untriggered _ (c := .gensetStartFail) true rfl rfl) (by simp) (by simp) (by simp) (by simp)).then
    (brings_noticeAll _ .gensetEvent (by decide)) (by simp) (by simp) (by simp) (by simp)

theorem brings_failedStart (x : State) : State.Brings [.zoneBreach, .gensetStartFail]
    [.cutbackChange, .gensetEvent, .snapshotComplete, .triggerMissed] [.notices, .missed, .latch]
    [.genset, .cutback, .recorder, .ports] x x.failedStart :=
  ((brings_failTold x).mono (kinds' := [.cutbackChange, .gensetEvent, .snapshotComplete, .triggerMissed])
    (fields' := [.notices, .missed, .latch]) (blocks' := [.genset, .cutback, .recorder, .ports]) (List.Subset.refl _)
    (by simp) (by simp) (by simp)).then (brings_trigger _ .gensetFail) (by simp) (by simp) (by simp) (by simp)

/-- A move other than a failed start. -/
theorem brings_moved_quiet (x : State) {m : GensetMove} (hm : m ≠ .fails) :
    State.Brings m.causes [.cutbackChange, .gensetEvent] [.notices] [.genset, .cutback, .ports] x (x.moved m) := by
  cases m with
  | fails => exact absurd rfl hm
  | stays => exact (brings_refl x).mono (by simp) (by simp) (by simp) (by simp)
  | ends => exact (brings_enterOff x).mono (List.Subset.refl _) (by simp) (by simp) (by simp)
  | reaches => exact brings_startReached x
  | drops => exact brings_stoppedUnasked x
  | _ => exact (brings_setGen x _).mono (by simp) (by simp) (by simp) (by simp)

theorem brings_moved (x : State) (m : GensetMove) : State.Brings m.causes
    [.cutbackChange, .gensetEvent, .snapshotComplete, .triggerMissed] [.notices, .missed, .latch]
    [.genset, .cutback, .recorder, .ports] x (x.moved m) := by
  by_cases hm : m = .fails
  · subst hm
    exact brings_failedStart x
  · exact (brings_moved_quiet x hm).mono (List.Subset.refl _) (by simp) (by simp) (by simp)

/-- Entering OFF ends a breach (R117). -/
theorem moved_breach (x : State) {m : GensetMove} (h : .zoneBreach ∈ m.causes) :
    (x.moved m).causeActive .zoneBreach = false := by
  cases m with
  | ends => exact enterOff_breach x
  | drops => exact ((brings_noticeAll _ .gensetEvent (by decide)).apart _ (by simp)).trans (enterOff_breach x)
  | fails =>
    have hoff : x.startCounted.causeActive .zoneBreach = false := enterOff_breach x
    rw [State.moved, failedStart_eq]
    simp [hoff]
  | _ => simp [GensetMove.causes] at h

theorem moved_startFail (x : State) : (x.moved .fails).causeActive .gensetStartFail = true ∧
    (x.moved .reaches).causeActive .gensetStartFail = false := by
  constructor
  · rw [State.moved, failedStart_eq]
    simp
  · simp [State.moved, State.startReached]

theorem moved_gensetEvent (x : State) (m : GensetMove) (q : Port) : ((x.moved m).ports.get q).hasNotice .gensetEvent =
    ((x.ports.get q).hasNotice .gensetEvent || m.tells) := by
  cases m with
  | ends => simp [State.moved, State.enterOff, GensetMove.tells]
  | reaches => simp [State.moved, State.startReached, GensetMove.tells]
  | drops => simp [State.moved, State.stoppedUnasked, GensetMove.tells]
  | fails =>
    have htrigger := ((brings_trigger x.failTold .gensetFail).within q .gensetEvent).2 (by simp)
    have htold : (x.failTold.ports.get q).hasNotice .gensetEvent = true := by simp [State.failTold]
    rw [GensetMove.tells, Bool.or_true]
    exact htrigger.trans htold
  | _ => simp [State.moved, GensetMove.tells, State.leaveAbsorb]

end Sys2Proof.Machine
end

section
/-! PROOFS. An evaluation's step of the genset manager put together: the demand, the minimum off timer, the move, the breach
(R105 to R118). -/

namespace Sys2Proof.Machine

variable {s t u v x y : State}

/-! ### Before the move (R105, R107) -/

/-- The state in which an evaluation makes the manager's move. -/
def State.prepared (s : State) : State := (s.setSplit s.evaluated).filterDemand.testMinOff

theorem stepped_eq (s : State) : s.stepped = (s.prepared.moved s.prepared.move).settleZoneBreach := by
  rw [← managerTransition_eq]
  rfl

theorem filterDemand_eq (s : State) : s.filterDemand = s.setGen s.filterDemand.gen := by
  unfold State.filterDemand
  split_ifs <;> rfl

theorem prepared_eq (s : State) : s.prepared = (s.setSplit s.evaluated).setGen s.prepared.gen := by
  rw [State.prepared, testMinOff_eq, filterDemand_eq]
  rfl

theorem prepared_kept (s : State) : s.prepared.now = s.now ∧ s.prepared.rc = s.rc ∧ s.prepared.env = s.env ∧
    s.prepared.wear = s.wear ∧ s.prepared.split = s.evaluated := by
  rw [prepared_eq]
  exact ⟨rfl, rfl, rfl, rfl, rfl⟩

theorem filterDemand_gen (s : State) : s.filterDemand.gen = { s.gen with dAvg := s.filterDemand.gen.dAvg } := by
  unfold State.filterDemand
  split_ifs <;> rfl

/-- The average demand and the minimum off timer alone may differ. -/
theorem prepared_gen (s : State) : s.prepared.gen = { s.gen with
    dAvg := (s.setSplit s.evaluated).filterDemand.gen.dAvg
    minOff := if elapsed s.gen.minOff s.now then none else s.gen.minOff } := by
  have hnow : (s.setSplit s.evaluated).filterDemand.now = s.now := by
    rw [filterDemand_eq]
    rfl
  rw [State.prepared, testMinOff_eq, hnow, filterDemand_gen]
  rfl

theorem filterDemand_active (h : s.rc.runState = .active) : s.filterDemand.gen.dAvg = s.gen.dAvg +
    ((s.split.tMc * (s.env.traction.n.natAbs : Int)).tdiv 955 + s.env.vehicle.pAux - s.gen.dAvg).tdiv 64 := by
  rw [State.filterDemand, if_pos h]
  rfl

theorem filterDemand_idle (h : s.rc.runState ≠ .active) : s.filterDemand = s := if_neg h

theorem brings_prepared (s : State) : State.Brings [] [] [] [.split, .genset] s s.prepared := by
  rw [prepared_eq]
  refine brings_of_blocks (fun b hb => ?_) rfl rfl
  cases b <;> simp [Block.Same] at hb ⊢

/-! ### After the move: the breach (R49, R117) -/

theorem brings_settleZoneBreach (y : State) : State.Brings [.zoneBreach] [.cutbackChange, .zoneBreach] [.notices, .latch]
    [.cutback, .ports] y y.settleZoneBreach := by
  unfold State.settleZoneBreach
  split_ifs
  · exact brings_raiseZoneBreach y
  · exact (brings_refl y).mono (by simp) (by simp) (by simp) (by simp)
  · exact (brings_clear y _).mono (List.Subset.refl _) (by simp) (by simp) (by simp)

theorem settleZoneBreach_gen (y : State) : y.settleZoneBreach.gen = y.gen :=
  (brings_settleZoneBreach y).blocks .genset (by simp)

theorem settleZoneBreach_left (hz : y.env.vehicle.zone = false) : y.settleZoneBreach = y.clear .zoneBreach := by
  simp [State.settleZoneBreach, hz]

theorem settleZoneBreach_idle (hz : y.env.vehicle.zone = true) (h1 : y.gen.mgr ≠ .startRequested) (h2 : y.gen.mgr ≠ .run) :
    y.settleZoneBreach = y := by
  simp [State.settleZoneBreach, hz, h1, h2]

theorem settleZoneBreach_hasNotice (y : State) (q : Port) : (y.settleZoneBreach.ports.get q).hasNotice .zoneBreach =
    ((y.ports.get q).hasNotice .zoneBreach || (y.settleZoneBreach.causeActive .zoneBreach && !y.causeActive .zoneBreach)) := by
  cases hz : y.env.vehicle.zone with
  | false =>
    rw [settleZoneBreach_left hz]
    simp
  | true =>
    by_cases hm : y.gen.mgr = .startRequested ∨ y.gen.mgr = .run
    · rw [settleZoneBreach_running hm hz, raiseZoneBreach_active]
      unfold State.raiseZoneBreach
      split_ifs with ha <;> simp [ha]
    · rw [not_or] at hm
      rw [settleZoneBreach_idle hz hm.1 hm.2]
      simp

/-- An entry to OFF has ended the breach, and nothing raises it. -/
theorem settleZoneBreach_entered (hm : y.gen.mgr = .off) (hb : y.causeActive .zoneBreach = false) :
    y.settleZoneBreach = y := by
  cases hz : y.env.vehicle.zone with
  | false => rw [settleZoneBreach_left hz, clear_of_inactive y hb]
  | true => exact settleZoneBreach_idle hz (by simp [hm]) (by simp [hm])

/-! ### The step as a whole -/

theorem after_off_of_breach {m : GensetMove} (h : .zoneBreach ∈ m.causes) (k : ManagerState) : m.after k = .off := by
  cases m <;> simp [GensetMove.causes] at h <;> rfl

theorem settled_entered (x : State) {m : GensetMove} (h : .zoneBreach ∈ m.causes) :
    (x.moved m).settleZoneBreach = x.moved m :=
  settleZoneBreach_entered ((moved_mgr x m).trans (after_off_of_breach h _)) (moved_breach x h)

theorem brings_settled (x : State) (m : GensetMove) : State.Brings [.gensetStartFail, .zoneBreach]
    [.cutbackChange, .zoneBreach, .gensetEvent, .snapshotComplete, .triggerMissed] [.notices, .missed, .latch]
    [.genset, .cutback, .recorder, .ports] x (x.moved m).settleZoneBreach := by
  by_cases h : .zoneBreach ∈ m.causes
  · rw [settled_entered x h]
    exact (brings_moved x m).mono (by cases m <;> simp [GensetMove.causes]) (by simp) (by simp) (by simp)
  · have hapart : ∀ c ∈ m.causes, c ∉ [Cause.zoneBreach] := fun c hc hmem => h (List.mem_singleton.mp hmem ▸ hc)
    exact (((brings_moved x m).mono (kinds' := [.cutbackChange, .zoneBreach, .gensetEvent, .snapshotComplete, .triggerMissed])
      (List.Subset.refl _) (by simp) (List.Subset.refl _) (List.Subset.refl _)).then (brings_settleZoneBreach _) hapart (by simp)
      (by simp) (by simp)).mono (by cases m <;> simp [GensetMove.causes]) (List.Subset.refl _) (List.Subset.refl _)
      (List.Subset.refl _)

/-- Without a failed start the recorder and its marks stand. -/
theorem settled_recordedAs (x : State) {m : GensetMove} (h : m ≠ .fails) : x.RecordedAs (x.moved m).settleZoneBreach :=
  recordedAs_trans ((brings_moved_quiet x h).recordedAs (by simp) (by simp) (by simp))
    ((brings_settleZoneBreach _).recordedAs (by simp) (by simp) (by simp))

theorem settled_fails_recordedAs (x : State) :
    (x.trigger .gensetFail).RecordedAs (x.moved .fails).settleZoneBreach := by
  have hbrings := brings_failTold x
  have htold : x.RecordedAs x.failTold := hbrings.recordedAs (by simp) (by simp) (by simp)
  rw [settled_entered x (m := .fails) (by simp [GensetMove.causes])]
  exact trigger_recordedAs .gensetFail htold (hbrings.blocks .clock (by simp)) (hbrings.blocks .runControl (by simp))

theorem settled_startFail (x : State) (m : GensetMove) : (x.moved m).settleZoneBreach.causeActive .gensetStartFail =
    (x.moved m).causeActive .gensetStartFail := (brings_settleZoneBreach _).apart _ (by simp)

theorem settled_zone_hasNotice (x : State) (m : GensetMove) (q : Port) :
    ((x.moved m).settleZoneBreach.ports.get q).hasNotice .zoneBreach = ((x.ports.get q).hasNotice .zoneBreach ||
      ((x.moved m).settleZoneBreach.causeActive .zoneBreach && !x.causeActive .zoneBreach)) := by
  have hnotice : ((x.moved m).ports.get q).hasNotice .zoneBreach = (x.ports.get q).hasNotice .zoneBreach :=
    ((brings_moved x m).within q _).2 (by simp)
  by_cases h : .zoneBreach ∈ m.causes
  · rw [settled_entered x h, hnotice, moved_breach x h]
    simp
  · rw [settleZoneBreach_hasNotice, hnotice, (brings_moved x m).apart _ h]

/-- ZONE_BREACH after a step (R117). -/
theorem settled_breach (x : State) {m : GensetMove} (hf : m.From x.gen.mgr) :
    (x.env.vehicle.zone = true → m.after x.gen.mgr ≠ .startRequested → m.after x.gen.mgr ≠ .run →
      x.gen.mgr = .off ∨ m.after x.gen.mgr ≠ .off →
      (x.moved m).settleZoneBreach.causeActive .zoneBreach = x.causeActive .zoneBreach) ∧
    (x.env.vehicle.zone = true → m.after x.gen.mgr = .startRequested ∨ m.after x.gen.mgr = .run →
      (x.moved m).settleZoneBreach.causeActive .zoneBreach = true) ∧
    (x.env.vehicle.zone = false ∨ x.gen.mgr ≠ .off ∧ m.after x.gen.mgr = .off →
      (x.moved m).settleZoneBreach.causeActive .zoneBreach = false) := by
  have henv : (x.moved m).env = x.env := (brings_moved x m).blocks .envelope (by simp)
  have hmgr := moved_mgr x m
  refine ⟨fun hz h1 h2 hoff => ?same, fun hz hm => ?raised, fun h => ?ended⟩
  case same =>
    have hno : .zoneBreach ∉ m.causes := fun hmem => by
      have hafter := after_off_of_breach hmem x.gen.mgr
      cases m <;> simp_all [GensetMove.causes, GensetMove.From]
    rw [settleZoneBreach_idle (by rw [henv]; exact hz) (by rwa [hmgr]) (by rwa [hmgr]), (brings_moved x m).apart _ hno]
  case raised => rw [settleZoneBreach_running (by rwa [hmgr]) (by rw [henv]; exact hz), raiseZoneBreach_active]
  case ended =>
    obtain hz | ⟨hon, hoff⟩ := h
    · rw [settleZoneBreach_left (by rw [henv]; exact hz)]
      simp
    · have hmem : .zoneBreach ∈ m.causes := by
        cases m <;> simp_all [GensetMove.causes, GensetMove.after]
      rw [settled_entered x hmem, moved_breach x hmem]

/-- The setpoint and the energy counters, which end an evaluation. -/
theorem brings_evaluate_stepped (s : State) : State.Brings [] [] [.counters] [.genset, .ports] s.stepped s.evaluate := by
  have henergy (y : State) : State.Brings [] [] [.counters] [.ports] y y.countEnergy := by
    refine ⟨State.SameCauses.told ⟨rfl, fun p => ?_⟩, fun c _ => rfl, rfl, fun p k => ?_, fun q f hf => ?_, fun b hb => ?_⟩
    · simp [State.countEnergy, PortState.hasNotice]
    · simp [State.countEnergy, PortState.hasNotice]
    · cases f <;> simp [PortField.Same, State.countEnergy] at hf ⊢
    · cases b <;> simp [Block.Same, State.countEnergy] at hb ⊢
  rw [evaluate_eq]
  exact ((brings_setGen s.stepped _).mono (fields' := [.counters]) (blocks' := [.genset, .ports]) (List.Subset.refl _)
    (List.Subset.refl _) (by simp) (by simp)).then (henergy _) nofun (by simp) (by simp) (by simp)

end Sys2Proof.Machine
end

section
/-! PROOFS. The genset manager's step in an evaluation, read off its move (R105 to R118). -/

namespace Sys2Proof.Machine

variable {s t u x y : State}

/-! ### The step of an evaluation (R106) -/

/-- From `s` an evaluation leads to `t`, and `x` is the state in which the manager moved. -/
structure State.StepTaken (s x t : State) : Prop where
  rc : x.rc = s.rc
  env : x.env = s.env
  wear : x.wear = s.wear
  now : x.now = t.now
  split : x.split = t.split
  prepared : x.gen = { s.gen with
    dAvg := x.gen.dAvg, minOff := if elapsed s.gen.minOff t.now then none else s.gen.minOff }
  gen : t.gen = { x.genMoved x.move with setpoint := t.gen.setpoint }

theorem evaluate_stepTaken (s : State) (n : Nat) :
    s.StepTaken (s.setNow n).prepared (s.setNow n).evaluate := by
  obtain ⟨hnow, hrc, henv, hwear, hsplit⟩ := prepared_kept (s.setNow n)
  have hclock : (s.setNow n).evaluate.now = n := by simp
  have hgen := prepared_gen (s.setNow n)
  refine ⟨hrc, henv, hwear, hnow.trans hclock.symm, hsplit.trans (evaluate_split (s := s.setNow n)).symm, ?_, ?_⟩
  · rw [hclock, hgen]
    rfl
  · rw [evaluate_gen, stepped_eq, settleZoneBreach_gen, moved_gen]

namespace State.StepTaken

variable (h : s.StepTaken x t)
include h

theorem stale : x.stale .genset = s.stale .genset := by rw [State.stale, State.stale, h.env]

theorem highestThermal : x.highestThermal = s.highestThermal := by rw [State.highestThermal, State.highestThermal, h.wear]

/-- What the demand and the minimum off timer leave. -/
theorem prepared_kept : x.gen.mgr = s.gen.mgr ∧ x.gen.inhibit = s.gen.inhibit ∧ x.gen.failCount = s.gen.failCount ∧
    x.gen.start = s.gen.start ∧ x.gen.minRun = s.gen.minRun ∧ x.gen.absExit = s.gen.absExit := by
  rw [h.prepared]
  exact ⟨rfl, rfl, rfl, rfl, rfl, rfl⟩

theorem mgr_prepared : x.gen.mgr = s.gen.mgr := h.prepared_kept.1

theorem elapsed_minOff : elapsed x.gen.minOff x.now = elapsed s.gen.minOff t.now := by
  rw [h.prepared, h.now]
  dsimp only
  split_ifs with he
  · exact he.symm
  · rfl

theorem mgr : t.gen.mgr = x.move.after s.gen.mgr := by
  rw [h.gen, ← h.mgr_prepared, ← moved_mgr, moved_gen]

theorem moved_from : x.move.From s.gen.mgr := h.mgr_prepared ▸ move_from x

theorem dAvg : t.gen.dAvg = x.gen.dAvg := by
  rw [h.gen, ← moved_dAvg x x.move, moved_gen]

theorem counted (hr : x.move ≠ .reaches) (hf : x.move ≠ .fails) :
    t.gen.failCount = s.gen.failCount ∧ t.gen.inhibit = s.gen.inhibit := by
  obtain ⟨hcount, hinhibit⟩ := moved_counted x hr hf
  obtain ⟨-, hi, hc, -⟩ := h.prepared_kept
  rw [moved_gen] at hcount hinhibit
  rw [h.gen]
  exact ⟨hcount.trans hc, hinhibit.trans hi⟩

/-! ### The timers (R105) -/

theorem minRun : t.gen.minRun =
    if s.gen.mgr = .startRequested ∧ t.gen.mgr = .run then some (t.now + s.rc.applied.tMinRun * 1000)
    else if s.gen.mgr ≠ t.gen.mgr ∧ (t.gen.mgr = .off ∨ t.gen.mgr = .stopRequested) then none
    else s.gen.minRun := by
  have hmoved := moved_minRun x (move_from x)
  obtain ⟨hmgr, -, -, -, hrun, -⟩ := h.prepared_kept
  rw [moved_gen, hmgr, h.now, h.rc, hrun, ← h.mgr] at hmoved
  rw [← hmoved, h.gen]

theorem start : t.gen.start =
    if s.gen.mgr = .off ∧ t.gen.mgr = .startRequested then some (t.now + s.rc.applied.tStart * 1000)
    else if s.gen.mgr ≠ t.gen.mgr ∧ (s.gen.mgr = .startRequested ∨ t.gen.mgr = .off ∨ t.gen.mgr = .stopRequested) then none
    else s.gen.start := by
  have hmoved := moved_start x (move_from x)
  obtain ⟨hmgr, -, -, hstart, -⟩ := h.prepared_kept
  rw [moved_gen, hmgr, h.now, h.rc, hstart, ← h.mgr] at hmoved
  rw [← hmoved, h.gen]

theorem absExit : t.gen.absExit =
    if s.gen.mgr ≠ t.gen.mgr ∧
      (s.gen.mgr = .absorb ∨ t.gen.mgr = .absorb ∨ t.gen.mgr = .off ∨ t.gen.mgr = .stopRequested) then none
    else if s.gen.mgr ≠ .absorb then s.gen.absExit
    else if t.split.mode = .braking then none
    else if s.gen.absExit = none then some (t.now + s.rc.applied.tAbsExit * 1000)
    else s.gen.absExit := by
  have hmoved := moved_absExit x (move_from x)
  obtain ⟨hmgr, -, -, -, -, hexit⟩ := h.prepared_kept
  have htimer : x.absorbTimer = if t.split.mode = .braking then none
      else if s.gen.absExit = none then some (t.now + s.rc.applied.tAbsExit * 1000) else s.gen.absExit := by
    rw [State.absorbTimer, h.split, h.now, h.rc, hexit]
    cases s.gen.absExit <;> rfl
  rw [moved_gen, hmgr, hexit, htimer, ← h.mgr] at hmoved
  rw [← hmoved, h.gen]

theorem minOff : t.gen.minOff = if s.gen.mgr ≠ .off ∧ t.gen.mgr = .off then some (t.now + s.rc.applied.tMinOff * 1000)
    else if elapsed s.gen.minOff t.now then none else s.gen.minOff := by
  have hmoved := moved_minOff x (move_from x)
  have hprep : x.gen.minOff = if elapsed s.gen.minOff t.now then none else s.gen.minOff := by rw [h.prepared]
  rw [moved_gen, h.mgr_prepared, h.now, h.rc, hprep, ← h.mgr] at hmoved
  rw [← hmoved, h.gen]

end State.StepTaken

/-! ### The demand and the setpoint (R107, R118) -/

theorem evaluate_dAvg_active (s : State) (n : Nat) (h : s.rc.runState = .active) :
    (s.setNow n).evaluate.gen.dAvg = s.gen.dAvg + (((s.setNow n).evaluate.split.tMc * (s.env.traction.n.natAbs : Int)).tdiv 955 +
      s.env.vehicle.pAux - s.gen.dAvg).tdiv 64 := by
  rw [(evaluate_stepTaken s n).dAvg, prepared_gen, evaluate_split]
  exact filterDemand_active (s := (s.setNow n).setSplit (s.setNow n).evaluated) h

theorem evaluate_dAvg_standby (s : State) (n : Nat) (h : s.rc.runState = .standby) :
    (s.setNow n).evaluate.gen.dAvg = s.gen.dAvg := by
  have hidle : ((s.setNow n).setSplit (s.setNow n).evaluated).rc.runState ≠ .active := fun ha => by
    have hs : s.rc.runState = .active := ha
    simp [h] at hs
  rw [(evaluate_stepTaken s n).dAvg, prepared_gen, filterDemand_idle hidle]
  rfl

theorem evaluate_setpoint_standby (s : State) (n : Nat) (h : s.rc.runState = .standby) :
    (s.setNow n).evaluate.gen.setpoint = 0 := by
  have hrc : (s.setNow n).stepped.rc = s.rc := by simp
  rw [evaluate_gen]
  exact stepSetpoint_idle (.inr (by rw [hrc, h]))

end Sys2Proof.Machine
end

section
/-! PROOFS. What the genset manager's step tells, and the move of each case (R108 to R117). -/

namespace Sys2Proof.Machine

variable {s t u x y : State}

/-! ### The causes, notices and recorder after an evaluation (R117) -/

theorem brings_setNow (s : State) (n : Nat) : State.Brings [] [] [] [.clock] s (s.setNow n) :=
  brings_of_blocks (fun b hb => by cases b <;> simp [Block.Same] at hb ⊢) rfl rfl

/-- What the step leaves, up to the setpoint and the energy counters. -/
theorem brings_evaluate (s : State) : State.Brings [.gensetStartFail, .zoneBreach]
    [.cutbackChange, .zoneBreach, .gensetEvent, .snapshotComplete, .triggerMissed] [.notices, .missed, .latch, .counters]
    [.split, .genset, .cutback, .recorder, .ports] s s.evaluate := by
  have hsettled := brings_settled s.prepared s.prepared.move
  rw [← stepped_eq] at hsettled
  have hprep := (brings_prepared s).mono (kinds' := [.cutbackChange, .zoneBreach, .gensetEvent, .snapshotComplete, .triggerMissed])
    (fields' := [.notices, .missed, .latch, .counters]) (blocks' := [.split, .genset, .cutback, .recorder, .ports])
    (List.Subset.refl _) (by simp) (by simp) (by simp)
  exact (hprep.then hsettled nofun (by simp) (by simp) (by simp)).then (brings_evaluate_stepped s)
    (fun _ _ => List.not_mem_nil) (by simp) (by simp) (by simp)

theorem brings_evaluation (s : State) (n : Nat) : State.Brings [.gensetStartFail, .zoneBreach]
    [.cutbackChange, .zoneBreach, .gensetEvent, .snapshotComplete, .triggerMissed] [.notices, .missed, .latch, .counters]
    [.clock, .split, .genset, .cutback, .recorder, .ports] s (s.setNow n).evaluate :=
  ((brings_setNow s n).mono (kinds' := [.cutbackChange, .zoneBreach, .gensetEvent, .snapshotComplete, .triggerMissed])
    (fields' := [.notices, .missed, .latch, .counters]) (blocks' := [.clock, .split, .genset, .cutback, .recorder, .ports])
    (List.Subset.refl _) (by simp) (by simp) (by simp)).then (brings_evaluate _) nofun (by simp) (by simp) (by simp)

/-- From the prepared state to the end of the evaluation. -/
theorem evaluate_settled_causeActive (s : State) (c : Cause) :
    s.evaluate.causeActive c = (s.prepared.moved s.prepared.move).settleZoneBreach.causeActive c := by
  rw [(brings_evaluate_stepped s).apart c List.not_mem_nil, stepped_eq]

theorem evaluate_hasNotice (s : State) (p : Port) (k : NoticeKind) : (s.evaluate.ports.get p).hasNotice k =
    (((s.prepared.moved s.prepared.move).settleZoneBreach.ports.get p).hasNotice k) := by
  rw [((brings_evaluate_stepped s).within p k).2 List.not_mem_nil, stepped_eq]

theorem prepared_causeActive (s : State) (n : Nat) (c : Cause) : (s.setNow n).prepared.causeActive c = s.causeActive c :=
  (brings_prepared _).apart c List.not_mem_nil

theorem prepared_hasNotice (s : State) (n : Nat) (p : Port) (k : NoticeKind) :
    ((s.setNow n).prepared.ports.get p).hasNotice k = (s.ports.get p).hasNotice k :=
  ((brings_prepared _).within p k).2 List.not_mem_nil

theorem moved_slipTimer (x : State) (m : GensetMove) : (x.moved m).cut.slipTimer = x.cut.slipTimer := by
  cases m <;> simp [State.moved, State.enterOff, State.startReached, State.failedStart, State.stoppedUnasked, State.leaveAbsorb]

theorem settleZoneBreach_slipTimer (y : State) : y.settleZoneBreach.cut.slipTimer = y.cut.slipTimer := by
  unfold State.settleZoneBreach
  split_ifs
  · exact raiseZoneBreach_slipTimer y
  · rfl
  · simp

/-- An evaluation times no wheel slip. -/
theorem evaluate_slipTimer (s : State) (n : Nat) : (s.setNow n).evaluate.cut.slipTimer = s.cut.slipTimer := by
  have hlast : (s.setNow n).evaluate.cut = (s.setNow n).stepped.cut := by simp [evaluate_eq]
  have hfirst : (s.setNow n).prepared.cut = s.cut := (brings_prepared _).blocks .cutback (by simp)
  rw [hlast, stepped_eq, settleZoneBreach_slipTimer, moved_slipTimer, hfirst]

theorem evaluate_cut (s : State) (n : Nat) :
    (s.setNow n).evaluate.cut = { s.cut with live := (s.setNow n).evaluate.cut.live } := by
  have h := (brings_evaluation s n).cut
  rwa [evaluate_slipTimer] at h

theorem evaluate_zoneNoticed (s : State) (n : Nat) : s.ZoneNoticed (s.setNow n).evaluate := by
  refine zoneNoticed_of_told (brings_evaluation s n).told fun q => ?_
  rw [evaluate_hasNotice, settled_zone_hasNotice, prepared_hasNotice, prepared_causeActive, evaluate_settled_causeActive]

theorem evaluate_gensetEvent (s : State) (n : Nat) (q : Port) :
    (((s.setNow n).evaluate.ports.get q).hasNotice .gensetEvent) =
      ((s.ports.get q).hasNotice .gensetEvent || (s.setNow n).prepared.move.tells) := by
  rw [evaluate_hasNotice, ((brings_settleZoneBreach _).within q _).2 (by simp), moved_gensetEvent, prepared_hasNotice]

theorem evaluate_recordedAs (s : State) (n : Nat) (h : (s.setNow n).prepared.move ≠ .fails) :
    s.RecordedAs (s.setNow n).evaluate := by
  have hfirst : s.RecordedAs (s.setNow n).prepared :=
    recordedAs_trans ((brings_setNow s n).recordedAs (by simp) (by simp) (by simp))
      ((brings_prepared _).recordedAs (by simp) (by simp) (by simp))
  have hsettled := settled_recordedAs (s.setNow n).prepared h
  rw [← stepped_eq] at hsettled
  exact recordedAs_trans (recordedAs_trans hfirst hsettled)
    ((brings_evaluate_stepped _).recordedAs (by simp) (by simp) (by simp))

theorem evaluate_fails_recordedAs (s : State) (n : Nat) (h : (s.setNow n).prepared.move = .fails) :
    ((s.setNow n).trigger .gensetFail).RecordedAs (s.setNow n).evaluate := by
  have hbrings := brings_prepared (s.setNow n)
  have hfirst : ((s.setNow n).trigger .gensetFail).RecordedAs ((s.setNow n).prepared.trigger .gensetFail) :=
    trigger_recordedAs .gensetFail (hbrings.recordedAs (by simp) (by simp) (by simp)) (hbrings.blocks .clock (by simp))
      (hbrings.blocks .runControl (by simp))
  have hsettled := settled_fails_recordedAs (s.setNow n).prepared
  rw [← h, ← stepped_eq] at hsettled
  exact recordedAs_trans (recordedAs_trans hfirst hsettled)
    ((brings_evaluate_stepped _).recordedAs (by simp) (by simp) (by simp))

/-- A failed start raises its cause, a reached one clears it, and no other move concerns it. -/
theorem evaluate_startFail (s : State) (n : Nat) :
    ((s.setNow n).prepared.move = .fails → (s.setNow n).evaluate.causeActive .gensetStartFail = true) ∧
    ((s.setNow n).prepared.move = .reaches → (s.setNow n).evaluate.causeActive .gensetStartFail = false) ∧
    ((s.setNow n).prepared.move ≠ .reaches → (s.setNow n).prepared.move ≠ .fails →
      (s.setNow n).evaluate.causeActive .gensetStartFail = s.causeActive .gensetStartFail) := by
  obtain ⟨hfails, hreaches⟩ := moved_startFail (s.setNow n).prepared
  rw [evaluate_settled_causeActive, settled_startFail]
  refine ⟨fun h => h ▸ hfails, fun h => h ▸ hreaches, fun hr hf => ?_⟩
  rw [(brings_moved _ _).apart _ (by cases hm : (s.setNow n).prepared.move <;> simp_all [GensetMove.causes]),
    prepared_causeActive]

end Sys2Proof.Machine
end

section
/-! PROOFS. The move of each case of the manager state, and the settlement of the genset manager's step (R104 to R118). -/

namespace Sys2Proof.Machine

variable {s t u x y : State}

/-! ### The conditions -/

theorem elapsed_iff {timer : Option Nat} {now : Nat} :
    elapsed timer now = true ↔ timer = none ∨ ∃ e, timer = some e ∧ e ≤ now := by
  cases timer <;> simp [elapsed]

theorem absorbExitEnded_iff {timer : Option Nat} {now : Nat} :
    absorbExitEnded timer now = true ↔ ∃ e, timer = some e ∧ e ≤ now := by
  cases timer <;> simp [absorbExitEnded]

theorem gensetStopped_iff (x : State) : x.gensetStopped = true ↔ x.env.genset.state = .off ∨ x.env.genset.state = .fault := by
  simp [State.gensetStopped]

/-- The levels of the three linings. -/
theorem highestThermal_eq (s : State) : s.highestThermal =
    max s.wear.lining.front.level.code (max s.wear.lining.middle.level.code s.wear.lining.rear.level.code) := by
  have h : s.highestThermal =
      max (max (max 0 s.wear.lining.front.level.code) s.wear.lining.middle.level.code) s.wear.lining.rear.level.code := rfl
  rw [h, Nat.zero_max, max_assoc]

/-- The conditions of a step, over the state it starts from and the state it leads to. -/
def State.MayStop (s : State) : Prop :=
  s.env.vehicle.zone = true ∧ (s.rc.applied.socReserve : Int) + 500 < s.env.storage.soc

def State.MayStart (s t : State) : Prop :=
  s.gen.inhibit = false ∧ (s.gen.minOff = none ∨ ∃ e, s.gen.minOff = some e ∧ e ≤ t.now) ∧
    (s.env.storage.soc < s.rc.applied.socStart ∨ (t.split.pDisEff * 3).tdiv 4 < t.gen.dAvg) ∧
    (s.env.vehicle.zone = false ∨ s.env.storage.soc ≤ s.rc.applied.socReserve)

def State.MayRest (s t : State) : Prop :=
  (s.rc.applied.socStop : Int) ≤ s.env.storage.soc ∧ t.gen.dAvg ≤ t.split.pDisEff.tdiv 2 ∧
    (s.gen.minRun = none ∨ ∃ e, s.gen.minRun = some e ∧ e ≤ t.now)

def State.MayAbsorb (s t : State) : Prop :=
  t.split.mode = .braking ∧ 2 ≤ s.highestThermal ∧ (s.rc.applied.socHiTaper : Int) ≤ s.env.storage.soc ∧
    s.env.genset.state = .ready ∧ s.env.vehicle.zone = false ∧ 0 < s.env.genset.pAbsMax

def State.MustLeave (s t : State) : Prop :=
  s.env.vehicle.zone = true ∨ s.highestThermal = 0 ∨
    s.env.storage.soc < (s.rc.applied.socHiTaper : Int) - 300 ∨ s.env.genset.state ≠ .ready ∨
    (t.split.mode ≠ .braking ∧ ∃ e, s.gen.absExit = some e ∧ e ≤ t.now)

namespace State.StepTaken

variable (h : s.StepTaken x t)
include h

theorem stopped_iff : x.gensetStopped = true ↔ s.env.genset.state = .off ∨ s.env.genset.state = .fault := by
  rw [gensetStopped_iff, h.env]

theorem zoneStops_iff : x.zoneStops = true ↔ s.MayStop := by
  simp [State.zoneStops, State.MayStop, h.env, h.rc]

theorem begins_iff : (elapsed x.gen.minOff x.now && x.startWanted) = true ↔ s.MayStart t := by
  obtain ⟨-, hinhibit, -⟩ := h.prepared_kept
  rw [h.elapsed_minOff]
  simp only [State.startWanted, State.MayStart, Bool.and_eq_true, elapsed_iff, h.env, h.rc, h.split, ← h.dAvg, hinhibit]
  simp
  tauto

theorem stopWanted_iff : x.stopWanted = true ↔ s.MayRest t := by
  obtain ⟨-, -, -, -, hrun, -⟩ := h.prepared_kept
  simp [State.stopWanted, State.MayRest, elapsed_iff, h.env, h.rc, h.split, h.now, ← h.dAvg, hrun, and_assoc]

theorem absorbWanted_iff (hs : s.stale .genset = false) : x.absorbWanted = true ↔ s.MayAbsorb t := by
  have hmax : x.takenPAbsMax = s.env.genset.pAbsMax := by simp [State.takenPAbsMax, h.stale, hs, h.env]
  simp [State.absorbWanted, State.MayAbsorb, h.env, h.rc, h.split, h.highestThermal, hmax]

theorem leaves_iff : (x.env.vehicle.zone = true ∨ x.absorbEnds = true) ↔ s.MustLeave t := by
  obtain ⟨-, -, -, -, -, hexit⟩ := h.prepared_kept
  simp only [State.absorbEnds, State.MustLeave, Bool.or_eq_true, Bool.and_eq_true, decide_eq_true_eq, absorbExitEnded_iff,
    h.env, h.rc, h.split, h.now, h.highestThermal, hexit]
  rw [or_comm (a := t.split.mode ≠ .braking ∧ _), or_assoc, or_assoc]

/-! ### The move of each case (R108 to R116) -/

theorem move_stale (hs : s.stale .genset = true) : x.move = if s.gen.mgr = .off then .stays else .ends := by
  rw [State.move, h.stale, if_pos hs, h.mgr_prepared]

section
variable (hs : s.stale .genset = false)
include hs

theorem move_standby (hr : s.rc.runState = .standby) : x.move = x.standbyMove := by
  simp [State.move, h.stale, hs, h.rc, hr]

theorem move_active (hr : s.rc.runState = .active) : x.move = x.activeMove := by
  simp [State.move, h.stale, hs, h.rc, hr]

end

theorem stopMove_after (k : ManagerState) :
    x.stopMove.after k = if s.env.genset.state = .off then .off else .stopRequested := by
  rw [State.stopMove, h.env]
  split_ifs <;> rfl

end State.StepTaken

end Sys2Proof.Machine
end

section
/-! PROOFS. Which move an evaluation makes in ACTIVE, and the settlement of the genset manager's step (R104 to R118). -/

namespace Sys2Proof.Machine

variable {s t u x y : State}

theorem stopMove_quiet (x : State) : x.stopMove ≠ .reaches ∧ x.stopMove ≠ .fails := by
  unfold State.stopMove
  split_ifs <;> simp

theorem standbyMove_quiet (x : State) : x.standbyMove ≠ .reaches ∧ x.standbyMove ≠ .fails := by
  unfold State.standbyMove
  cases x.gen.mgr with
  | off => simp
  | stopRequested =>
    dsimp only
    split_ifs <;> simp
  | _ => exact stopMove_quiet x

theorem stopMove_tells (x : State) : x.stopMove.tells = false := by
  unfold State.stopMove
  split_ifs <;> rfl

theorem standbyMove_tells (x : State) : x.standbyMove.tells = false := by
  unfold State.standbyMove
  cases x.gen.mgr with
  | off => rfl
  | stopRequested =>
    dsimp only
    split_ifs <;> rfl
  | _ => exact stopMove_tells x

/-- A step tells of the genset when a start fails and when the genset has stopped unasked (R111, R112, R114). -/
theorem activeMove_tells_iff (x : State) : x.activeMove.tells = true ↔
    x.gen.mgr = .startRequested ∧ ¬ x.zoneStops = true ∧ ¬ (x.env.genset.state = .warmup ∨ x.env.genset.state = .ready) ∧
      (x.env.genset.state = .fault ∨ elapsed x.gen.start x.now = true) ∨
    (x.gen.mgr = .run ∨ x.gen.mgr = .absorb) ∧ x.gensetStopped = true := by
  unfold State.activeMove
  cases hm : x.gen.mgr with
  | off =>
    dsimp only
    split_ifs <;> simp [GensetMove.tells]
  | startRequested =>
    dsimp only
    split_ifs with hz hw hf
    · simp [stopMove_tells, hz]
    · simp [GensetMove.tells, hw]
    · simp [GensetMove.tells, hz, hw, hf]
    · simp [GensetMove.tells, hf]
  | run =>
    dsimp only
    split_ifs with hg
    · simp [GensetMove.tells, hg]
    · simp [stopMove_tells, hg]
    · simp [stopMove_tells, hg]
    all_goals simp [GensetMove.tells, hg]
  | absorb =>
    dsimp only
    split_ifs with hg
    · simp [GensetMove.tells, hg]
    · simp [stopMove_tells, hg]
    all_goals simp [GensetMove.tells, hg]
  | stopRequested =>
    dsimp only
    split_ifs <;> simp [GensetMove.tells]

namespace State.StepTaken

section
variable (h : s.StepTaken x t)
include h

theorem tells_iff (hstate : s.rc.runState = .standby ∨ s.rc.runState = .active) : x.move.tells = true ↔
    s.rc.runState = .active ∧ s.stale .genset = false ∧
      (s.gen.mgr = .startRequested ∧ ¬ s.MayStop ∧ ¬ (s.env.genset.state = .warmup ∨ s.env.genset.state = .ready) ∧
          (s.env.genset.state = .fault ∨ s.gen.start = none ∨ ∃ e, s.gen.start = some e ∧ e ≤ t.now) ∨
        (s.gen.mgr = .run ∨ s.gen.mgr = .absorb) ∧ (s.env.genset.state = .off ∨ s.env.genset.state = .fault)) := by
  cases hs : s.stale .genset with
  | true =>
    rw [h.move_stale hs]
    split_ifs <;> simp [GensetMove.tells]
  | false =>
    obtain hr | hr := hstate
    · simp [h.move_standby hs hr, standbyMove_tells, hr]
    · obtain ⟨hmgr, -, -, hstart, -⟩ := h.prepared_kept
      rw [h.move_active hs hr, activeMove_tells_iff, h.zoneStops_iff, h.stopped_iff, elapsed_iff, hmgr, hstart, h.env, h.now]
      simp [hr]

/-- In STANDBY, while GENSET is stale and outside START_REQUESTED no start is made or missed. -/
theorem move_quiet (hq : s.rc.runState = .standby ∨ s.stale .genset = true ∨ s.gen.mgr ≠ .startRequested) :
    x.move ≠ .reaches ∧ x.move ≠ .fails := by
  by_cases hm : s.gen.mgr = .startRequested
  · cases hs : s.stale .genset with
    | true =>
      rw [h.move_stale hs, hm]
      simp
    | false =>
      have hr : s.rc.runState = .standby := by simpa [hs, hm] using hq
      exact h.move_standby hs hr ▸ standbyMove_quiet x
  · have hfrom := h.moved_from
    exact ⟨fun he => hm (by rwa [he] at hfrom), fun he => hm (by rwa [he] at hfrom)⟩

theorem move_stops_standby (hs : s.stale .genset = false) (hr : s.rc.runState = .standby)
    (hm : s.gen.mgr = .startRequested ∨ s.gen.mgr = .run ∨ s.gen.mgr = .absorb) : x.move = x.stopMove := by
  rw [h.move_standby hs hr, State.standbyMove, h.mgr_prepared]
  obtain hm | hm | hm := hm <;> rw [hm]

theorem move_off_standby (hs : s.stale .genset = false) (hr : s.rc.runState = .standby) (hm : s.gen.mgr = .off) :
    x.move = .stays := by
  rw [h.move_standby hs hr, State.standbyMove, h.mgr_prepared, hm]

theorem move_stopRequested (hs : s.stale .genset = false) (hm : s.gen.mgr = .stopRequested) :
    x.move = if x.gensetStopped then .ends else .stays := by
  rw [State.move, h.stale, hs]
  simp [State.activeMove, State.standbyMove, h.mgr_prepared, hm]

end

section
variable (h : s.StepTaken x t) (hr : s.rc.runState = .active) (hs : s.stale .genset = false)
include h hr hs

theorem move_begins (hm : s.gen.mgr = .off) (hw : s.MayStart t) : x.move = .begins := by
  rw [h.move_active hs hr, State.activeMove, h.mgr_prepared, hm]
  exact if_pos (h.begins_iff.mpr hw)

theorem move_off (hm : s.gen.mgr = .off) (hw : ¬ s.MayStart t) : x.move = .stays := by
  rw [h.move_active hs hr, State.activeMove, h.mgr_prepared, hm]
  exact if_neg (mt h.begins_iff.mp hw)

theorem move_start_stops (hm : s.gen.mgr = .startRequested) (hz : s.MayStop) : x.move = x.stopMove := by
  rw [h.move_active hs hr, State.activeMove, h.mgr_prepared, hm]
  exact if_pos (h.zoneStops_iff.mpr hz)

section
variable (hm : s.gen.mgr = .startRequested) (hz : ¬ s.MayStop)
include hm hz

theorem move_reaches (hw : s.env.genset.state = .warmup ∨ s.env.genset.state = .ready) : x.move = .reaches := by
  rw [h.move_active hs hr, State.activeMove, h.mgr_prepared, hm, h.env]
  exact (if_neg (mt h.zoneStops_iff.mp hz)).trans (if_pos hw)

variable (hw : ¬ (s.env.genset.state = .warmup ∨ s.env.genset.state = .ready))
include hw

theorem move_start_cold : x.move = if s.env.genset.state = .fault ∨ elapsed s.gen.start t.now then .fails else .stays := by
  obtain ⟨-, -, -, hstart, -⟩ := h.prepared_kept
  rw [h.move_active hs hr, State.activeMove, h.mgr_prepared, hm, h.env, hstart, h.now]
  exact (if_neg (mt h.zoneStops_iff.mp hz)).trans (if_neg hw)

theorem move_fails (he : s.env.genset.state = .fault ∨ s.gen.start = none ∨ ∃ e, s.gen.start = some e ∧ e ≤ t.now) :
    x.move = .fails := by
  rw [h.move_start_cold hr hs hm hz hw]
  exact if_pos (he.imp id elapsed_iff.mpr)

theorem move_start_waits (hf : s.env.genset.state ≠ .fault)
    (he : ¬ (s.gen.start = none ∨ ∃ e, s.gen.start = some e ∧ e ≤ t.now)) : x.move = .stays := by
  rw [h.move_start_cold hr hs hm hz hw]
  exact if_neg (not_or.mpr ⟨hf, mt elapsed_iff.mp he⟩)

end

section
variable (hm : s.gen.mgr = .run ∨ s.gen.mgr = .absorb)
include hm

theorem move_drops (hg : s.env.genset.state = .off ∨ s.env.genset.state = .fault) : x.move = .drops := by
  rw [h.move_active hs hr, State.activeMove, h.mgr_prepared]
  obtain hm | hm := hm <;> rw [hm] <;> exact if_pos (h.stopped_iff.mpr hg)

variable (hg : ¬ (s.env.genset.state = .off ∨ s.env.genset.state = .fault))
include hg

theorem move_run_stops (hz : s.MayStop) : x.move = x.stopMove := by
  rw [h.move_active hs hr, State.activeMove, h.mgr_prepared]
  obtain hm | hm := hm <;> rw [hm] <;>
    exact (if_neg (mt h.stopped_iff.mp hg)).trans (if_pos (h.zoneStops_iff.mpr hz))

end

section
variable (hg : ¬ (s.env.genset.state = .off ∨ s.env.genset.state = .fault)) (hz : ¬ s.MayStop)
include hg hz

theorem move_run (hrun : s.gen.mgr = .run) :
    x.move = if x.stopWanted then x.stopMove else if x.absorbWanted then .absorbs else .stays := by
  rw [h.move_active hs hr, State.activeMove, h.mgr_prepared, hrun]
  exact (if_neg (mt h.stopped_iff.mp hg)).trans (if_neg (mt h.zoneStops_iff.mp hz))

theorem move_absorb (habs : s.gen.mgr = .absorb) :
    x.move = if x.env.vehicle.zone = true ∨ x.absorbEnds = true then .leaves else .waits := by
  have hopen : x.move = if x.env.vehicle.zone then .leaves else if x.absorbEnds then .leaves else .waits := by
    rw [h.move_active hs hr, State.activeMove, h.mgr_prepared, habs]
    exact (if_neg (mt h.stopped_iff.mp hg)).trans (if_neg (mt h.zoneStops_iff.mp hz))
  rw [hopen]
  split_ifs <;> simp_all

end

end

end State.StepTaken

end Sys2Proof.Machine
end

section
/-! PROOFS. The settlement of the genset manager's step in an evaluation (R104 to R118). -/

namespace Sys2Proof.Machine

/-! ### What a step counts and raises -/

/-- A step that neither misses nor makes a start. -/
theorem evaluate_quiet (s : State) (n : Nat)
    (h : (s.setNow n).prepared.move ≠ .reaches ∧ (s.setNow n).prepared.move ≠ .fails) :
    ((s.setNow n).evaluate.gen.failCount = s.gen.failCount ∧ (s.setNow n).evaluate.gen.inhibit = s.gen.inhibit) ∧
    (s.setNow n).evaluate.causeActive .gensetStartFail = s.causeActive .gensetStartFail ∧
    s.RecordedAs (s.setNow n).evaluate :=
  ⟨(evaluate_stepTaken s n).counted h.1 h.2, (evaluate_startFail s n).2.2 h.1 h.2, evaluate_recordedAs s n h.2⟩

theorem evaluate_stopping (s : State) (n : Nat) (h : (s.setNow n).prepared.move = (s.setNow n).prepared.stopMove) :
    (s.setNow n).evaluate.gen.mgr = (if s.env.genset.state = .off then .off else .stopRequested) ∧
    ((s.setNow n).evaluate.gen.failCount = s.gen.failCount ∧ (s.setNow n).evaluate.gen.inhibit = s.gen.inhibit) ∧
    (s.setNow n).evaluate.causeActive .gensetStartFail = s.causeActive .gensetStartFail ∧
    s.RecordedAs (s.setNow n).evaluate := by
  have hstep := evaluate_stepTaken s n
  refine ⟨?_, evaluate_quiet s n (h ▸ stopMove_quiet _)⟩
  rw [hstep.mgr, h, hstep.stopMove_after]

theorem evaluate_failed (s : State) (n : Nat) (h : (s.setNow n).prepared.move = .fails) :
    (s.setNow n).evaluate.gen.mgr = .off ∧ (s.setNow n).evaluate.gen.failCount = s.gen.failCount + 1 ∧
    (s.setNow n).evaluate.gen.inhibit = (s.gen.inhibit || decide (s.rc.applied.nStartFail ≤ s.gen.failCount + 1)) ∧
    (s.setNow n).evaluate.causeActive .gensetStartFail = true ∧ (s.setNow n).evaluate.AllNoticed .gensetEvent ∧
    ((s.setNow n).trigger .gensetFail).RecordedAs (s.setNow n).evaluate := by
  have hstep := evaluate_stepTaken s n
  obtain ⟨-, hinhibit, hcount, -⟩ := hstep.prepared_kept
  have hgen := hstep.gen
  rw [h] at hgen
  refine ⟨?mgr, ?count, ?inhibit, (evaluate_startFail s n).1 h, fun q => ?event, evaluate_fails_recordedAs s n h⟩
  case mgr => rw [hstep.mgr, h, GensetMove.after]
  case count => rw [hgen, State.genMoved, hcount]
  case inhibit => rw [hgen, State.genMoved, hcount, hinhibit, hstep.rc]
  case event => rw [evaluate_gensetEvent, h, GensetMove.tells, Bool.or_true]

theorem evaluate_reached (s : State) (n : Nat) (h : (s.setNow n).prepared.move = .reaches) :
    (s.setNow n).evaluate.gen.mgr = .run ∧ (s.setNow n).evaluate.gen.failCount = 0 ∧
    (s.setNow n).evaluate.gen.inhibit = s.gen.inhibit ∧
    (s.setNow n).evaluate.causeActive .gensetStartFail = false ∧ s.RecordedAs (s.setNow n).evaluate := by
  have hstep := evaluate_stepTaken s n
  obtain ⟨-, hinhibit, -⟩ := hstep.prepared_kept
  have hgen := hstep.gen
  rw [h] at hgen
  refine ⟨?mgr, ?count, ?inhibit, (evaluate_startFail s n).2.1 h, evaluate_recordedAs s n (by simp [h])⟩
  case mgr => rw [hstep.mgr, h, GensetMove.after]
  case count => rw [hgen, State.genMoved]
  case inhibit => rw [hgen, State.genMoved, hinhibit]

/-- A started genset leaves its setpoint at 0 until it runs (R118). -/
theorem evaluate_setpoint_begun (s : State) (n : Nat) (h : (s.setNow n).evaluate.gen.mgr = .startRequested)
    (hr : s.rc.runState = .active) : (s.setNow n).evaluate.gen.setpoint = 0 := by
  rw [evaluate_gen] at h ⊢
  cases hh : (s.setNow n).stepped.hardActive with
  | true => exact stepSetpoint_idle (.inl hh)
  | false =>
    have hrc : (s.setNow n).stepped.rc = s.rc := by simp
    exact stepSetpoint_stopped hh (by rw [hrc, hr]) (.inr (.inl h))

theorem evaluate_breach (s : State) (n : Nat) :
    (s.env.vehicle.zone = true → (s.setNow n).evaluate.gen.mgr ≠ .startRequested → (s.setNow n).evaluate.gen.mgr ≠ .run →
      s.gen.mgr = .off ∨ (s.setNow n).evaluate.gen.mgr ≠ .off →
      (s.setNow n).evaluate.causeActive .zoneBreach = s.causeActive .zoneBreach) ∧
    (s.env.vehicle.zone = true → (s.setNow n).evaluate.gen.mgr = .startRequested ∨ (s.setNow n).evaluate.gen.mgr = .run →
      (s.setNow n).evaluate.causeActive .zoneBreach = true) ∧
    (s.env.vehicle.zone = false ∨ s.gen.mgr ≠ .off ∧ (s.setNow n).evaluate.gen.mgr = .off →
      (s.setNow n).evaluate.causeActive .zoneBreach = false) := by
  have hstep := evaluate_stepTaken s n
  have hbreach := settled_breach (s.setNow n).prepared (move_from (s.setNow n).prepared)
  rwa [hstep.mgr_prepared, ← hstep.mgr, hstep.env, prepared_causeActive, ← evaluate_settled_causeActive] at hbreach

end Sys2Proof.Machine
end

section
/-! PROOFS. The genset manager's step in an evaluation settled (R104 to R118). -/

namespace Sys2Proof.Machine

variable {s t x : State}

/-- The manager state of a step whose move is known. -/
theorem State.StepTaken.mgr_of {m : GensetMove} (h : s.StepTaken x t) (hm : x.move = m) :
    t.gen.mgr = m.after s.gen.mgr := hm ▸ h.mgr

/-- Leaving RUN or ABSORB to stop: STOP_REQUESTED, for the genset does not report OFF. -/
theorem State.StepTaken.mgr_stopRequested (h : s.StepTaken x t)
    (hg : ¬ (s.env.genset.state = .off ∨ s.env.genset.state = .fault)) (hm : x.move = x.stopMove) :
    t.gen.mgr = .stopRequested := by
  rw [h.mgr_of hm, h.stopMove_after, if_neg fun ho => hg (.inl ho)]

/-- Settles O44: the move of each case, and what the move leaves and tells. -/
theorem evaluationStepsGensetManager : Obligations.EvaluationStepsGensetManager := by
  intro d s hrun hstate hdue
  have hstep := evaluate_stepTaken s (max s.now d)
  have hbrings := brings_evaluation s (max s.now d)
  have hbreach := evaluate_breach s (max s.now d)
  have hidle (hr : s.rc.runState = .standby) : ¬ s.rc.runState = .active := by simp [hr]
  refine ⟨(s.arrive d).evaluate, exec_evaluation_of_due hrun hstate hdue, ⟨evaluate_dAvg_active s _,
    fun hr => ⟨evaluate_dAvg_standby s _ hr, evaluate_setpoint_standby s _ hr, fun hm => ?off⟩, fun hs => ?stale,
    fun hq => evaluate_quiet s _ (hstep.move_quiet hq),
    fun hr hs hm => evaluate_stopping s _ (hstep.move_stops_standby hs hr hm), fun hm hs => ?requested,
    fun hr hs => ⟨fun hm hw => ?begins, fun hm hw => ?stays, fun hm hz => ?stops, fun hm hz hw => ?reaches,
      fun hm hz hw he => ?fails, fun hm hz hw hf he => ?waits, fun hm hg => ?drops, fun hm hg hz => ?zone,
      fun hm hg hz hstop => ?rests, fun hm hg hz hstop habs => ?absorbs, fun hm hg hz hstop habs => ?runs,
      fun hm hg hz => ⟨fun hl => ?leaves, fun hl => ?absorbing⟩⟩,
    fun p => ?event, hstep.minRun, hstep.start, hstep.absExit, fun hon hoff => ?minOff, fun hkept => ?minOffKept⟩,
    highestThermal_eq s, evaluate_zoneNoticed s _, hbrings.told, evaluate_cut s _, hbrings.within, hbreach.1, hbreach.2.1,
    hbreach.2.2, fun c hz hg => hbrings.apart c (by simp [hz, hg])⟩
  case off =>
    cases hs : s.stale .genset with
    | true => exact (hstep.mgr_of (hstep.move_stale hs)).trans (by rw [if_pos hm]; exact hm)
    | false => exact (hstep.mgr_of (hstep.move_off_standby hs hr hm)).trans hm
  case stale =>
    refine (hstep.mgr_of (hstep.move_stale hs)).trans ?_
    split_ifs with hm
    · exact hm
    · rfl
  case requested =>
    refine (hstep.mgr_of (hstep.move_stopRequested hs hm)).trans ?_
    by_cases hg : s.env.genset.state = .off ∨ s.env.genset.state = .fault
    · rw [if_pos hg, if_pos (hstep.stopped_iff.mpr hg), GensetMove.after]
    · rw [if_neg hg, if_neg (mt hstep.stopped_iff.mp hg), GensetMove.after, hm]
  case begins =>
    have hbegun := hstep.mgr_of (hstep.move_begins hr hs hm hw)
    exact ⟨hbegun, evaluate_setpoint_begun s _ hbegun hr⟩
  case stays => exact (hstep.mgr_of (hstep.move_off hr hs hm hw)).trans hm
  case stops => exact evaluate_stopping s _ (hstep.move_start_stops hr hs hm hz)
  case reaches => exact evaluate_reached s _ (hstep.move_reaches hr hs hm hz hw)
  case fails =>
    have hclock : (s.arrive d).evaluate.now = max s.now d := by simp [State.arrive]
    rw [hclock]
    exact evaluate_failed s _ (hstep.move_fails hr hs hm hz hw he)
  case waits =>
    have hmove := hstep.move_start_waits hr hs hm hz hw hf he
    exact ⟨(hstep.mgr_of hmove).trans hm, evaluate_quiet s _ (by simp [hmove])⟩
  case drops =>
    have hmove := hstep.move_drops hr hs hm hg
    refine ⟨hstep.mgr_of hmove, fun q => ?_⟩
    exact (evaluate_gensetEvent s _ q).trans (by rw [hmove, GensetMove.tells, Bool.or_true])
  case zone => exact hstep.mgr_stopRequested hg (hstep.move_run_stops hr hs hm hg hz)
  case rests =>
    exact hstep.mgr_stopRequested hg ((hstep.move_run hr hs hg hz hm).trans (if_pos (hstep.stopWanted_iff.mpr hstop)))
  case absorbs =>
    exact hstep.mgr_of ((hstep.move_run hr hs hg hz hm).trans
      ((if_neg (mt hstep.stopWanted_iff.mp hstop)).trans (if_pos ((hstep.absorbWanted_iff hs).mpr habs))))
  case runs =>
    exact (hstep.mgr_of ((hstep.move_run hr hs hg hz hm).trans ((if_neg (mt hstep.stopWanted_iff.mp hstop)).trans
      (if_neg (mt (hstep.absorbWanted_iff hs).mp habs))))).trans hm
  case leaves => exact hstep.mgr_of ((hstep.move_absorb hr hs hg hz hm).trans (if_pos (hstep.leaves_iff.mpr hl)))
  case absorbing =>
    exact (hstep.mgr_of ((hstep.move_absorb hr hs hg hz hm).trans (if_neg (mt hstep.leaves_iff.mp hl)))).trans hm
  case event =>
    refine Iff.trans ?_ (or_congr Iff.rfl (hstep.tells_iff hstate))
    rw [← Bool.or_eq_true, ← evaluate_gensetEvent, State.arrive]
  case minOff => exact hstep.minOff.trans (if_pos ⟨hon, hoff⟩)
  case minOffKept =>
    have hsame := hstep.minOff.trans (if_neg fun hentry => hkept.elim hentry.1 fun hne => hne hentry.2)
    exact ⟨fun he => hsame.trans (if_pos (elapsed_iff.mpr he)), fun he => hsame.trans (if_neg (mt elapsed_iff.mp he))⟩

end Sys2Proof.Machine
end

section
/-! PROOFS. A response frame's fields, words and numbers, the code tables and the record map (R181, R182, R193 to R195). -/

namespace Sys2Proof.Machine

/-! ### A response frame's fields (R182, R194) -/

section
variable (r : Response)

theorem response_payload : r.frame.extractLsb' 1 16 = r.payload := by
  rw [Response.frame, BitVec.extractLsb'_append_eq_of_le (by omega)]
  exact BitVec.extractLsb'_append_eq_right

/-- What stands above the payload. -/
theorem response_head {start len : Nat} (h : 17 ≤ start) : r.frame.extractLsb' start len =
    (r.command ++ r.result.code ++ BitVec.ofBool r.attention ++ r.runState.code ++ r.headline).extractLsb' (start - 17) len := by
  rw [Response.frame, BitVec.extractLsb'_append_eq_of_le (by omega), BitVec.extractLsb'_append_eq_of_le (by omega), Nat.sub_sub]

theorem response_headline : r.frame.extractLsb' 17 5 = r.headline := by
  rw [response_head r (by omega)]
  exact BitVec.extractLsb'_append_eq_right

theorem response_runState : r.frame.extractLsb' 22 2 = r.runState.code := by
  rw [response_head r (by omega), BitVec.extractLsb'_append_eq_of_le (by omega)]
  exact BitVec.extractLsb'_append_eq_right

/-- What stands above the run state. -/
theorem response_top {start len : Nat} (h : 24 ≤ start) : r.frame.extractLsb' start len =
    (r.command ++ r.result.code ++ BitVec.ofBool r.attention).extractLsb' (start - 24) len := by
  rw [response_head r (by omega), BitVec.extractLsb'_append_eq_of_le (by omega), BitVec.extractLsb'_append_eq_of_le (by omega),
    Nat.sub_sub, Nat.sub_sub]

theorem response_attention : r.frame.getLsbD 24 = r.attention := by
  have hfield : r.frame.extractLsb' 24 1 = BitVec.ofBool r.attention := by
    rw [response_top r (by omega)]
    exact BitVec.extractLsb'_append_eq_right
  have hbit : (r.frame.extractLsb' 24 1).getLsbD 0 = r.frame.getLsbD 24 := by rw [BitVec.getLsbD_extractLsb']; rfl
  rw [← hbit, hfield, BitVec.getLsbD_ofBool]
  rfl

theorem response_result : r.frame.extractLsb' 25 3 = r.result.code := by
  rw [response_top r (by omega), BitVec.extractLsb'_append_eq_of_le (by omega)]
  exact BitVec.extractLsb'_append_eq_right

theorem response_command : r.frame.extractLsb' 28 4 = r.command := by
  rw [response_top r (by omega), BitVec.extractLsb'_append_eq_of_le (by omega), BitVec.extractLsb'_append_eq_of_le (by omega)]
  exact BitVec.extractLsb'_eq_self

end

/-! ### Words and numbers (R193) -/

theorem wordOf_toInt {x : Int} (hlo : -32768 ≤ x) (hhi : x ≤ 32767) : (wordOf x).toInt = x := by
  rw [wordOf, BitVec.toInt_ofInt]
  exact Int.bmod_eq_of_le (by omega) (by omega)

theorem wordOfNat_value {n : Nat} (h : n ≤ 65535) : (wordOfNat n).toNat = n := by
  rw [wordOfNat, BitVec.toNat_ofNat]
  omega

theorem twoWords_split {n : Nat} (h : n ≤ 4294967295) : TwoWords (some (highWord n)) (some (lowWord n)) n :=
  twoWords_of_words rfl rfl h

theorem signedWords_join (x : Int) :
    (BitVec.ofInt 32 x).extractLsb' 16 16 ++ (BitVec.ofInt 32 x).extractLsb' 0 16 = BitVec.ofInt 32 x :=
  (BitVec.extractLsb'_append_extractLsb'_eq_extractLsb' rfl).trans BitVec.extractLsb'_eq_self

theorem itemOfNumber_lt {k : Nat} {item : WearItem} (h : itemOfNumber k = some item) : k < 5 := by
  by_contra hk
  obtain ⟨j, rfl⟩ := Nat.exists_eq_add_of_le' (Nat.le_of_not_lt hk)
  cases h

theorem itemOfNumber_past (k : Nat) (h : 5 ≤ k) : itemOfNumber k = none :=
  Option.eq_none_iff_forall_ne_some.mpr fun _ he => absurd (itemOfNumber_lt he) (by omega)

/-! ### The record map (R188, R195) -/

theorem recordAt_of_mem {a : Nat} {r : RecordId} (hlo : r.base ≤ a) (hhi : a < r.base + r.length) : recordAt a = some r := by
  cases r <;> simp only [RecordId.base, RecordId.length] at hlo hhi <;> interval_cases a <;> rfl

theorem recordAt_iff {a : Nat} {r : RecordId} : recordAt a = some r ↔ r.base ≤ a ∧ a < r.base + r.length :=
  ⟨recordAt_base, fun h => recordAt_of_mem h.1 h.2⟩

theorem recordTable_bounds : ∀ x ∈ recordTable, x.1.base = x.2.1 ∧ x.1.length = x.2.2 := by decide

/-! ### Packed words: fields of numbers -/

theorem wordOfNat_fieldAt {n k : Nat} (h : n < 2 ^ k) : wordOfNat n = fieldAt (BitVec.ofNat k n) 0 := by
  refine BitVec.eq_of_toNat_eq ?_
  rw [fieldAt, BitVec.shiftLeft_zero, BitVec.toNat_setWidth, BitVec.toNat_ofNat, Nat.mod_eq_of_lt h]
  rfl

theorem wordOfNat_shifted {k : Nat} (n : Nat) (hk : k ≤ 16) : wordOfNat (n * 2 ^ k) = fieldAt (BitVec.ofNat (16 - k) n) k := by
  refine BitVec.eq_of_getLsbD_eq fun i hi => ?_
  rw [wordOfNat, fieldAt, BitVec.getLsbD_ofNat, Nat.testBit_mul_two_pow, BitVec.getLsbD_shiftLeft, BitVec.getLsbD_setWidth,
    BitVec.getLsbD_ofNat]
  have hsub : i - k < 16 := by omega
  by_cases hki : k ≤ i
  · have hlow : i - k < 16 - k := by omega
    simp [hi, hsub, hki, hlow]
  · simp [hi, hki]

/-- Two numbers packed in one word read back. -/
theorem packed_fields {m n k : Nat} (hk : k ≤ 16) (hn : n < 2 ^ k) :
    ((wordOfNat (m * 2 ^ k) ||| wordOfNat n).extractLsb' k (16 - k)).toNat = m % 2 ^ (16 - k) ∧
    ((wordOfNat (m * 2 ^ k) ||| wordOfNat n).extractLsb' 0 k).toNat = n := by
  rw [wordOfNat_shifted m hk, wordOfNat_fieldAt hn]
  refine ⟨?_, ?_⟩
  · rw [BitVec.extractLsb'_or, extractLsb'_fieldAt_same _ (by omega), extractLsb'_fieldAt_outside _ (by omega), BitVec.or_zero,
      BitVec.toNat_ofNat]
  · rw [BitVec.extractLsb'_or, extractLsb'_fieldAt_same _ (by omega), extractLsb'_fieldAt_outside _ (by omega), BitVec.zero_or,
      BitVec.toNat_ofNat, Nat.mod_eq_of_lt hn]

/-- A field of two bits among packed pairs. -/
theorem packPairs_outside (l : List Nat) {k j m : Nat} (h : j + m ≤ k) : (packPairs l k).extractLsb' j m = 0#m := by
  induction l generalizing k with
  | nil => simp [packPairs]
  | cons x rest ih =>
    rw [packPairs, BitVec.extractLsb'_or, extractLsb'_fieldAt_outside _ (.inl h), ih (by omega), BitVec.or_zero]

theorem packPairs_get {l : List Nat} {i x k : Nat} (h : l[i]? = some x) (hk : k + 2 * i + 2 ≤ 16) :
    (packPairs l k).extractLsb' (k + 2 * i) 2 = BitVec.ofNat 2 x := by
  induction l generalizing i k with
  | nil => simp at h
  | cons y rest ih =>
    rw [packPairs, BitVec.extractLsb'_or]
    cases i with
    | zero =>
      obtain rfl : y = x := by simpa using h
      rw [Nat.mul_zero, Nat.add_zero, extractLsb'_fieldAt_same _ (by omega), packPairs_outside _ (by omega), BitVec.or_zero]
    | succ i =>
      rw [extractLsb'_fieldAt_outside _ (by omega), BitVec.zero_or, show k + 2 * (i + 1) = k + 2 + 2 * i by omega]
      exact ih (by simpa using h) (by omega)

theorem packPairs_value {l : List Nat} {i x : Nat} (h : l[i]? = some x) (hi : i < 8) (hx : x ≤ 3) :
    ((packPairs l 0).extractLsb' (2 * i) 2).toNat = x := by
  have hget := packPairs_get (k := 0) h (by omega)
  rw [Nat.zero_add] at hget
  rw [hget, BitVec.toNat_ofNat]
  omega

end Sys2Proof.Machine
end

section
/-! PROOFS. The words of the records and regions, word by word (R16, R23, R80, R94, R121, R127, R143, R147, R150, R173, R178,
R196 to R198). -/

namespace Sys2Proof.Machine

variable (s : State) (p : Port)

/-! ### Report regions (R21 to R23) -/

theorem plainWord_reports :
    (let x := s.env
     (List.range 6).map (fun k => s.plainWord p (0x10 + k)) =
        [some (wordOf x.vehicle.tDrv), some (wordOf x.vehicle.pAux), some (x.vehicle.direction.code.setWidth 16),
          some (wordOfNat x.vehicle.door.code), some (if x.vehicle.zone = true then 1#16 else 0#16),
          some (wordOf x.vehicle.ambient)] ∧
      (List.range 6).map (fun k => s.plainWord p (0x18 + k)) =
        [some (wordOfNat x.genset.state.code), some (wordOf x.genset.pGs), some (wordOf x.genset.pGsAvail),
          some (wordOf x.genset.pAbsMax), none, none] ∧
      (List.range 6).map (fun k => s.plainWord p (0x20 + k)) =
        [some (wordOf x.storage.soc), some (wordOf x.storage.pDisRep), some (wordOf x.storage.pChgRep),
          some (wordOf x.storage.pBat), some (wordOf x.storage.temperature), none] ∧
      (List.range 6).map (fun k => s.plainWord p (0x28 + k)) =
        [some (wordOf x.traction.n), some (wordOf x.traction.tMotMax), some (wordOf x.traction.tGenMax), none, none,
          none] ∧
      (List.range 6).map (fun k => s.plainWord p (0x30 + k)) =
        [some (wordOf x.brake.v), some (wordOf x.brake.tRr), some (if x.brake.slip = true then 1#16 else 0#16),
          some (wordOf x.brake.pfFront), some (wordOf x.brake.pfMid), some (wordOf x.brake.pfRear)]) := by
  have hfield : fieldAt s.env.vehicle.direction.code 0 = s.env.vehicle.direction.code.setWidth 16 := BitVec.shiftLeft_zero _
  refine ⟨?_, rfl, rfl, rfl, rfl⟩
  rw [← hfield]
  rfl

theorem plainWord_entry (r : Role) : s.plainWord p (0x16 + 8 * r.index) = some (s.entryFlags r) ∧
    s.plainWord p (0x17 + 8 * r.index) = some (s.entryAge r) := by
  cases r <;> exact ⟨rfl, rfl⟩

theorem entryFlags_fields (r : Role) : (s.entryFlags r).getLsbD 15 = (s.env.book.get r).received ∧
    (s.entryFlags r).getLsbD 14 = s.stale r ∧ (s.entryFlags r).getLsbD 13 = (s.env.book.get r).clamped ∧
    (s.entryFlags r).extractLsb' 0 6 = (s.env.book.get r).clampedSet := by
  refine ⟨?_, ?_, ?_, ?_⟩
  case refine_4 => simp [State.entryFlags, BitVec.extractLsb'_or]
  all_goals simp [State.entryFlags, State.stale, -BitVec.getLsbD_eq_getElem]

theorem entryAge_uncommitted {r : Role} (h : (s.env.book.get r).commitAt = none) : s.entryAge r = 0xFFFF#16 := by
  rw [State.entryAge, h]

theorem entryAge_committed {r : Role} {c : Nat} (h : (s.env.book.get r).commitAt = some c) :
    s.entryAge r = wordOfNat (min 65535 (s.now - c)) := by
  rw [State.entryAge, h]

theorem plainWord_entries (r : Role) :
    (∃ w : Word, s.plainWord p (0x16 + 8 * r.index) = some w ∧ w.getLsbD 15 = (s.env.book.get r).received ∧
      w.getLsbD 14 = s.stale r ∧ w.getLsbD 13 = (s.env.book.get r).clamped ∧
      w.extractLsb' 0 6 = (s.env.book.get r).clampedSet) ∧
    ((s.env.book.get r).commitAt = none → s.plainWord p (0x17 + 8 * r.index) = some 0xFFFF#16) ∧
    ∀ c, (s.env.book.get r).commitAt = some c →
      s.plainWord p (0x17 + 8 * r.index) = some (wordOfNat (min 65535 (s.now - c))) := by
  obtain ⟨hflags, hage⟩ := plainWord_entry s p r
  refine ⟨⟨_, hflags, entryFlags_fields s r⟩, fun h => ?_, fun c h => ?_⟩
  · rw [hage, entryAge_uncommitted s h]
  · rw [hage, entryAge_committed s h]

/-! ### Settings regions (R16, R198) -/

theorem plainWord_setting {o : Nat} (h : o < 0x100) :
    s.plainWord p (0x200 + o) = (settingAt o).map s.rc.staged.word ∧
    s.plainWord p (0x300 + o) = (settingAt o).map s.rc.applied.word := by
  have hlow (n : Nat) (hn : 0x200 ≤ n) : ¬ n < 0x10 ∧ ¬ n < 0x40 ∧ ¬ (dumpRangeBase ≤ n ∧ n < dumpRangeBase + 3) ∧
      ¬ (0xC0 ≤ n ∧ n < 0xD4) := by
    simp only [dumpRangeBase]
    omega
  obtain ⟨h1, h2, h3, h4⟩ := hlow (0x200 + o) (by omega)
  obtain ⟨g1, g2, g3, g4⟩ := hlow (0x300 + o) (by omega)
  constructor
  · rw [State.plainWord, if_neg h1, if_neg h2, if_neg h3, if_neg h4, if_pos (by omega), Nat.add_sub_cancel_left]
  · rw [State.plainWord, if_neg g1, if_neg g2, if_neg g3, if_neg g4, if_neg (by omega), if_pos (by omega),
      Nat.add_sub_cancel_left]

/-- The low word of a two-word setting follows its high word. -/
theorem settingAt_low {o : Nat} {k : WideSetting} (h : settingAt o = some (.high k)) :
    settingAt (o + 1) = some (.low k) ∧ o + 1 < 0x100 := by
  have hbound : o < 0x5E := by
    by_contra hn
    rw [settingAt_none (by omega) (.inr (by omega))] at h
    cases h
  interval_cases o <;> cases h <;> exact ⟨rfl, by decide⟩

theorem plainWord_settings (o : Nat) (ho : o < 0x100) :
    (∀ k, settingAt o = some (.one k) → s.plainWord p (0x200 + o) = some (wordOfNat (s.rc.staged.get k)) ∧
      s.plainWord p (0x300 + o) = some (wordOfNat (s.rc.applied.get k))) ∧
    (∀ k, settingAt o = some (.high k) →
      (s.rc.staged.getWide k ≤ 4294967295 →
        TwoWords (s.plainWord p (0x200 + o)) (s.plainWord p (0x201 + o)) (s.rc.staged.getWide k)) ∧
      (s.rc.applied.getWide k ≤ 4294967295 →
        TwoWords (s.plainWord p (0x300 + o)) (s.plainWord p (0x301 + o)) (s.rc.applied.getWide k))) ∧
    (settingAt o = none → s.plainWord p (0x200 + o) = none ∧ s.plainWord p (0x300 + o) = none) := by
  obtain ⟨hstaged, happlied⟩ := plainWord_setting s p ho
  refine ⟨fun k h => ?one, fun k h => ?wide, fun h => ?absent⟩
  case one =>
    rw [hstaged, happlied, h]
    exact ⟨rfl, rfl⟩
  case wide =>
    obtain ⟨hnext, hlt⟩ := settingAt_low h
    obtain ⟨hstagedLow, happliedLow⟩ := plainWord_setting s p hlt
    rw [show 0x201 + o = 0x200 + (o + 1) by omega, show 0x301 + o = 0x300 + (o + 1) by omega, hstaged, happlied, hstagedLow,
      happliedLow, h, hnext]
    exact ⟨twoWords_split, twoWords_split⟩
  case absent =>
    rw [hstaged, happlied, h]
    exact ⟨rfl, rfl⟩

/-! ### The status and command records (R79 to R81, R94, R121) -/

theorem status_first : ∃ w : Word, (s.recordWords p .status).head? = some w ∧ w.extractLsb' 14 2 = s.rc.runState.code ∧
    w.extractLsb' 12 2 = s.split.mode.code ∧ w.extractLsb' 10 2 = s.split.dir.code ∧
    w.extractLsb' 8 2 = pendingCode s.split.pendingDir ∧ w.extractLsb' 0 8 = 0#8 := by
  refine ⟨_, rfl, ?_⟩
  simp [BitVec.extractLsb'_or]

theorem status_stale : ∃ w : Word, (s.recordWords p .status)[10]? = some w ∧ (∀ r : Role, w.getLsbD r.index = s.stale r) ∧
    w.extractLsb' 5 11 = 0#11 := by
  have hword : (s.recordWords p .status)[10]? = some (0#16 ||| flagAt (s.stale .vehicle) 0 ||| flagAt (s.stale .genset) 1 |||
      flagAt (s.stale .storage) 2 ||| flagAt (s.stale .traction) 3 ||| flagAt (s.stale .brake) 4) := rfl
  refine ⟨_, hword, fun r => ?_, ?_⟩
  · cases r <;> simp [Role.index, -BitVec.getLsbD_eq_getElem]
  · simp [BitVec.extractLsb'_or]

theorem traction_torque : (s.recordWords p .traction)[0]? =
    some (wordOf (if s.split.dir = .reverse then -s.split.tMc else s.split.tMc)) := by
  have hword : (s.recordWords p .traction)[0]? = some (wordOf s.split.motorSense) := rfl
  rw [hword, Split.motorSense]
  cases s.split.dir <;> rfl

theorem traction_direction : (s.recordWords p .traction)[1]? = some (s.split.dir.code.setWidth 16) :=
  congrArg some (BitVec.shiftLeft_zero _)

theorem traction_valid : ∃ w : Word, (s.recordWords p .traction)[2]? = some w ∧ w.getLsbD 0 = s.split.valid :=
  ⟨_, rfl, getLsbD_flagAt_same _ (by decide)⟩

theorem brake_regen : ∃ w : Word, (s.recordWords p .brake)[2]? = some w ∧ w.extractLsb' 13 3 = s.split.source.code ∧
    (0 ≤ s.split.lRegen → s.split.lRegen ≤ 3000 → ((w.extractLsb' 0 12).toNat : Int) = s.split.lRegen) := by
  refine ⟨_, rfl, ?_, fun hlo hhi => ?_⟩
  · simp [BitVec.extractLsb'_or]
  · rw [BitVec.extractLsb'_or, extractLsb'_fieldAt_outside _ (by omega), extractLsb'_fieldAt_same _ (by omega), BitVec.zero_or,
      BitVec.toNat_ofInt]
    omega

theorem brake_slip : ∃ w : Word, (s.recordWords p .brake)[3]? = some w ∧ w.getLsbD 15 = s.causeActive .slip ∧
    w.extractLsb' 0 2 = s.cut.slipTimer.code := by
  refine ⟨_, rfl, ?_, ?_⟩
  · simp [-BitVec.getLsbD_eq_getElem]
  · simp [BitVec.extractLsb'_or]

theorem thermal_code_le (l : ThermalLevel) : l.code ≤ 3 := by cases l <;> decide

theorem thermalWord_shows : ShowsThermal s (some s.thermalWord) :=
  ⟨_, rfl, packPairs_value (i := 0) rfl (by decide) (thermal_code_le _),
    packPairs_value (i := 1) rfl (by decide) (thermal_code_le _), packPairs_value (i := 2) rfl (by decide) (thermal_code_le _)⟩

theorem genset_request : ∃ w : Word, (s.recordWords p .genset)[0]? = some w ∧
    w.getLsbD 15 = decide (s.gen.mgr = .startRequested ∨ s.gen.mgr = .run ∨ s.gen.mgr = .absorb) ∧
    w.extractLsb' 0 3 = s.gen.mgr.code := by
  refine ⟨_, rfl, ?_, ?_⟩
  · have hrequest : s.gen.mgr.runRequest = decide (s.gen.mgr = .startRequested ∨ s.gen.mgr = .run ∨ s.gen.mgr = .absorb) := by
      cases s.gen.mgr <;> rfl
    rw [← hrequest]
    simp [-BitVec.getLsbD_eq_getElem]
  · simp [BitVec.extractLsb'_or]

theorem genset_starts : ∃ w : Word, (s.recordWords p .genset)[3]? = some w ∧ w.getLsbD 15 = s.gen.inhibit ∧
    w.extractLsb' 0 4 = BitVec.ofNat 4 s.gen.failCount := by
  refine ⟨_, rfl, ?_, ?_⟩
  · simp [-BitVec.getLsbD_eq_getElem]
  · simp [BitVec.extractLsb'_or]

/-! ### The counters, the latch and the notices (R58, R127, R191) -/

theorem counters_flow {k : Nat} {f : Flow} (h : (s.ports.get p).counters.toList[k]? = some f) :
    ∃ a b : Word, (s.recordWords p .counters)[2 * k]? = some a ∧ (s.recordWords p .counters)[2 * k + 1]? = some b ∧
      a ++ b = BitVec.ofInt 32 f.joules := by
  obtain ⟨hk, -⟩ := List.getElem?_eq_some_iff.mp h
  change k < 5 at hk
  interval_cases k <;> cases h <;> exact ⟨_, _, rfl, rfl, signedWords_join _⟩

theorem counters_saturated : ∃ w : Word, (s.recordWords p .counters)[10]? = some w ∧
    w.getLsbD 0 = (s.ports.get p).counters.motor.saturated ∧ w.getLsbD 1 = (s.ports.get p).counters.aux.saturated ∧
    w.getLsbD 2 = (s.ports.get p).counters.gs.saturated ∧ w.getLsbD 3 = (s.ports.get p).counters.bat.saturated ∧
    w.getLsbD 4 = (s.ports.get p).counters.fric.saturated := by
  refine ⟨_, rfl, ?_⟩
  simp [-BitVec.getLsbD_eq_getElem]

/-! ### Wear status (R143) -/

theorem codesWord_field (x : PerItem WearCode) {k : Nat} {item : WearItem} (h : itemOfNumber k = some item) :
    ((codesWord x).extractLsb' (3 * k) 3).toNat = (x.get item).code := by
  have hcode (c : WearCode) : (BitVec.ofNat 3 c.code).toNat = c.code := by cases c <;> rfl
  rw [← hcode]
  have hk := itemOfNumber_lt h
  interval_cases k <;> cases h <;> simp [codesWord, PerItem.get, BitVec.extractLsb'_or]

end Sys2Proof.Machine
end

section
/-! PROOFS. The words of the dump context, the wear record, the snapshot table and a sample, and the layouts settled (R147, R150,
R173, R178, R194 to R198). -/

namespace Sys2Proof.Machine

variable (s : State) (p : Port)

/-! ### The dump context and the dump range (R175, R178) -/

theorem dumpContext_status (d : DumpContext) : ∃ w : Word, d.words[0]? = some w ∧ w.extractLsb' 14 2 = d.status.code ∧
    w.extractLsb' 12 2 = (match d.reason with
      | none => 0#2
      | some .done => 1#2
      | some .lost => 2#2
      | some .cancelled => 3#2) ∧
    (∀ id, d.source = .descriptor id → w.getLsbD 11 = false ∧ w.extractLsb' 0 2 = id) ∧
    (∀ bits, d.source = .range bits → w.getLsbD 11 = true) := by
  have hlow (j : Nat) (hj : 12 ≤ j) : d.source.bits.extractLsb' j 2 = 0#2 := by
    cases d.source with
    | descriptor id => exact extractLsb'_fieldAt_outside id (.inr (by omega))
    | range bits =>
      rw [DumpSource.bits, BitVec.extractLsb'_or, extractLsb'_flagAt_outside true (.inl (by omega)),
        extractLsb'_fieldAt_outside bits (.inr (by omega)), BitVec.or_zero]
  refine ⟨_, rfl, ?status, ?reason, fun id h => ⟨?flag, ?id⟩, fun bits h => ?span⟩
  case status => simp [BitVec.extractLsb'_or, hlow]
  case reason =>
    have hcode : reasonCode d.reason = (match d.reason with
      | none => 0#2
      | some .done => 1#2
      | some .lost => 2#2
      | some .cancelled => 3#2) := by
      unfold reasonCode
      rcases d.reason with _ | _ | _ | _ <;> rfl
    exact Eq.trans (by simp [BitVec.extractLsb'_or, hlow]) hcode
  case flag => simp [h, DumpSource.bits, -BitVec.getLsbD_eq_getElem]
  case id => simp [h, DumpSource.bits, BitVec.extractLsb'_or]
  case span => simp [h, DumpSource.bits, -BitVec.getLsbD_eq_getElem]

/-! ### The wear record and the store status (R147, R150) -/

theorem plainWord_total {k : Nat} {item : WearItem} (h : itemOfNumber k = some item)
    (ht : (s.wear.items.get item).total ≤ 4294967295) :
    TwoWords (s.plainWord p (0xC0 + 2 * k)) (s.plainWord p (0xC1 + 2 * k)) (s.wear.items.get item).total := by
  have hk := itemOfNumber_lt h
  interval_cases k <;> cases h <;> exact twoWords_split ht

theorem plainWord_level {k : Nat} {item : WearItem} (h : itemOfNumber k = some item) :
    ∃ w : Word, s.plainWord p 0xCA = some w ∧
      ((s.wear.items.get item).level ≤ 3 → (w.extractLsb' (2 * k) 2).toNat = (s.wear.items.get item).level) := by
  refine ⟨_, rfl, fun hlevel => packPairs_value ?_ ?_ hlevel⟩
  all_goals have hk := itemOfNumber_lt h
  · interval_cases k <;> cases h <;> rfl
  · omega

theorem plainWord_store : ∃ w : Word, s.plainWord p 0xD0 = some w ∧ w.extractLsb' 0 2 = s.store.phase.code ∧
    w.getLsbD 4 = s.store.fault ∧ w.getLsbD 5 = s.store.pendingFlag ∧ w.getLsbD 8 = decide (s.store.active = .seg1) := by
  have hsegment : wordOfNat (s.store.active.number * 256) = flagAt (decide (s.store.active = .seg1)) 8 := by
    cases s.store.active <;> rfl
  have hword : s.plainWord p 0xD0 = some (fieldAt s.store.phase.code 0 ||| flagAt s.store.fault 4 |||
      flagAt s.store.pendingFlag 5 ||| flagAt (decide (s.store.active = .seg1)) 8) := by
    rw [← hsegment]
    rfl
  refine ⟨_, hword, ?_, ?_⟩
  · simp [BitVec.extractLsb'_or]
  · simp [-BitVec.getLsbD_eq_getElem]

/-! ### The snapshot table (R173) -/

theorem snapshots_state : ∃ w : Word, (s.recordWords p .snapshots)[2]? = some w ∧ w.extractLsb' 14 2 = s.rcd.state.code ∧
    w.extractLsb' 12 2 = s.rcd.level.code ∧ w.getLsbD 11 = s.rcd.empty := by
  refine ⟨_, rfl, ?_, ?_, ?_⟩
  case refine_3 => simp [-BitVec.getLsbD_eq_getElem]
  all_goals simp [BitVec.extractLsb'_or]

theorem table_toList (x : SnapshotTable) (id : BitVec 2) : x.toList[id.toNat]? = some (x.get id) := by
  obtain h | h | h | h : id = 0#2 ∨ id = 1#2 ∨ id = 2#2 ∨ id = 3#2 := by decide +revert
  all_goals subst h; rfl

theorem snapshots_states (id : BitVec 2) : ∃ w : Word, (s.recordWords p .snapshots)[3]? = some w ∧
    w.extractLsb' (2 * id.toNat) 2 = (s.rcd.table.get id).state.code := by
  refine ⟨_, rfl, BitVec.eq_of_toNat_eq (packPairs_value ?_ ?_ ?_)⟩
  · exact (List.getElem?_map ..).trans (congrArg _ (table_toList s.rcd.table id))
  · omega
  · omega

/-- The three words of a descriptor stand at its number. -/
theorem snapshots_descriptor (id : BitVec 2) :
    (s.recordWords p .snapshots)[4 + 3 * id.toNat]? = ((s.rcd.table.get id).words s.rcd.newest)[0]? ∧
    (s.recordWords p .snapshots)[5 + 3 * id.toNat]? = ((s.rcd.table.get id).words s.rcd.newest)[1]? ∧
    (s.recordWords p .snapshots)[6 + 3 * id.toNat]? = ((s.rcd.table.get id).words s.rcd.newest)[2]? := by
  obtain h | h | h | h : id = 0#2 ∨ id = 1#2 ∨ id = 2#2 ∨ id = 3#2 := by decide +revert
  all_goals subst h; exact ⟨rfl, rfl, rfl⟩

theorem trigger_code_lt (c : TriggerCause) : c.code < 8 := by cases c <;> decide

theorem descriptor_cause (d : Descriptor) (newest : Nat) : ∃ w : Word, (d.words newest)[0]? = some w ∧
    (w.extractLsb' 13 3).toNat = d.cause.code ∧ (w.extractLsb' 0 13).toNat = min 8191 (newest - d.trigger) := by
  obtain ⟨hhigh, hlow⟩ := packed_fields (m := d.cause.code) (n := min 8191 (newest - d.trigger)) (k := 13) (by decide) (by omega)
  exact ⟨_, rfl, hhigh.trans (Nat.mod_eq_of_lt (trigger_code_lt _)), hlow⟩

theorem descriptor_first (d : Descriptor) (newest : Nat) : ∃ w : Word, (d.words newest)[1]? = some w ∧
    (d.trigger - d.first ≤ 4095 → (w.extractLsb' 4 12).toNat = d.trigger - d.first) ∧
    (d.retriggers ≤ 255 → (w.extractLsb' 0 4).toNat = d.retriggers / 16) := by
  obtain ⟨hhigh, hlow⟩ := packed_fields (m := d.trigger - d.first) (n := d.retriggers / 16 % 16) (k := 4) (by decide) (by omega)
  exact ⟨_, rfl, fun h => hhigh.trans (Nat.mod_eq_of_lt (by omega)), fun h => hlow.trans (by omega)⟩

theorem descriptor_last (d : Descriptor) (newest : Nat) : ∃ w : Word, (d.words newest)[2]? = some w ∧
    (d.last - d.trigger ≤ 4095 → (w.extractLsb' 4 12).toNat = d.last - d.trigger) ∧
    (w.extractLsb' 0 4).toNat = d.retriggers % 16 := by
  obtain ⟨hhigh, hlow⟩ := packed_fields (m := d.last - d.trigger) (n := d.retriggers % 16) (k := 4) (by decide) (by omega)
  exact ⟨_, rfl, fun h => hhigh.trans (Nat.mod_eq_of_lt (by omega)), hlow⟩

/-! ### A sample (R197) -/

theorem sample_state (x : Sample) : ∃ w : Word, x.words[9]? = some w ∧ w.extractLsb' 14 2 = x.runState.code ∧
    w.extractLsb' 12 2 = x.mode.code ∧ w.extractLsb' 9 3 = x.mgr.code ∧ w.extractLsb' 7 2 = x.dir.code ∧
    w.extractLsb' 5 2 = x.level.code := by
  refine ⟨_, rfl, ?_⟩
  simp [BitVec.extractLsb'_or]

end Sys2Proof.Machine
end

section
/-! PROOFS. The layouts settled (R193 to R198). -/

namespace Sys2Proof.Machine

/-- Settles O21: each layout by the lemma about its word. -/
theorem layoutsShowFields : Obligations.LayoutsShowFields := by
  refine ⟨fun r => ⟨bitParity_response r, response_command r, response_result r, response_attention r, response_runState r,
      response_headline r, response_payload r⟩,
    fun _ => wordOf_toInt, fun _ => wordOfNat_value, by decide, ?numbers, ?results, recordTable_bounds, fun _ _ => recordAt_iff,
    fun p s => ?words⟩
  case numbers =>
    exact ⟨by decide, by decide, by decide, itemOfNumber_past, by decide, by decide, by decide⟩
  case results => exact ⟨by decide, by decide, fun e => rfl, by decide, by decide⟩
  case words =>
    refine ⟨plainWord_reports s p, plainWord_settings s p, status_first s p, rfl, status_stale s p, rfl, traction_torque s p,
      traction_direction s p, traction_valid s p, rfl, rfl, brake_regen s p, brake_slip s p, thermalWord_shows s, rfl,
      genset_request s p, rfl, genset_starts s p, rfl, ⟨fun _ _ => counters_flow s p, counters_saturated s p⟩, rfl, rfl,
      fun k item h => ⟨_, _, rfl, codesWord_field _ h, ?status⟩,
      ⟨dumpContext_status _, twoWords_split, twoWords_split, rfl⟩, ⟨twoWords_split, rfl⟩, plainWord_entries s p,
      fun k item h => ⟨plainWord_total s p h, plainWord_level s p h⟩, ⟨rfl, rfl, rfl⟩, thermalWord_shows s, rfl,
      plainWord_store s p, rfl, twoWords_split, twoWords_split, snapshots_state s p, fun id => ?descriptor,
      fun x => ⟨rfl, twoWords_split, rfl, rfl, sample_state x⟩⟩
    case status =>
      have hstatus : s.wearStatuses.get item = s.wearStatus item := by cases item <;> rfl
      exact hstatus ▸ codesWord_field s.wearStatuses h
    case descriptor =>
      obtain ⟨hcause, hfirst, hlast⟩ := snapshots_descriptor s p id
      rw [hcause, hfirst, hlast]
      exact ⟨snapshots_states s p id, descriptor_cause _ _, descriptor_first _ _, descriptor_last _ _⟩

end Sys2Proof.Machine
end
